-- ==== Sys2Proof/Word.lean ====
section
/-! DEFINITION. The word types of the Fjartis 64 and their plainest arithmetic (R3, R4, R90). -/

namespace Sys2Proof

/-- A register, a memory doubleword, a value of machine time: 64 bits. -/
abbrev W64 := BitVec 64
/-- A coherence granule: one line of 128 bytes, byte 0 in the low bits (R90). -/
abbrev Line := BitVec 1024
/-- One stored block: 8 beats of 18 bytes, byte of beat j and layer L at bits 8(18j+L) (R49, R51). -/
abbrev Block := BitVec 1152
/-- A system physical address: 52 bits (R35). -/
abbrev Spa := BitVec 52
/-- An agent ID: device in bits 11..6, Hinge port in 5..2, agent of the port in 1..0 (R23). -/
abbrev AgentId := BitVec 12

/-- Bits hi..lo of a number. -/
def bitsOf (v hi lo : Nat) : Nat := (v >>> lo) % 2 ^ (hi + 1 - lo)

/-- Bit i of a number. -/
def bitOf (v i : Nat) : Bool := v.testBit i

/-- The number v with bits hi..lo replaced by x. -/
def setBits (v hi lo x : Nat) : Nat :=
  v - (bitsOf v hi lo) * 2 ^ lo + (x % 2 ^ (hi + 1 - lo)) * 2 ^ lo

/-- A bit as a number. -/
def b2n (b : Bool) : Nat := if b then 1 else 0

/-- Addition that stops at a ceiling. -/
def satAdd (a b cap : Nat) : Nat := min (a + b) cap

end Sys2Proof
end

