-- ==== Sys2Proof/Syntax.lean ====
section
/-! DEFINITION. The messages of the Fjartis 64 (R89, R90, R164, R291 to R307) and its commands: one constructor
of Instr per row of the opcode table. -/

namespace Sys2Proof

/-- The ATOM sub-fields of AtomicH and AtomicM (R164). -/
structure Atom where
  aop : BitVec 6 := 0
  asz : BitVec 2 := 0
  ret : Bool := false
  lmask : BitVec 32 := 0
  opa : BitVec 128 := 0
  opb : BitVec 128 := 0
  vop : BitVec 1024 := 0
  deriving DecidableEq, Repr

/-- A request message with the fields of R90; a field the opcode does not carry is zero. pcls and homeDev are the
fabric fields. -/
structure Req where
  opc : BitVec 4 := 0
  src : BitVec 12 := 0
  tag : BitVec 10 := 0
  ocl : BitVec 4 := 0
  addr : BitVec 52 := 0
  pst : Bool := false
  mask : BitVec 128 := 0
  data : BitVec 1024 := 0
  psn : Bool := false
  ncnt : BitVec 8 := 0
  stamp : BitVec 16 := 0
  anc : Bool := false
  atom : Atom := {}
  pcls : BitVec 4 := 0
  homeDev : BitVec 6 := 0
  deriving DecidableEq, Repr

/-- The snoop opcodes (R92). -/
inductive SnpOp where
  | inv | data | invData | cur
  deriving DecidableEq, Repr

/-- The answer to a snoop, as an agent sends it (R94). -/
inductive AnsKind where
  | ack | notPresent | ackData
  deriving DecidableEq, Repr

/-- A snoop answer with its fields (R90, R94). -/
structure Ans where
  kind : AnsKind := .ack
  src : BitVec 12 := 0
  hdev : BitVec 6 := 0
  htag : BitVec 16 := 0
  psn : Bool := false
  data : BitVec 1024 := 0
  deriving DecidableEq, Repr

/-- A response or data message as a Hinge port receives it from an agent, whatever its opcode (R92, R93). -/
structure AgentMsg where
  isData : Bool := false
  opc : BitVec 4 := 0
  src : BitVec 12 := 0
  hdev : BitVec 6 := 0
  htag : BitVec 16 := 0
  psn : Bool := false
  data : BitVec 1024 := 0
  deriving DecidableEq, Repr

/-- A Nack's further fields (R120, R121). -/
structure NackInfo where
  ncnt : BitVec 8 := 0
  stamp : BitVec 16 := 0
  anc : Bool := false
  retry : BitVec 12 := 0
  rsn : BitVec 3 := 0
  deriving DecidableEq, Repr

/-- A message from the device to an agent (R90, R92): a snoop, a response or AckData. -/
inductive OutMsg where
  | snp (op : SnpOp) (dst : BitVec 12) (addr : BitVec 52) (hdev : BitVec 6) (htag : BitVec 16)
  | ack (dst : BitVec 12) (tag : BitVec 10) (gst : BitVec 2)
  | ackData (dst : BitVec 12) (tag : BitVec 10) (gst : BitVec 2) (data : BitVec 1024)
  | nack (dst : BitVec 12) (tag : BitVec 10) (n : NackInfo)
  | poisoned (dst : BitVec 12) (tag : BitVec 10)
  | fenceDone (dst : BitVec 12) (tag : BitVec 10) (pf : Bool) (pfseq : BitVec 32)
  | targetDown (dst : BitVec 12) (tag : BitVec 10)
  | targetClosing (dst : BitVec 12) (tag : BitVec 10)
  deriving DecidableEq, Repr

/-- The notices of R294 with their fields; opc of unused is 9 to 15. -/
inductive NoteBody where
  | dmark (tag : BitVec 10) (pan : BitVec 6) (lost : Bool)
  | wdone (tag : BitVec 10)
  | tmo
  | pfault (cause : BitVec 16) (time : BitVec 64) (unit : BitVec 12) (addr : BitVec 52)
  | gone (cause : BitVec 2)
  | cleaned
  | ungone
  | gsnp (addr : BitVec 52) (htag : BitVec 16)
  | gack (htag : BitVec 16)
  | unused (opc : BitVec 4)
  deriving DecidableEq, Repr

/-- A notice: destination and source device and the AGENT field (R294). -/
structure Notice where
  ddev : BitVec 6 := 0
  sdev : BitVec 6 := 0
  agent : BitVec 12 := 0
  body : NoteBody := .tmo
  deriving DecidableEq, Repr

/-- A management message (R307); opc is 0 MRD, 1 MWR, 2 MCPL, 3 MVEC, 4 to 15 unused. -/
structure Mgmt where
  opc : BitVec 4 := 0
  ddev : BitVec 6 := 0
  sdev : BitVec 6 := 0
  mtag : BitVec 8 := 0
  offset : BitVec 26 := 0
  w32 : Bool := false
  data : BitVec 64 := 0
  status : BitVec 3 := 0
  deriving DecidableEq, Repr

/-- The body of a Knuckle message, by class (R291, R292). -/
inductive KBody where
  | req (r : Req)
  | out (m : OutMsg)
  | ans (a : Ans)
  | note (n : Notice)
  | mgmt (m : Mgmt)
  deriving DecidableEq, Repr

/-- A Knuckle message with its channel and route epoch (R291). -/
structure KMsg where
  kvc : BitVec 3 := 0
  re : Bool := false
  body : KBody
  deriving DecidableEq, Repr

/-- How a memory-port access ended: completed, completed with poison, an error completion, or a failure of the port
(link down, no completion, aborted message) (R30, R147, R315); or a message of the device that is none of those accepted
(R311). -/
inductive MemSt where
  | ok | poison | error | failed | other
  deriving DecidableEq, Repr

/-- The target of a snoop: an agent, or a device reached by a group snoop (R109). -/
inductive SnpTgt where
  | agent (a : BitVec 12)
  | dev (d : BitVec 6)
  deriving DecidableEq, Repr

/-- The blocks that hold an arbiter set (R494). -/
inductive ArbBlk where
  | dev
  | hp (p : Fin 16)
  | kl (l : Fin 8)
  | mp (m : Fin 8)
  | bed (b : Fin 8)
  | pan (p : Fin 64)
  deriving DecidableEq, Repr

/-- The privileged requesters (R200). -/
inductive Priv where
  | mgmt
  | core (c : Fin 4)
  | rake (b : Fin 8)
  deriving DecidableEq, Repr

/-- A link of the flit layer: a Hinge port's link (half 1 when half says so) or a Knuckle link (R247, R287). -/
inductive LinkRef where
  | hp (p : Fin 16) (half : Bool)
  | kl (l : Fin 8)
  deriving DecidableEq, Repr

/-- A Hinge port or a Knuckle link as the register HP_LINK_CTL or KL_LINK_CTL controls it (R285, R319). -/
inductive PortRef where
  | hp (p : Fin 16)
  | kl (l : Fin 8)
  deriving DecidableEq, Repr

/-- What a port requester of a packer or of a Knuckle egress queue is passing through (R198): a message as a link carries it, or
the read data or atomic result that a memory port returns for a tracker entry. -/
inductive Part where
  | msg (m : KBody)
  | mem (trk : Fin 768)
  deriving DecidableEq, Repr

/-- What the command ARB_GRACE says of a port requester that goes on passing a message (R198): which message, how many more of its
cells are linked, and for how many arbiter cycles the requester has held the resource. -/
structure Passing where
  m : Part
  cells : Fin 8 := 0
  held : Nat := 0
  deriving DecidableEq, Repr

/-- A privileged requester that holds a resource, and for how many arbiter cycles it has (R200). -/
structure PrivHold where
  r : Priv
  held : Nat := 0
  deriving DecidableEq, Repr

/-- What a Fence carries beside its agent (R18, R91): its tag, and in a retried one the count, the stamp and the ancient bit of
its Nack. -/
structure FenceTag where
  tag : BitVec 10
  ncnt : BitVec 8 := 0
  stamp : BitVec 16 := 0
  anc : Bool := false
  deriving DecidableEq, Repr

/-- A doubleword of the image window, and whether the write of it comes forwarded through the Knuckle management channel (R473). -/
structure WinWord where
  k : BitVec 20
  fwd : Bool := false
  deriving DecidableEq, Repr

/-- What a memory-port target is found to be at enumeration (R311, R312): a Type 3 device, with Mem_Capable set, with one logical
device of HDM-H and no back-invalidation, its capacity in units of 256 MiB, the sizes of its memory BARs as powers of two, and
which of the writes of steps 3 and 4 it takes. -/
structure MemDev where
  type3 : Bool := true
  memCap : Bool := true
  single : Bool := true
  cap : Nat := 0
  bars : List (Fin 64) := []
  takesHdm : Bool := true
  takesMsi : Bool := true
  deriving DecidableEq, Repr

/-- A port with a bandwidth window (R418, R419). -/
inductive BwRef where
  | hp (p : Fin 16)
  | kl (l : Fin 8)
  | mp (m : Fin 8)
  deriving DecidableEq, Repr

/-- The readings of a bed's sensors in units of 0.25 °C: four of the die, three of the stack (R450). -/
structure BedTemp where
  die : List (BitVec 10) := []
  stk : List (BitVec 10) := []
  deriving DecidableEq, Repr

/-- A lane block as one physical lane receives it, bit 0 first: its SYNC, LANE and TSID fields (R257). -/
structure LaneBlk where
  sync : BitVec 40
  lane : BitVec 4
  tsid : BitVec 2
  deriving DecidableEq, Repr

/-- An event record of a CXL device (R317): its log (0 informational, 1 warning, 2 failure, 3 fatal), its handle, and
the device address that it carries, if any. -/
structure MemEvent where
  log : BitVec 2
  handle : BitVec 16
  dpa : Option (BitVec 52) := none
  deriving DecidableEq, Repr

/-- A command block but for its OPC (R482): the device, the reserved bits of word 0, the arguments, the counter and the
tag. -/
structure CmdBlk where
  dev : BitVec 6
  rsv : BitVec 42 := 0
  a0 : BitVec 64 := 0
  a1 : BitVec 64 := 0
  a2 : BitVec 64 := 0
  a3 : BitVec 64 := 0
  a4 : BitVec 64 := 0
  counter : BitVec 64
  tag : BitVec 64
  deriving DecidableEq, Repr

/-- The fields of an R-format instruction beside its opcode and function (R328): u holds fn[10:6]. -/
structure RArgs where
  rd : BitVec 5
  rs : BitVec 5
  rt : BitVec 5
  u : BitVec 5 := 0
  deriving DecidableEq, Repr

/-- The fields of an AMO (R335): sz is fn[5:4], u is fn[10:6]. -/
structure AmoArgs where
  rd : BitVec 5
  rs : BitVec 5
  rt : BitVec 5
  sz : BitVec 2
  u : BitVec 5 := 0
  deriving DecidableEq, Repr

/-- The fields of CRC32C (R354): sz is fn[1:0], u is fn[10:2]. -/
structure CrcArgs where
  rd : BitVec 5
  rs : BitVec 5
  rt : BitVec 5
  sz : BitVec 2
  u : BitVec 9 := 0
  deriving DecidableEq, Repr

/-- The fields of BMOV (R353): u is fn. -/
structure BmovArgs where
  rd : BitVec 5
  rs : BitVec 5
  rt : BitVec 5
  u : BitVec 11 := 0
  deriving DecidableEq, Repr

/-- The fields of a floating-point instruction (R356): p is fn[10], u is fn[9:5]. -/
structure FArgs where
  rd : BitVec 5
  rs : BitVec 5
  rt : BitVec 5
  p : Bool
  u : BitVec 5 := 0
  deriving DecidableEq, Repr

/-- The fields of an I-format instruction (R328). -/
structure IArgs where
  rd : BitVec 5
  rs : BitVec 5
  imm : BitVec 16
  deriving DecidableEq, Repr

/-- The fields of SHIFTI beside the kind of shift (R331): sh is imm16[5:0], u is imm16[15:8]. -/
structure ShArgs where
  rd : BitVec 5
  rs : BitVec 5
  sh : BitVec 6
  u : BitVec 8 := 0
  deriving DecidableEq, Repr

/-- The fields of a B-format instruction (R328). -/
structure BArgs where
  rs : BitVec 5
  rt : BitVec 5
  off : BitVec 16
  deriving DecidableEq, Repr

/-- The fields of an L-format instruction (R328). -/
structure LArgs where
  lv : Bool
  rs : BitVec 5
  imm : BitVec 10
  len : BitVec 10
  deriving DecidableEq, Repr

/-- The fields of an S-format instruction beside SUB (R328). -/
structure SArgs where
  rd : BitVec 5
  rs : BitVec 5
  sr : BitVec 8
  deriving DecidableEq, Repr

/-- The instructions of the JTAG TAP (R512). -/
inductive TapIns where
  | bypass | samplePreload | extest | extestPulse | extestTrain
  deriving DecidableEq, Repr

/-- The commands of the Fjartis 64: one constructor per row of the opcode table, in its order. -/
inductive Instr where
  /-- POWER_ON (R426): VDD_SVC and VDD_IO reach their operating range: a power-on reset of the service region starts and the device enters RAMP. -/
  | powerOn
  /-- POWER_OFF (R426): VDD_SVC leaves its operating range and the device goes to OFF. -/
  | powerOff
  /-- RAMP_TO_BLANK (R426): PWR_GOOD and DEV_RESET_N have both been high for 1 ms: straps are sampled and the device enters BLANK. -/
  | rampToBlank (headSel : Bool) (id : BitVec 6)
  /-- PWR_GOOD_LOW (R426): A recognised low on PWR_GOOD from BLANK onward returns the device to RAMP and starts a device reset. -/
  | pwrGoodLow
  /-- DEV_RESET_N_ASSERT (R438): DEV_RESET_N is seen low for 120 samples: a device reset starts, and it clears everything that is not kept. -/
  | devResetNAssert
  /-- DEV_RESET_N_RELEASE (R22): The rising edge that ends a device reset samples HEAD_SEL and ID_0 to ID_5, and the device enters BLANK. -/
  | devResetNRelease (headSel : Bool) (id : BitVec 6)
  /-- HINGE_REQUEST_RECEIVED (R39): A Hinge port receives a whole request: it stamps the request, assigns its class, evaluates the interleave table, and writes the request to a brine pool or to a Knuckle egress queue. -/
  | hingeRequestReceived (port : Fin 16) (r : Req)
  /-- AGENT_RESPONSE_RECEIVED (R93): A Hinge port receives a response or data message from an agent and forwards it when it is a snoop answer, or discards it otherwise. -/
  | agentResponseReceived (port : Fin 16) (m : AgentMsg)
  /-- FENCE (R125): A Fence arrives at a Hinge port and is held, or is refused with Nack when 16 Fences of the agent are outstanding. -/
  | fence (port : Fin 16) (src : BitVec 12) (tag : FenceTag)
  /-- FENCE_DONE (R150): Once every earlier request of the agent has its final response and every earlier posted request is performed, the port sends FenceDone with PF and PFSEQ and marks records seen. -/
  | fenceDone (port : Fin 16) (src : BitVec 12)
  /-- RDSHARED (R113): The home pan admits and applies a RdShared to the line's metadata. -/
  | rdshared (p : Fin 64) (q : Fin 32)
  /-- RDOWN (R113): The home pan admits and applies a RdOwn. -/
  | rdown (p : Fin 64) (q : Fin 32)
  /-- UPGRADE (R113): The home pan admits and applies an Upgrade. -/
  | upgrade (p : Fin 64) (q : Fin 32)
  /-- RDCURRENT (R113): The home pan admits and applies a RdCurrent. -/
  | rdcurrent (p : Fin 64) (q : Fin 32)
  /-- WRINVFULL (R113): The home pan admits and applies a WrInvFull. -/
  | wrinvfull (p : Fin 64) (q : Fin 32)
  /-- WRINVPART (R82): The home pan admits a WrInvPart and performs it as a read-modify-write. -/
  | wrinvpart (p : Fin 64) (q : Fin 32)
  /-- WRBACKM (R129): The home pan starts, absorbs, or discards a WrBackM. -/
  | wrbackm (p : Fin 64) (q : Fin 32)
  /-- ATOMICH (R174): The home pan performs an AtomicH in its atomic unit. -/
  | atomich (p : Fin 64) (q : Fin 32)
  /-- ATOMICM (R175): The home pan performs an AtomicM, or sends it to the atomic stage of a memory port. -/
  | atomicm (p : Fin 64) (q : Fin 32)
  /-- WAIT_CHAIN_START (R99): When a busy line frees, the highest-ranking waiter in its wait chain starts its transaction. -/
  | waitChainStart (p : Fin 64) (psi : BitVec 20) (ltag : BitVec 11)
  /-- ALLOC_RETRY (R73): An allocation that waited for a reservation or busy line to end chooses its victim again. -/
  | allocRetry (p : Fin 64) (trk : Fin 768)
  /-- MDC_MISS_RESUME (R61): A metadata-cache miss that waited on a fully pinned set, or on a full write queue, proceeds. -/
  | mdcMissResume (p : Fin 64) (trk : Fin 768)
  /-- FILL_RESUME (R29): A fill that waited for a free write-buffer entry writes its way once an entry frees. -/
  | fillResume (p : Fin 64) (trk : Fin 768)
  /-- STACK_DATA_STAGED (R222): A block read from the stack is staged in the pan and decoded, and the transaction continues with the outcome. -/
  | stackDataStaged (p : Fin 64) (trk : Fin 768) (err : BitVec 1152)
  /-- MDWQ_WRITE (R62): The metadata write queue writes an entry to its set's slot 15, when it holds 8 entries, when an entry is 1 µs old, or when its row is open. -/
  | mdwqWrite (p : Fin 64) (ix : Fin 16)
  /-- WB_SEND (R78): The write buffer sends its oldest HELD entry to the memory port as a posted write. -/
  | wbSend (p : Fin 64)
  /-- MEMDATA (R314): Read data arrives from a memory port, or a failed read arrives as poisoned data, and is delivered to its pan. -/
  | memdata (p : Fin 64) (trk : Fin 768) (line : BitVec 1024) (psn : Bool) (st : MemSt)
  /-- CMP (R30): A memory port returns a write completion, and the write-buffer entry is freed or resent. -/
  | cmp (p : Fin 64) (psi : BitVec 20) (ltag : BitVec 11) (st : MemSt)
  /-- ATOMIC_RESULT (R175): A memory port's atomic stage returns the result and flags of an AtomicM to the pan, which responds and ends the transaction. -/
  | atomicResult (p : Fin 64) (trk : Fin 768) (line : BitVec 1024) (st : MemSt)
  /-- ACK (R133): An Ack snoop answer arrives at the home and is matched to its outstanding snoop. -/
  | ack (dst : Fin 65) (q : Fin 32)
  /-- NOT_PRESENT (R131): A NotPresent snoop answer arrives, or an owner's NotPresent starts the wait for its WrBackM. -/
  | notPresent (dst : Fin 65) (q : Fin 32)
  /-- ACKDATA (R133): An AckData snoop answer with the owner's line arrives at the home. -/
  | ackdata (dst : Fin 65) (q : Fin 32)
  /-- GRANT_SENT (R98): The last flit of a grant of S or M leaves the Hinge port, which returns a delivery mark to the home. -/
  | grantSent (port : Fin 16) (dst : BitVec 12) (tag : BitVec 10)
  /-- DMARK (R98): A delivery mark, or a lost mark, reaches the home, which ends the transaction and opens a hold window for M. -/
  | dmark (p : Fin 64) (agent : BitVec 12) (tag : BitVec 10) (lost : Bool)
  /-- HOLD_WINDOW_END (R117): A hold window's PAN_HOLD.CYCLES expire, and the deferred snoop leaves. -/
  | holdWindowEnd (p : Fin 64) (psi : BitVec 20) (ltag : BitVec 11)
  /-- WDONE (R102): A write-done notice reaches the requester's Hinge port for Fence tracking. -/
  | wdone (agent : BitVec 12) (tag : BitVec 10)
  /-- SNOOP_TIMEOUT (R135): A snoop timer expires and the outcome is settled as acknowledged or as poison. -/
  | snoopTimeout (dst : Fin 65) (ix : Fin 768) (tgt : SnpTgt)
  /-- TMO (R136): A timeout notice reaches the agent's Hinge port, which increments its count and may declare the agent dead. -/
  | tmo (agent : BitVec 12)
  /-- GONE (R139): A GONE notice reaches a pan, which sets the gone bit, settles outstanding snoops, and raises cleanup. -/
  | gone (p : Fin 64) (agent : BitVec 12)
  /-- CLEANED (R141): A device's cleanup completion reaches the agent's port, which sends UNGONE and grants credits once every device has reported. -/
  | cleaned (dev : BitVec 6) (agent : BitVec 12)
  /-- UNGONE (R141): An UNGONE notice clears the agent's gone bit in a pan. -/
  | ungone (p : Fin 64) (agent : BitVec 12)
  /-- CLEANUP_TMO (R141): A device has not reported cleanup within 200 ms plus twice TMO_US and is counted as reported. -/
  | cleanupTmo (agent : BitVec 12) (dev : BitVec 6)
  /-- PFAULT (R149): A posted-fault notice reaches the device, which writes a posted-fault record and raises POSTED_FAULT. -/
  | pfault (sdev : BitVec 6) (agent : BitVec 12) (cause : BitVec 16) (time : BitVec 64) (unit : BitVec 12) (addr : BitVec 52)
  /-- LOG_FULL (R160): When the error log next has room after drops, it writes a LOG_FULL record. -/
  | logFull
  /-- COMB_IDLE_WRITEBACK (R179): A combining-buffer entry idle for COMB_IDLE pan cycles is written back and released. -/
  | combIdleWriteback (p : Fin 64) (psi : BitVec 20) (ltag : BitVec 11)
  /-- PAN_ATOM_CTL (R183): A write to PAN_ATOM_CTL applies COMB_IDLE at once and writes back every entry when COMB_EN becomes 0. -/
  | panAtomCtl (p : Fin 64) (v : BitVec 64)
  /-- ANCIENT_BIT_SET (R187): A periodic age evaluation finds a held request aged 1 ms or more and sets its ancient bit. -/
  | ancientBitSet
  /-- ARB_GRACE (R198): A port requester holds a resource for MAX_HOLD arbiter cycles and enters grace. -/
  | arbGrace (b : ArbBlk) (n : Fin 8) (port : Fin 32) (queue : BitVec 10) (cells : Passing)
  /-- ARB_CUTOFF (R198): Grace expires without a break point: the grant ends with ABORT and the port is quarantined and reset. -/
  | arbCutoff (b : ArbBlk) (n : Fin 8) (port : Fin 32)
  /-- ARB_PRIV_LIMIT (R200): A privileged requester passes MAX_HOLD plus BREAK_GRACE and is reset or waited on under RESET_MASK. -/
  | arbPrivLimit (b : ArbBlk) (n : Fin 8) (r : PrivHold)
  /-- ARB_COMMIT_NOW (R201): A write of COMMIT_NOW copies every shadow priority of the block into the active registers. -/
  | arbCommitNow (b : ArbBlk)
  /-- ARB_COMMIT_TIMED (R201): A write of COMMIT_TIMED schedules a priority commit at ARB_COMMIT_AT. -/
  | arbCommitTimed (b : ArbBlk)
  /-- ARB_COMMIT_INSTANT (R201): A scheduled priority commit reaches its instant and copies the shadows. -/
  | arbCommitInstant (b : ArbBlk)
  /-- BUCKET_LEAK (R227): Every LEAK_MS, every layer bucket of the bed decreases by 1. -/
  | bucketLeak (b : Fin 8)
  /-- BED_ERASE (R231): A write to BED_ERASE marks a layer erased in a channel that has no erasure. -/
  | bedErase (b : Fin 8) (v : BitVec 64)
  /-- REFRESH (R232): A per-bank refresh command is issued at its interval, ahead of every other command. -/
  | refresh (b : Fin 8) (ch : Fin 8)
  /-- RAKE_ROW_VISIT (R236): At its scheduled time, the rake reads a row, writes back corrected blocks, and hands uncorrectable blocks to the pan. -/
  | rakeRowVisit (b : Fin 8) (ch : Fin 8) (errs : List (Fin 256 × BitVec 1152)) (written : List (Fin 256))
  /-- RAKE_START_NOW (R240): A write of START_NOW starts a new rake pass at index 0. -/
  | rakeStartNow (b : Fin 8)
  /-- RAKE_START_TIMED (R240): A write of START_TIMED schedules a pass start at BED_RAKE_START_AT. -/
  | rakeStartTimed (b : Fin 8)
  /-- RAKE_START_INSTANT (R240): A timed rake pass start reaches its instant. -/
  | rakeStartInstant (b : Fin 8)
  /-- WRITE_ENC (R241): The checker encodes the test data and writes the codeword to all 8 beats of a test-row block. -/
  | writeEnc (b : Fin 8) (v : BitVec 64)
  /-- WRITE_DATA (R241): The checker writes data layers 0 to 15 of a test-row block. -/
  | writeData (b : Fin 8) (v : BitVec 64)
  /-- WRITE_CHECK (R241): The checker writes check layers 16 and 17 of a test-row block. -/
  | writeCheck (b : Fin 8) (v : BitVec 64)
  /-- WRITE_RAW (R241): The checker writes all 18 bytes unencoded to a test-row block. -/
  | writeRaw (b : Fin 8) (v : BitVec 64)
  /-- READ (R242): The checker reads and decodes a test-row block and reports one beat. -/
  | read (b : Fin 8) (v : BitVec 64)
  /-- CHK_OP_DONE (R243): A checker operation completes and DONE becomes 1. -/
  | chkOpDone (b : Fin 8)
  /-- SRAM_SWEEP (R244): A periodic idle sweep of a large SRAM corrects and rewrites single-bit errors. -/
  | sramSweep (unit : BitVec 12) (id : BitVec 4) (word : BitVec 20) (dbl : Bool) (sel : Nat)
  /-- LANE_BLOCK (R257): A lane block received in training advances DETECT, ALIGN or CODEWORD. -/
  | laneBlock (l : LinkRef) (blks : List LaneBlk) (skew : BitVec 8)
  /-- CODEWORD (R256): A codeword is received and decoded, and its flits are passed on or lost, which may put the link out of sync. -/
  | codeword (l : LinkRef) (sync : BitVec 4) (errs : List (Fin 544)) (seqd : Bool)
  /-- LINK_STATE_TIMEOUT (R259): ALIGN, CODEWORD or CONFIG lasts 2 ms and the link returns to DETECT. -/
  | linkStateTimeout (l : LinkRef)
  /-- CONFIG_PAUSE_END (R260): The 100 ms pause after a CONFIG mismatch ends and the link enters DETECT. -/
  | configPauseEnd (l : LinkRef)
  /-- CLOSED_SIGNAL_DETECT (R259): Signal on logical lane 0 for 1 µs moves a CLOSED link to DETECT. -/
  | closedSignalDetect (l : LinkRef)
  /-- CFG (R260): A CFG flit from the peer is checked against the declaration, or the neighbour and credits. -/
  | cfg (l : LinkRef) (flit : BitVec 512)
  /-- CFG_ACK (R260): CFG_ACK is received and the link enters ACTIVE with sequences at 0. -/
  | cfgAck (l : LinkRef) (flit : BitVec 512)
  /-- MSG (R274): A sequenced header flit and its payload are accepted, discarded as duplicates, or answered with REPLAY_REQ, and its messages and credits are taken. -/
  | msg (l : LinkRef) (flit : BitVec 512) (pay : List (BitVec 512))
  /-- IDLE (R263): An IDLE flit carries only its ACK, which frees replay-buffer entries. -/
  | idle (l : LinkRef) (flit : BitVec 512)
  /-- REPLAY_REQ (R275): A REPLAY_REQ from the peer makes the sender replay from RSEQ, ignore the request, or retrain. -/
  | replayReq (l : LinkRef) (flit : BitVec 512)
  /-- REPLAY_REQ_REPEAT (R275): A waiting receiver resends REPLAY_REQ every 1 µs and retrains after eight. -/
  | replayReqRepeat (l : LinkRef)
  /-- UNUSED_CTL (R269): An unused CTL command is ignored and counted. -/
  | unusedCtl (l : LinkRef) (flit : BitVec 512)
  /-- RETRAIN_RETURN (R277): A retrained link returns to ACTIVE and requests replay from RX_EXPECT. -/
  | retrainReturn (l : LinkRef)
  /-- RETRAIN_LIMIT (R279): RETRAIN lasts RETRAIN_MS and the port or link is reset. -/
  | retrainLimit (l : LinkRef)
  /-- PORT_RESET (R280): A PORT_RESET flit, or another cause, resets the Hinge port or Knuckle link, making its agents gone and clearing link state. -/
  | portReset (l : LinkRef) (flit : BitVec 512)
  /-- PORT_RESET_DETECT (R280): 1 µs after the PORT_RESET flits, the reset port or link enters DETECT. -/
  | portResetDetect (l : LinkRef)
  /-- LINK_CTL_RESET (R279): A write of RESET to HP_LINK_CTL or KL_LINK_CTL starts a port or link reset. -/
  | linkCtlReset (r : PortRef)
  /-- LINK_CTL_CLOSE (R282): A write of CLOSE sends CLOSE_REQ and starts the close handshake. -/
  | linkCtlClose (r : PortRef)
  /-- LINK_CTL_OPEN (R284): A write of OPEN moves a CLOSED port or link to DETECT. -/
  | linkCtlOpen (r : PortRef)
  /-- CLOSE_REQ (R282): A CLOSE_REQ from the peer or agent moves the link to CLOSING, and the device answers with its own. -/
  | closeReq (l : LinkRef) (flit : BitVec 512)
  /-- CLOSE_READY (R282): CLOSE_READY is received; when every agent is ready, the port makes them gone and sends CLOSE_DONE. -/
  | closeReady (l : LinkRef) (flit : BitVec 512)
  /-- CLOSE_DONE (R455): CLOSE_DONE from a Knuckle peer completes the close. -/
  | closeDone (l : LinkRef) (flit : BitVec 512)
  /-- CLOSE_TMO (R283): CLOSE_TMO_MS expires: the close completes with the unready agents gone, logged as HINGE_CLOSE_TMO or LINK_CLOSE_TMO. -/
  | closeTmo (r : PortRef)
  /-- ELECTRICAL_IDLE_ENTRY (R282): 1 µs after CLOSE_DONE, the lanes go to electrical idle. -/
  | electricalIdleEntry (r : PortRef)
  /-- KNUCKLE_MESSAGE (R296): A message arriving on a Knuckle link is delivered locally or forwarded on a channel chosen under R297. -/
  | knuckleMessage (l : Fin 8) (m : KMsg)
  /-- GROUP_SNOOP (R306): A group snoop takes a collector entry and sends SnpInv to every caching agent except EXCL. -/
  | groupSnoop (sdev : BitVec 6) (excl : BitVec 12) (addr : BitVec 52) (htag : BitVec 16)
  /-- GACK (R109): A combined Ack of a group snoop reaches the home pan. -/
  | gack (sdev : BitVec 6) (htag : BitVec 16)
  /-- ROUTE_COMMIT_NOW (R300): A write of COMMIT_NOW to DEV_ROUTE_CTL commits the shadow routes and inverts EPOCH. -/
  | routeCommitNow
  /-- ROUTE_COMMIT_TIMED (R300): A write of COMMIT_TIMED schedules a route commit at DEV_ROUTE_AT. -/
  | routeCommitTimed
  /-- ROUTE_COMMIT_INSTANT (R300): A timed route commit reaches its instant. -/
  | routeCommitInstant
  /-- PREVIOUS_TABLE_EXPIRY (R300): HOLD_US after a commit, the previous route table is discarded. -/
  | previousTableExpiry
  /-- KN_MARK_TMO (R303): A grant's delivery mark has not arrived within TMO_US, and the grant is treated as delivered. -/
  | knMarkTmo (p : Fin 64) (trk : Fin 768)
  /-- KN_REQ_TMO (R303): A forwarded non-posted request has no final response after 2 × TMO_US and is answered TargetDown. -/
  | knReqTmo (port : Fin 16) (src : BitVec 12) (tag : BitVec 10)
  /-- POSTED_REQUEST_TMO (R303): A forwarded posted request has neither WDONE nor PFAULT after 2 × TMO_US and gets a posted-fault record. -/
  | postedRequestTmo (port : Fin 16) (src : BitVec 12) (tag : BitVec 10)
  /-- HOST_BAR2_ACCESS (R308): The head's management block handles a host access to a BAR2 window, locally or by sending MRD or MWR. -/
  | hostBar2Access (dev : BitVec 6) (off : BitVec 26) (wr w32 : Bool) (v : BitVec 64)
  /-- MRD (R308): A forwarded register read is performed and answered with MCPL. -/
  | mrd
  /-- MWR (R308): A forwarded register write is performed and answered with MCPL. -/
  | mwr
  /-- MCPL (R308): A completion reaches the head and completes the host access. -/
  | mcpl
  /-- MCPL_TIMEOUT (R308): No MCPL arrives within 1 ms, and the access completes with Completer Abort. -/
  | mcplTimeout (mtag : BitVec 8)
  /-- MVEC (R310): A vector from a non-head device reaches the head, which issues its MSI-X entry. -/
  | mvec
  /-- UNUSED_MGMT_OPCODE (R307): A management message with an unused opcode is discarded and counted. -/
  | unusedMgmtOpcode
  /-- MP_ENUMERATION (R312): Once a memory-port target's link is trained, the port checks and programs the device and sets READY. -/
  | mpEnumeration (m : Fin 8) (half : Bool) (speed : BitVec 2) (width : Fin 17) (dev : MemDev)
  /-- MP_LINK_DOWN (R315): A memory-port link goes down, and its outstanding requests fail. -/
  | mpLinkDown (m : Fin 8) (half : Bool)
  /-- MP_COMPLETION_TIMEOUT (R315): A memory-port request has no completion after CTO_US and fails. -/
  | mpCompletionTimeout (m : Fin 8) (ix : Nat)
  /-- MP_LINK_RESET (R316): A write of MP_CTL.RESET issues Hot Reset and re-runs enumeration. -/
  | mpLinkReset (m : Fin 8)
  /-- VIRAL_INDICATION (R311): A viral indication from a target takes the memory-port link reset. -/
  | viralIndication (m : Fin 8) (half : Bool)
  /-- MP_EVENT (R317): A target's event interrupt makes the port read, record and clear its event records. -/
  | mpEvent (m : Fin 8) (half : Bool) (recs : List MemEvent)
  /-- MP_IO_ADDR (R318): A write to MP_IO_ADDR starts one 32-bit CXL.io access. -/
  | mpIoAddr (m : Fin 8) (v : BitVec 64)
  /-- MP_IO_DONE (R318): A CXL.io access completes and sets DONE and STATUS. -/
  | mpIoDone (m : Fin 8) (status : Fin 4) (data : BitVec 32)
  /-- ADD (R332): Integer add. -/
  | addR (e : Fin 68) (a : RArgs)
  /-- SUB (R332): Integer subtract. -/
  | subR (e : Fin 68) (a : RArgs)
  /-- AND (R332): Bitwise and. -/
  | andR (e : Fin 68) (a : RArgs)
  /-- OR (R332): Bitwise or. -/
  | orR (e : Fin 68) (a : RArgs)
  /-- XOR (R332): Bitwise xor. -/
  | xorR (e : Fin 68) (a : RArgs)
  /-- ANDN (R332): And with the complement of g[rt]. -/
  | andn (e : Fin 68) (a : RArgs)
  /-- SLL (R332): Shift left logical. -/
  | sll (e : Fin 68) (a : RArgs)
  /-- SRL (R332): Shift right logical. -/
  | srl (e : Fin 68) (a : RArgs)
  /-- SRA (R332): Shift right arithmetic. -/
  | sra (e : Fin 68) (a : RArgs)
  /-- CLT (R332): Signed compare less-than. -/
  | clt (e : Fin 68) (a : RArgs)
  /-- CLTU (R332): Unsigned compare less-than. -/
  | cltu (e : Fin 68) (a : RArgs)
  /-- MIN (R332): Signed minimum. -/
  | min (e : Fin 68) (a : RArgs)
  /-- MAX (R332): Signed maximum. -/
  | max (e : Fin 68) (a : RArgs)
  /-- MINU (R332): Unsigned minimum. -/
  | minu (e : Fin 68) (a : RArgs)
  /-- MAXU (R332): Unsigned maximum. -/
  | maxu (e : Fin 68) (a : RArgs)
  /-- CLZ (R332): Count leading zeros. -/
  | clz (e : Fin 68) (a : RArgs)
  /-- POPC (R332): Population count. -/
  | popc (e : Fin 68) (a : RArgs)
  /-- BSWAP (R332): Byte reversal. -/
  | bswap (e : Fin 68) (a : RArgs)
  /-- MUL (R333): Low 64 bits of the product. -/
  | mul (e : Fin 68) (a : RArgs)
  /-- MULH (R333): High 64 bits of the signed product. -/
  | mulh (e : Fin 68) (a : RArgs)
  /-- MULHU (R333): High 64 bits of the unsigned product. -/
  | mulhu (e : Fin 68) (a : RArgs)
  /-- DIV (R333): Signed division. -/
  | div (e : Fin 68) (a : RArgs)
  /-- DIVU (R333): Unsigned division. -/
  | divu (e : Fin 68) (a : RArgs)
  /-- REM (R333): Signed remainder. -/
  | rem (e : Fin 68) (a : RArgs)
  /-- REMU (R333): Unsigned remainder. -/
  | remu (e : Fin 68) (a : RArgs)
  /-- ADDI (R331): Add immediate. -/
  | addi (e : Fin 68) (a : IArgs)
  /-- ANDI (R331): And immediate. -/
  | andi (e : Fin 68) (a : IArgs)
  /-- ORI (R331): Or immediate. -/
  | ori (e : Fin 68) (a : IArgs)
  /-- XORI (R331): Xor immediate. -/
  | xori (e : Fin 68) (a : IArgs)
  /-- CLTI (R331): Signed compare with an immediate. -/
  | clti (e : Fin 68) (a : IArgs)
  /-- CLTIU (R331): Unsigned compare with an immediate. -/
  | cltiu (e : Fin 68) (a : IArgs)
  /-- ADDHI (R331): Add the immediate shifted left by 16. -/
  | addhi (e : Fin 68) (a : IArgs)
  /-- SLLI (R331): Shift left by an immediate. -/
  | slli (e : Fin 68) (a : ShArgs)
  /-- SRLI (R331): Logical shift right by an immediate. -/
  | srli (e : Fin 68) (a : ShArgs)
  /-- SRAI (R331): Arithmetic shift right by an immediate. -/
  | srai (e : Fin 68) (a : ShArgs)
  /-- LB (R334): Load a sign-extended byte. -/
  | lb (e : Fin 68) (a : IArgs)
  /-- LBU (R334): Load a zero-extended byte. -/
  | lbu (e : Fin 68) (a : IArgs)
  /-- LH (R334): Load a sign-extended halfword. -/
  | lh (e : Fin 68) (a : IArgs)
  /-- LHU (R334): Load a zero-extended halfword. -/
  | lhu (e : Fin 68) (a : IArgs)
  /-- LW (R334): Load a sign-extended word. -/
  | lw (e : Fin 68) (a : IArgs)
  /-- LWU (R334): Load a zero-extended word. -/
  | lwu (e : Fin 68) (a : IArgs)
  /-- LD (R334): Load a doubleword, from memory or from a register. -/
  | ld (e : Fin 68) (a : IArgs)
  /-- SB (R334): Store a byte. -/
  | sb (e : Fin 68) (a : IArgs)
  /-- SH (R334): Store a halfword. -/
  | sh (e : Fin 68) (a : IArgs)
  /-- SW (R334): Store a word, to memory or to the code-write window. -/
  | sw (e : Fin 68) (a : IArgs)
  /-- SD (R334): Store a doubleword, to memory, to the code-write window, or to a register. -/
  | sd (e : Fin 68) (a : IArgs)
  /-- AMO_ADD (R335): Atomic add on the data SRAM. -/
  | amoAdd (e : Fin 68) (a : AmoArgs)
  /-- AMO_AND (R335): Atomic and on the data SRAM. -/
  | amoAnd (e : Fin 68) (a : AmoArgs)
  /-- AMO_OR (R335): Atomic or on the data SRAM. -/
  | amoOr (e : Fin 68) (a : AmoArgs)
  /-- AMO_XOR (R335): Atomic xor on the data SRAM. -/
  | amoXor (e : Fin 68) (a : AmoArgs)
  /-- AMO_SMIN (R335): Atomic signed minimum. -/
  | amoSmin (e : Fin 68) (a : AmoArgs)
  /-- AMO_SMAX (R335): Atomic signed maximum. -/
  | amoSmax (e : Fin 68) (a : AmoArgs)
  /-- AMO_UMIN (R335): Atomic unsigned minimum. -/
  | amoUmin (e : Fin 68) (a : AmoArgs)
  /-- AMO_UMAX (R335): Atomic unsigned maximum. -/
  | amoUmax (e : Fin 68) (a : AmoArgs)
  /-- AMO_SWAP (R335): Atomic swap. -/
  | amoSwap (e : Fin 68) (a : AmoArgs)
  /-- AMO_CAS (R335): Atomic compare-and-swap. -/
  | amoCas (e : Fin 68) (a : AmoArgs)
  /-- BEQ (R336): Branch if equal, with one delay slot. -/
  | beq (e : Fin 68) (a : BArgs)
  /-- BNE (R336): Branch if not equal. -/
  | bne (e : Fin 68) (a : BArgs)
  /-- BLT (R336): Branch if less, signed. -/
  | blt (e : Fin 68) (a : BArgs)
  /-- BGE (R336): Branch if greater or equal, signed. -/
  | bge (e : Fin 68) (a : BArgs)
  /-- BLTU (R336): Branch if less, unsigned. -/
  | bltu (e : Fin 68) (a : BArgs)
  /-- BGEU (R336): Branch if greater or equal, unsigned. -/
  | bgeu (e : Fin 68) (a : BArgs)
  /-- BRA (R336): Unconditional relative branch. -/
  | bra (e : Fin 68) (off : BitVec 26)
  /-- CALL (R336): Relative call, with the link written when the delay slot completes. -/
  | call (e : Fin 68) (off : BitVec 26)
  /-- JMP (R336): Register-indirect jump. -/
  | jmp (e : Fin 68) (a : IArgs)
  /-- CALLR (R336): Register-indirect call. -/
  | callr (e : Fin 68) (a : IArgs)
  /-- LOOP (R339): Sets up a hardware loop level with its count taken from a register. -/
  | loop (e : Fin 68) (a : LArgs)
  /-- LOOPI (R339): Sets up a hardware loop level with an immediate count. -/
  | loopi (e : Fin 68) (a : LArgs)
  /-- CRC32C (R354): Updates a CRC-32C accumulator with 1 to 8 bytes. -/
  | crc32c (e : Fin 68) (a : CrcArgs)
  /-- BMOV (R353): Saltmaster block move of up to 4,096 bytes. -/
  | bmov (e : Fin 68) (a : BmovArgs)
  /-- FADD (R357): Floating-point add. -/
  | fadd (e : Fin 68) (a : FArgs)
  /-- FSUB (R357): Floating-point subtract. -/
  | fsub (e : Fin 68) (a : FArgs)
  /-- FMUL (R357): Floating-point multiply. -/
  | fmul (e : Fin 68) (a : FArgs)
  /-- FDIV (R357): Floating-point divide. -/
  | fdiv (e : Fin 68) (a : FArgs)
  /-- FSQRT (R357): Floating-point square root. -/
  | fsqrt (e : Fin 68) (a : FArgs)
  /-- FMIN (R357): minimumNumber. -/
  | fmin (e : Fin 68) (a : FArgs)
  /-- FMAX (R357): maximumNumber. -/
  | fmax (e : Fin 68) (a : FArgs)
  /-- FEQ (R356): Floating-point equality compare. -/
  | feq (e : Fin 68) (a : FArgs)
  /-- FLT (R356): Floating-point less-than compare. -/
  | flt (e : Fin 68) (a : FArgs)
  /-- FLE (R356): Floating-point less-or-equal compare. -/
  | fle (e : Fin 68) (a : FArgs)
  /-- FCVT_I (R357): Floating-point value to signed 64-bit integer. -/
  | fcvtI (e : Fin 68) (a : FArgs)
  /-- FCVT_F (R356): Signed integer to floating point. -/
  | fcvtF (e : Fin 68) (a : FArgs)
  /-- FCVT_P (R356): Conversion between FP32 and FP64. -/
  | fcvtP (e : Fin 68) (a : FArgs)
  /-- FNEG (R356): Inverts the sign. -/
  | fneg (e : Fin 68) (a : FArgs)
  /-- FABS (R356): Clears the sign. -/
  | fabs (e : Fin 68) (a : FArgs)
  /-- MFS (R325): Reads a special register. -/
  | mfs (e : Fin 68) (a : SArgs)
  /-- MTS (R325): Writes a special register. -/
  | mts (e : Fin 68) (a : SArgs)
  /-- MODE (R345): Changes the engine's mode for the next instruction. -/
  | mode (e : Fin 68) (a : SArgs)
  /-- RESUME (R346): Returns from a handler to EPC and restores STATUS from ESTATUS. -/
  | resume (e : Fin 68) (a : SArgs)
  /-- TRAP (R346): Raises the TRAP exception. -/
  | trap (e : Fin 68) (a : SArgs)
  /-- DEBUG (R346): Raises the DEBUG exception. -/
  | debug (e : Fin 68) (a : SArgs)
  /-- IFLUSH (R351): Drains the code-write window and refetches. -/
  | iflush (e : Fin 68) (a : SArgs)
  /-- FENCE_INSTRUCTION (R347): Orders later memory accesses after the drain of earlier stores. -/
  | fenceInstruction (e : Fin 68) (rd rs : BitVec 5)
  /-- FENCE_DEVICE (R347): FENCE, and also waits for earlier register accesses to complete. -/
  | fenceDevice (e : Fin 68) (rd rs : BitVec 5)
  /-- FENCE_CODE (R347): Discards instruction prefetch and cache contents. -/
  | fenceCode (e : Fin 68) (rd rs : BitVec 5)
  /-- STEP (R348): Closes a micro-routine step, optionally updating CURSOR. -/
  | step (e : Fin 68) (a : SArgs)
  /-- WAIT (R349): Stops fetching until an enabled interrupt source is pending. -/
  | wait (e : Fin 68) (a : SArgs)
  /-- WAIT_WAKE (R349): An enabled source becomes pending while the engine waits, and execution continues or an interrupt is taken. -/
  | waitWake (e : Fin 68)
  /-- INTERRUPT_ENTRY (R362): An enabled pending interrupt is taken at an instruction boundary. -/
  | interruptEntry (e : Fin 68)
  /-- PAN_EVT_CUR (R371): The engine's write saves CURSOR into the old event and selects the head of a queue. -/
  | panEvtCur (p : Fin 64) (q : Bool)
  /-- SNP (R372): The engine command sends SnpInv to an agent for the selected event. -/
  | snp (p : Fin 64)
  /-- GSNP (R372): The engine command sends a group snoop to a device. -/
  | gsnp (p : Fin 64)
  /-- SET_QUOTA (R372): The engine command applies the quota rule to one pan set. -/
  | setQuota (p : Fin 64) (err : BitVec 1152)
  /-- SET_FLUSH (R372): The engine command applies the flush to one pan set. -/
  | setFlush (p : Fin 64) (err : BitVec 1152) (errs : List (Fin 16 × BitVec 1152))
  /-- SET_CLEAN (R372): The engine command applies dead-agent cleanup to one pan set. -/
  | setClean (p : Fin 64) (err : BitVec 1152)
  /-- LINE_CLEAR (R372): The engine command clears a poisoned line. -/
  | lineClear (p : Fin 64)
  /-- LINE_UE (R372): The engine command acts on a rake's uncorrectable block. -/
  | lineUe (p : Fin 64) (err : BitVec 1152) (errs : List (Fin 16 × BitVec 1152))
  /-- COMPLETE (R372): The engine command removes the selected event and returns its tracker entry. -/
  | complete (p : Fin 64)
  /-- HALT (R377): The engine command halts the pan engine, and the device enters HOLD. -/
  | halt (p : Fin 64)
  /-- ENG_CMD_BAD (R372): An unused engine command is ignored and logged. -/
  | engCmdBad (p : Fin 64)
  /-- KICK (R389): A write of a KICK bit raises an image-defined event for the pan engine. -/
  | kick (p : Fin 64) (bits : BitVec 8)
  /-- SWEEP (R76): A write of SWEEP starts or restarts a quota sweep on the pan engine. -/
  | sweep (p : Fin 64)
  /-- DEV_ADDR_PROBE (R48): A write to DEV_ADDR_PROBE starts an address resolution. -/
  | devAddrProbe (spa : BitVec 52)
  /-- ADDR_PROBE_DONE (R48): An address probe completes and sets DONE and the result. -/
  | addrProbeDone
  /-- PAN_MD_PROBE (R88): A write to PAN_MD_PROBE starts a metadata probe. -/
  | panMdProbe (p : Fin 64) (v : BitVec 64)
  /-- MD_PROBE_DONE (R88): A metadata probe completes with the word, or with UNAVAIL. -/
  | mdProbeDone (p : Fin 64) (err : BitVec 1152)
  /-- SM_RUN (R385): A write of SM_CTL.RUN starts a core or holds it in reset. -/
  | smRun (c : Fin 4) (run : Bool)
  /-- RESTART (R385): A write of RESTART resets a core, breaks its latches, and restarts it. -/
  | restart (c : Fin 4)
  /-- SM_TIMER_CMP (R390): A write to SM_TIMER_CMP schedules the core's timer and ends a pending TIMER. -/
  | smTimerCmp (c : Fin 4) (v : BitVec 64)
  /-- SM_TIMER (R383): Machine time reaches SM_TIMER_CMP and TIMER becomes pending. -/
  | smTimer (c : Fin 4)
  /-- SM_TICK (R383): Machine time passes a whole millisecond and TICK becomes pending on each core. -/
  | smTick
  /-- SM_DOORBELL (R390): A write sets doorbell bits of a core. -/
  | smDoorbell (c : Fin 4) (bits : BitVec 8)
  /-- SM_DOORBELL_ACK (R390): A write clears doorbell bits. -/
  | smDoorbellAck (c : Fin 4) (bits : BitVec 8)
  /-- SM_MSG (R386): A core's write to SM_MSG raises its vector SM_c. -/
  | smMsg (c : Fin 4) (v : BitVec 64)
  /-- TICK_EDGE (R392): An MT_TICK rising edge is classified as glitch or accepted, which may raise MT_UNTRUSTED or relock. -/
  | tickEdge
  /-- TICK_MISSING (R392): No accepted edge arrives within 48 ns, and the tick is counted missing, raising MT_LOST after three. -/
  | tickMissing
  /-- FREE_TICK (R400): While FREE or NO_TIME, an internally generated tick position advances machine time. -/
  | freeTick
  /-- FRAME (R401): A good frame sets, slews, or reports a jump of machine time. -/
  | frame (time : BitVec 64) (fseq : BitVec 16)
  /-- BAD_FRAME (R397): A bad or missing frame in a millisecond is counted, and eight in a row raise MT_FRAME_LOST. -/
  | badFrame
  /-- APPLY_NOW (R403): A write of APPLY_NOW schedules the jump for the next tick position. -/
  | applyNow
  /-- APPLY_TIMED (R403): A write of APPLY_TIMED schedules the jump at MT_APPLY_AT. -/
  | applyTimed
  /-- JUMP_APPLY (R403): At its tick, the offset is added to every copy of machine time, stamps are rebased, and schedules are re-evaluated. -/
  | jumpApply
  /-- SNAP_NOW (R409): A write of SNAP_NOW takes a snapshot at the next service cycle. -/
  | snapNow
  /-- SNAP_TIMED (R409): A write of SNAP_TIMED schedules a snapshot at HV_SNAP_AT. -/
  | snapTimed
  /-- SNAPSHOT_INSTANT (R410): A periodic, timed or dump instant makes every unit capture its counters, or the snapshot is skipped when BUSY. -/
  | snapshotInstant
  /-- HARVEST_FLIP (R410): When all transfers complete, FRONT changes, SEQ increases, and a harvest record is queued. -/
  | harvestFlip
  /-- DUMP_COMPLETE (R416): A dump's header block is written last and the dump is counted, or it fails after a resend. -/
  | dumpComplete (ok : Bool) (m : Fin 8)
  /-- HV_DUMP_CONFIG (R417): A write to HV_DUMP_BASE or HV_DUMP_CTL rechecks the dump ring and sets or clears BAD_BASE. -/
  | hvDumpConfig (base : Bool) (v : BitVec 64)
  /-- BW_WINDOW_END (R419): At the end of a bandwidth window, the LAST, END and PEAK registers are updated. -/
  | bwWindowEnd (b : BwRef)
  /-- BW_CTL (R419): A write of WIN_US discards the current window and restarts at the new length. -/
  | bwCtl (b : BwRef) (win : BitVec 20)
  /-- MODE_COMMIT_NOW (R427): A write of COMMIT_NOW to DEV_MODE_CTL requests SERVICE or DRAIN at once. -/
  | modeCommitNow (req : BitVec 4)
  /-- MODE_COMMIT_TIMED (R427): A write of COMMIT_TIMED schedules the mode request at DEV_MODE_AT. -/
  | modeCommitTimed (req : BitVec 4)
  /-- MODE_REQUEST_INSTANT (R427): A timed mode request or command reaches its instant and is checked against the mode in force. -/
  | modeRequestInstant
  /-- MODE_TRANSITION_DONE (R426): A mode transition in progress finishes, including its flush, and the mode changes. -/
  | modeTransitionDone
  /-- TRAINING_COMPLETE (R440): Stacks, decoded memory targets and regulators are all ready, and the device enters PROVE. -/
  | trainingComplete
  /-- TRAIN_TIMEOUT (R440): TRAIN_TMO_MS expires with training incomplete, a fatal fault. -/
  | trainTimeout
  /-- BIST_GO (R434): A write of GO starts the selected BIST groups, or refuses them. -/
  | bistGo (sel : BitVec 11)
  /-- BIST_DONE (R435): A BIST group finishes its March test, zeroes its words, and reports failures. -/
  | bistDone (id : Fin 12) (fails : List (BitVec 12 × BitVec 20))
  /-- SLUICE_STEP (R443): Every 100 ns, the governor estimates demand, updates the envelope, and throttles or adds filler. -/
  | sluiceStep (d : BitVec 14)
  /-- SHED_SAMPLE (R446): Every 1 µs, SHED_A and SHED_B_N are sampled, and a shed starts or ends or a discrepancy is raised. -/
  | shedSample (a bn : Bool)
  /-- SHED_DISC_CLEAR (R447): A write of 1 to DISC clears the fault only after agreed release for DISC_MS. -/
  | shedDiscClear
  /-- BED_STEP_CHANGE (R449): The governor serves a bed whose step differs from its target and starts a raise or lowering. -/
  | bedStepChange
  /-- VR_SETTLE_DONE (R449): SETTLE_US after VOUT_COMMAND, the bed's clock is switched up. -/
  | vrSettleDone (b : Fin 8)
  /-- CLOCK_SWITCH_DONE (R449): The 100 ns admission stop after a clock switch ends. -/
  | clockSwitchDone (b : Fin 8)
  /-- SL_BED_REQ (R449): A write of a bed's requested step takes effect, or is held while HOLD_REQ is 1. -/
  | slBedReq (b : Fin 8) (v : BitVec 5)
  /-- STEP_COMMIT_NOW (R449): A write of SL_STEP_CTL.COMMIT_NOW applies the held step requests. -/
  | stepCommitNow
  /-- STEP_COMMIT_TIMED (R449): A write of COMMIT_TIMED schedules the held requests at SL_STEP_AT. -/
  | stepCommitTimed
  /-- STEP_COMMIT_INSTANT (R449): Timed step requests reach their instant. -/
  | stepCommitInstant
  /-- VR_ALERT (R448): VR_ALERT_N low makes the device read, record and clear the alerting regulator. -/
  | vrAlert (addr : BitVec 7) (status : BitVec 16)
  /-- THERMAL_READ (R450): Every 100 µs, the bed sensors are read and the thermal-trip and skew checks applied. -/
  | thermalRead (r : List BedTemp)
  /-- THERMAL_CAP_UPDATE (R450): Every 1 ms, each bed's thermal cap falls or rises by one step. -/
  | thermalCapUpdate
  /-- STACK_REST_ENTRY (R453): After IDLE_US with no commands, the bed puts its stack into self-refresh. -/
  | stackRestEntry (b : Fin 8)
  /-- STACK_REST_EXIT (R453): The 2 µs self-refresh exit completes and waiting requests proceed. -/
  | stackRestExit (b : Fin 8)
  /-- WAKE (R453): A write of WAKE ends a rest at once and prevents the next entry. -/
  | wake (b : Fin 8)
  /-- MP_POWER_DOWN (R456): Setting an SL_PDN memory-port bit powers the port down, or is refused. -/
  | mpPowerDown (m : Fin 8)
  /-- MP_POWER_UP (R454): Clearing an SL_PDN memory-port bit powers the port up and re-enumerates it. -/
  | mpPowerUp (m : Fin 8)
  /-- CORE_POWER_DOWN (R457): Setting an SL_PDN core bit holds the core in reset and unpowers it. -/
  | corePowerDown (c : Fin 3)
  /-- CORE_POWER_UP (R457): Clearing an SL_PDN core bit powers the core and starts it if RUN is 1. -/
  | corePowerUp (c : Fin 3)
  /-- PARITY_SWEEP (R464): The configuration-parity sweeper checks every configurable register within each millisecond. -/
  | paritySweep (flips : List (BitVec 26 × Fin 64))
  /-- REGISTER_WRITE (R466): A write to a register without a row of its own is applied, or ignored and logged under the width, lock and write-once rules. -/
  | registerWrite (w : BitVec 8) (off : BitVec 26) (v : BitVec 64) (full : Bool)
  /-- UNDEFINED_ACCESS (R463): An access to an undefined offset is ignored and counted. -/
  | undefinedAccess (w : BitVec 8) (off : BitVec 26) (wr : Bool)
  /-- LOCK (R466): A write of DEV_LOCK.LOCK sets the device lock. -/
  | lock
  /-- MBX_SEL (R469): A write to MBX_SEL names a source and fills the mailbox with its record. -/
  | mbxSel (m : Fin 5) (w : BitVec 8) (src : BitVec 4)
  /-- MBX_DONE (R469): A write to MBX_DONE releases the record and refills from the source. -/
  | mbxDone (m : Fin 5) (w : BitVec 8)
  /-- MBX_FILL (R469): A record arrives at a selected empty source and fills the mailbox. -/
  | mbxFill (m : Fin 5)
  /-- MBX_DATA_READ (R469): A read of MBX_DATA while VALID is 0 returns old contents and sets STALE. -/
  | mbxDataRead (m : Fin 5) (k : Fin 8) (w : BitVec 8)
  /-- ACQUIRE (R471): A latch ACQUIRE takes a free latch for the writer. -/
  | acquire (n : Fin 64) (w : BitVec 8)
  /-- RELEASE (R471): A latch RELEASE by the owner frees the latch, or is logged as a bad release. -/
  | release (n : Fin 64) (w : BitVec 8)
  /-- MGMT_ENDPOINT_RESET (R472): A reset or link-down of the head's management endpoint breaks the host's latches. -/
  | mgmtEndpointReset
  /-- IMAGE_WINDOW_WRITE (R473): A write to the image window stores image bytes, or is ignored during a load. -/
  | imageWindowWrite (k : WinWord) (v : BitVec 64)
  /-- AUTH_KEY (R481): A write to an AUTH_KEY register is accepted once per power-on, and KEY_SET follows the fourth. -/
  | authKey (k : Fin 4) (v : BitVec 64) (w : BitVec 8)
  /-- IMAGE_LOAD (R478): The authenticated command starts LOAD of the image in the window. -/
  | imageLoad (c : CmdBlk)
  /-- LOAD_COMPLETE (R480): The loader finishes its checks and installs the image and enters TRAIN, or refuses and returns to BLANK. -/
  | loadComplete
  /-- DEVICE_RESET (R438): The authenticated command causes a device reset 1 µs after its completion. -/
  | deviceReset (c : CmdBlk)
  /-- MODE_CHANGE (R427): The authenticated command requests a mode transition, at once or at an instant. -/
  | modeChange (c : CmdBlk)
  /-- KEY_ROTATE (R484): The authenticated command unwraps and installs a new key and resets the counter and generation. -/
  | keyRotate (c : CmdBlk)
  /-- CLEAR_POISON (R145): The authenticated command clears a poisoned line at its home. -/
  | clearPoison (c : CmdBlk)
  /-- SLUICE_OVERRIDE (R445): The authenticated command starts or ends the Sluice override. -/
  | sluiceOverride (c : CmdBlk)
  /-- FIRMWARE_LOAD (R486): The authenticated command checks a code blob and rewrites the core or pan program stores, restarting the engines. -/
  | firmwareLoad (c : CmdBlk)
  /-- LATCH_BREAK (R472): The authenticated command breaks a held latch. -/
  | latchBreak (c : CmdBlk)
  /-- RETIRE_MEMPORT (R487): The authenticated command holds a memory port in electrical idle until power-on reset. -/
  | retireMemport (c : CmdBlk)
  /-- RETIRE_BED (R487): The authenticated command flushes a bed's pans and keeps their DATA_EN at 0 until power-on reset. -/
  | retireBed (c : CmdBlk)
  /-- BAD_OPCODE (R483): A submitted command block with an unknown opcode, or a failed check, is refused and logged. -/
  | badOpcode (opc : BitVec 16) (c : CmdBlk)
  /-- REGISTER_READ (R464): A register read checks configuration parity, clears RC fields, answers and logs a narrow read of a non-RO register, and aborts a long read TLP. -/
  | registerRead (w : BitVec 8) (off : BitVec 26) (w32 long : Bool)
  /-- STACK_INIT_COMPLETE (R59): A pan finishes stack training and the initialisation of every block of its line map, and its bed's stack counts as ready for step 7. -/
  | stackInitComplete (p : Fin 64)
  /-- VOUT_MODE_READ (R448): A regulator named in STRUCT answers the VOUT_MODE read in TRAIN. -/
  | voutModeRead (addr : BitVec 7)
  /-- RAIL_OUT_OF_RANGE (R506): A rail of power-up steps 2 to 4 leaves its range while PWR_GOOD is high, and traffic, records and cache contents become undefined until the next PWR_GOOD rise. -/
  | railOutOfRange
  /-- TAP_INSTRUCTION (R512): The JTAG TAP loads an instruction, and EXTEST, EXTEST_PULSE or EXTEST_TRAIN take effect only while DEV_RESET_N is low and otherwise decode as BYPASS. -/
  | tapInstruction (t : TapIns)
  deriving DecidableEq, Repr

end Sys2Proof
end

