-- ==== Sys2Proof/Decode.lean ====
section
/-! DEFINITION. The command that a word spells by the opcode table's bits. The table gives no row any bits (its
encoding is by name and operands), so no word spells a command. -/

namespace Sys2Proof

/-- The command a word of nbits bits spells: none, since no row of the table gives bits (log entry 1). -/
def decodeTableWord (nbits w : Nat) : Option Instr :=
  match nbits, w with
  | _, _ => none

end Sys2Proof
end

