-- ==== Sys2Proof/Machine/StackCode.lean ====
section
/-! DEFINITION. The stack code RS(18,16) over GF(2^8), its encoder and its decoder (R51, R217 to R222). -/

namespace Sys2Proof.Machine

/-- Multiplication by alpha in GF(2^8) built on 0x11D (R217). -/
def gfX (x : Nat) : Nat := if 128 ≤ x then (2 * x) ^^^ 0x11D else 2 * x

/-- Multiplication by alpha to the power k. -/
def gfXpow (x k : Nat) : Nat :=
  match k with
  | 0 => x
  | n + 1 => gfX (gfXpow x n)

/-- The bytes of a number, n of them, lowest first. -/
def bytesOf (v n : Nat) : List Nat :=
  match n with
  | 0 => []
  | k + 1 => v % 256 :: bytesOf (v / 256) k

/-- The number whose bytes, lowest first, are given. -/
def ofBytes (l : List Nat) : Nat :=
  match l with
  | [] => 0
  | b :: t => b % 256 + 256 * ofBytes t

/-- The two check symbols of 16 data symbols, layer 16 then layer 17: x^2 m(x) modulo x^2 + 3x + 2 (R217). -/
def rsCheck (d : List Nat) : Nat × Nat :=
  d.foldl (fun (r : Nat × Nat) b =>
    let fb := b ^^^ r.1
    (r.2 ^^^ (gfX fb ^^^ fb), gfX fb)) (0, 0)

/-- The codeword of 16 data symbols (R217). -/
def rsEncode (d : List Nat) : List Nat := d ++ [(rsCheck d).1, (rsCheck d).2]

/-- The syndromes S0 = c(1) and S1 = c(alpha) of 18 symbols (R218). -/
def rsSynd (c : List Nat) : Nat × Nat :=
  c.foldl (fun (r : Nat × Nat) b => (r.1 ^^^ b, gfX r.2 ^^^ b)) (0, 0)

/-- What the decoder makes of one beat (R219, R220): the layer and the value XORed into it. -/
inductive BeatOut where
  | clean
  | corrected (layer : Nat) (e : Nat)
  | recon (layer : Nat) (e : Nat)
  | bad
  deriving DecidableEq, Repr

/-- The exponent j of 17 or less with S1 = S0 times alpha to the j, searched downward from n (R219). -/
def rsFind (s0 s1 n : Nat) : Option Nat :=
  if gfXpow s0 n = s1 then some n
  else
    match n with
    | 0 => none
    | k + 1 => rsFind s0 s1 k

/-- The classification of one beat, er being the channel's erased layer (R219, R220). -/
def beatDecode (c : List Nat) (er : Option Nat) : BeatOut :=
  let s := rsSynd c
  match er with
  | some e => if s.2 = gfXpow s.1 (17 - e) then .recon e s.1 else .bad
  | none =>
    if s.1 = 0 ∧ s.2 = 0 then .clean
    else if s.1 = 0 ∨ s.2 = 0 then .bad
    else
      match rsFind s.1 s.2 17 with
      | some j => .corrected (17 - j) s.1
      | none => .bad

/-- The beat with the decoder's change made. -/
def beatFix (c : List Nat) (o : BeatOut) : List Nat :=
  match o with
  | .corrected l e | .recon l e => c.set l (c.getD l 0 ^^^ e)
  | _ => c

/-- The list cut into pieces of n, k of them. -/
def chunks {α : Type} (n k : Nat) (l : List α) : List (List α) :=
  match k with
  | 0 => []
  | j + 1 => l.take n :: chunks n j (l.drop n)

/-- The 8 beats of a stored block, 18 symbols each (R51). -/
def blockBeats (b : Block) : List (List Nat) := chunks 18 8 (bytesOf b.toNat 144)

/-- The stored block of given beats. -/
def beatsBlock (l : List (List Nat)) : Block := BitVec.ofNat 1152 (ofBytes l.flatten)

/-- The stored block of a line: byte i lies in beat i div 16, layer i mod 16 (R51). -/
def blockEncode (d : BitVec 1024) : Block :=
  beatsBlock ((chunks 16 8 (bytesOf d.toNat 128)).map rsEncode)

/-- The line that the data layers of given beats hold. -/
def beatsLine (l : List (List Nat)) : BitVec 1024 :=
  BitVec.ofNat 1024 (ofBytes (l.map (fun c => c.take 16)).flatten)

/-- What the decoder makes of a block (R221): the corrected line, the layer of a correction, whether it was
reconstructed, whatever its erased layer held (R220), and of an uncorrectable block the cause (0 pattern, 1 beside an erasure, 2 layer check) and its
beats. -/
structure BlockOut where
  line : BitVec 1024
  /-- the block is uncorrectable -/
  ue : Bool := false
  cause : Nat := 0
  beats : Nat := 0
  corr : Option Nat := none
  recon : Bool := false
  deriving DecidableEq, Repr

/-- The bits of the beats that satisfy p, bit j for beat j. -/
def beatMask (p : BeatOut → Bool) (l : List BeatOut) : Nat :=
  match l with
  | [] => 0
  | o :: t => b2n (p o) + 2 * beatMask p t

/-- The layer that the corrected beats of a block name: none without a correction, some none when they differ. -/
def corrLayer (l : List BeatOut) : Option (Option Nat) :=
  l.foldl (fun acc o =>
    match o, acc with
    | .corrected n _, none => some (some n)
    | .corrected n _, some (some m) => if n = m then some (some m) else some none
    | _, a => a) none

/-- The decoding of a stored block (R219 to R221): er the channel's erasure, lc LAYER_CHECK. -/
def blockDecode (b : Block) (er : Option Nat) (lc : Bool) : BlockOut :=
  let beats := blockBeats b
  let outs := beats.map (fun c => beatDecode c er)
  let fixed := beatsLine ((beats.zip outs).map (fun x => beatFix x.1 x.2))
  let badM := beatMask (· == .bad) outs
  let isCorr : BeatOut → Bool := fun o => match o with | .corrected _ _ => true | _ => false
  if badM ≠ 0 then
    { line := beatsLine beats, ue := true, cause := if er.isSome then 1 else 0, beats := badM }
  else
    match corrLayer outs with
    | some none =>
      if lc then { line := beatsLine beats, ue := true, cause := 2, beats := beatMask isCorr outs }
      else { line := fixed, corr := (outs.filterMap (fun o => match o with | .corrected n _ => some n | _ => none)).head? }
    | some (some n) => { line := fixed, corr := some n }
    | none =>
      { line := fixed
        recon := outs.any (fun o => match o with | .recon _ _ => true | _ => false) }

end Sys2Proof.Machine
end

