-- ==== Sys2Proof/Machine/Crc.lean ====
section
/-! DEFINITION. The checksums of the Fjartis 64: CRC-32C and the management frame's CRC-16 (R264, R354, R395). -/

namespace Sys2Proof.Machine

/-- n steps of a reflected CRC with polynomial p. -/
def crcSteps (p c n : Nat) : Nat :=
  match n with
  | 0 => c
  | k + 1 => crcSteps p (if c % 2 = 1 then (c / 2) ^^^ p else c / 2) k

/-- The reflected CRC-32C register after one more byte. -/
def crc32cByte (c b : Nat) : Nat := crcSteps 0x82F63B78 (c ^^^ (b % 256)) 8

/-- The reflected CRC-32C register after a list of bytes. -/
def crc32cRun (c : Nat) (l : List Nat) : Nat := l.foldl crc32cByte c

/-- CRC-32C of bytes: initial value and final XOR 0xFFFF_FFFF (R264). -/
def crc32c (l : List Nat) : Nat := crc32cRun 0xFFFFFFFF l ^^^ 0xFFFFFFFF

/-- CRC-16/CCITT of the low n bits of v, most significant first, from register c (R397). -/
def crc16Run (c v n : Nat) : Nat :=
  match n with
  | 0 => c
  | k + 1 =>
    let top := c / 32768 % 2
    let c' := c * 2 % 65536
    crc16Run (if top = (v >>> k) % 2 then c' else c' ^^^ 0x1021) v k

/-- The CRC of a machine-time frame: its 80 bits of TIME and FSEQ, initial value 0xFFFF (R397). -/
def frameCrc (time fseq : Nat) : Nat := crc16Run 0xFFFF (time % 2 ^ 64 * 65536 + fseq % 65536) 80

end Sys2Proof.Machine
end

