-- ==== Sys2Proof/Machine/Flit.lean ====
section
/-! DEFINITION. Flits as received: the control word, checksums, slots and messages of Hinge and Knuckle links (R261 to
R269, R287 to R295, R307). -/

namespace Sys2Proof.Machine

/-! ### The control word (R262 to R264, R290) -/

/-- A field of a flit. -/
def fld (f : BitVec 512) (hi lo : Nat) : Nat := bitsOf f.toNat hi lo

def flKind (f : BitVec 512) : Nat := fld f 511 508
def flPlf (f : BitVec 512) : Nat := fld f 507 506
def flAckv (f : BitVec 512) : Bool := f.toNat.testBit 505
def flAck (f : BitVec 512) : Nat := fld f 504 493
def flSlv (f : BitVec 512) : Nat := fld f 468 466
def flSeq (f : BitVec 512) : Nat := fld f 465 454

/-- Slot k, 128 bits. -/
def flSlot (f : BitVec 512) (k : Nat) : Nat := fld f (447 - 128 * k) (320 - 128 * k)

/-- Payload flits that PLF announces; none for the format error 11. -/
def flPay (f : BitVec 512) : Option Nat :=
  match flPlf f with
  | 0 => some 0 | 1 => some 2 | 2 => some 4 | _ => none

/-- The header checksum is good (R264). -/
def hcrcOk (f : BitVec 512) : Bool := crc32c ((bytesOf f.toNat 64).drop 4) == fld f 31 0

/-- The payload checksum is good: zero without payload (R264). -/
def pcrcOk (f : BitVec 512) (pay : List (BitVec 512)) : Bool :=
  if flPlf f = 0 then fld f 63 32 == 0
  else crc32c (pay.map (fun q => bytesOf q.toNat 64)).flatten == fld f 63 32

/-- Credits that a Hinge control word returns, by channel (R262). -/
def hingeCredits (f : BitVec 512) : List (Nat × Nat) :=
  [(0, fld f 492 487), (1, fld f 486 481), (2, fld f 480 475), (3, fld f 474 469)]

/-- Credits that a Knuckle control word returns; none for a format error (R290). -/
def kCredits (f : BitVec 512) : Option (List (Nat × Nat)) :=
  let l := [(fld f 492 490, fld f 489 481), (fld f 480 478, fld f 477 469)]
  if l.any (fun c => c.1 == 7 && c.2 != 0) then none else some (l.filter (fun c => c.2 != 0))

/-- The valid slots are slot 0 alone, slots 0 and 1, all three, or none at all (R263, R265): how many. -/
def slotCount (slv : Nat) : Option Nat :=
  match slv with
  | 0 => some 0 | 1 => some 1 | 3 => some 2 | 7 => some 3 | _ => none

/-! ### Messages of a Hinge link (R265 to R268) -/

/-- A message that an agent sends. -/
inductive HMsg where
  | req (r : Req) (units : Nat)
  | resp (m : AgentMsg) (units : Nat)
  deriving DecidableEq, Repr

/-- The two payload flits of a message as its line: bytes 0 to 63 come first (R265). -/
def lineOf (pay : List (BitVec 512)) (k : Nat) : BitVec 1024 :=
  BitVec.ofNat 1024 ((pay.getD (2 * k) 0).toNat + (pay.getD (2 * k + 1) 0).toNat * 2 ^ 512)

/-- Extension slots that R267 gives a request with these fields; none for an opcode it does not list. -/
def hingeXs (opc aop asz : Nat) : Option Nat :=
  match opc with
  | 0 | 1 | 2 | 3 | 4 | 6 | 9 => some 0
  | 5 => some 1
  | 7 | 8 => if asz = 3 then some 1 else if aop = 9 then some 2 else some 1
  | _ => none

/-- Whether a request of a Hinge link carries data (R267). -/
def hingeData (opc asz : Nat) : Bool := opc == 4 || opc == 5 || opc == 6 || ((opc == 7 || opc == 8) && asz == 3)

/-- A request slot of a Hinge link with its extensions and its line (R266, R267). -/
def hingeReq (m : Nat) (ext : List Nat) (line : BitVec 1024) : Req :=
  let opc := bitsOf m 125 122
  let aop := bitsOf m 14 9
  let asz := bitsOf m 8 7
  let at_ := opc == 7 || opc == 8
  let e0 := ext.getD 0 0
  let ncnt := bitsOf m 39 32
  { opc := BitVec.ofNat 4 opc, src := BitVec.ofNat 12 (bitsOf m 119 108), tag := BitVec.ofNat 10 (bitsOf m 107 98),
    ocl := BitVec.ofNat 4 (bitsOf m 97 94), addr := BitVec.ofNat 52 (bitsOf m 93 42), pst := m.testBit 41,
    psn := m.testBit 40, ncnt := BitVec.ofNat 8 ncnt, stamp := BitVec.ofNat 16 (bitsOf m 31 16), anc := m.testBit 15,
    mask := if opc = 5 then BitVec.ofNat 128 e0 else 0,
    data := if opc = 4 ∨ opc = 5 ∨ opc = 6 then line else 0,
    atom := if at_ then
        { aop := BitVec.ofNat 6 aop, asz := BitVec.ofNat 2 asz, ret := m.testBit 6,
          lmask := if asz = 3 then BitVec.ofNat 32 e0 else 0,
          opa := if asz = 3 then 0 else BitVec.ofNat 128 e0,
          opb := if asz ≠ 3 ∧ aop = 9 then BitVec.ofNat 128 (ext.getD 1 0) else 0,
          vop := if asz = 3 then line else 0 }
      else {} }

/-- An answer slot of a Hinge link (R266). -/
def hingeAns (m : Nat) (data : Bool) (line : BitVec 1024) : AgentMsg :=
  { isData := data, opc := BitVec.ofNat 4 (bitsOf m 125 122), src := BitVec.ofNat 12 (bitsOf m 119 108),
    hdev := BitVec.ofNat 6 (bitsOf m 107 102), htag := BitVec.ofNat 16 (bitsOf m 101 86),
    psn := data && m.testBit 85, data := if data then line else 0 }

/-- The messages of the slots still to be read; k lines of payload are used already. None: the header is malformed
(R268). fuel bounds the slots. -/
def hingeSlots (slots : List Nat) (pay : List (BitVec 512)) (k fuel : Nat) : Option (List HMsg × Nat) :=
  match fuel, slots with
  | _, [] => some ([], k)
  | 0, _ => none
  | f + 1, m :: rest =>
    let vc := bitsOf m 127 126
    let opc := bitsOf m 125 122
    let xs := bitsOf m 121 120
    let ext := rest.take xs
    if rest.length < xs then none
    else
      let line := lineOf pay k
      if vc = 0 then
        let asz := bitsOf m 8 7
        match hingeXs opc (bitsOf m 14 9) asz with
        | some n =>
          if n ≠ xs then none
          else
            let d := hingeData opc asz
            (hingeSlots (rest.drop xs) pay (k + b2n d) f).map (fun r =>
              (.req (hingeReq m ext line) (1 + xs + 8 * b2n d) :: r.1, r.2))
        | none => (hingeSlots (rest.drop xs) pay k f).map (fun r => (.req (hingeReq m [] 0) (1 + xs) :: r.1, r.2))
      else if vc = 2 then
        if opc ≤ 1 ∧ xs ≠ 0 then none
        else (hingeSlots (rest.drop xs) pay k f).map (fun r => (.resp (hingeAns m false 0) (1 + xs) :: r.1, r.2))
      else if vc = 3 then
        let d := opc == 0
        if d ∧ xs ≠ 0 then none
        else (hingeSlots (rest.drop xs) pay (k + b2n d) f).map (fun r =>
          (.resp (hingeAns m true (if d then line else 0)) (1 + xs + 8 * b2n d) :: r.1, r.2))
      else none

/-- The messages of a Hinge header flit and its payload; none when it is malformed (R268). -/
def hingeParse (f : BitVec 512) (pay : List (BitVec 512)) : Option (List HMsg) :=
  match slotCount (flSlv f), flPay f with
  | some n, some p =>
    match hingeSlots ((List.range n).map (flSlot f)) pay 0 3 with
    | some (l, k) => if 2 * k = p then some l else none
    | none => none
  | _, _ => none

/-! ### Messages of a Knuckle link (R291 to R295) -/

/-- Extension slots of a Knuckle request (R293). -/
def kXs (opc aop asz : Nat) : Option Nat :=
  match opc with
  | 7 | 8 => if asz = 3 then some 1 else if aop = 9 then some 1 else some 2
  | 0 | 1 | 2 | 3 | 4 | 6 | 9 => some 0
  | 5 => some 1
  | _ => none

/-- A Knuckle request slot (R292, R293). -/
def kReq (m : Nat) (ext : List Nat) (line : BitVec 1024) : Req :=
  let opc := bitsOf m 121 118
  let atx := ext.getD 0 0
  let aop := bitsOf atx 127 122
  let asz := bitsOf atx 121 120
  let at_ := opc == 7 || opc == 8
  { opc := BitVec.ofNat 4 opc, homeDev := BitVec.ofNat 6 (bitsOf m 115 110), src := BitVec.ofNat 12 (bitsOf m 109 98),
    tag := BitVec.ofNat 10 (bitsOf m 97 88), ocl := BitVec.ofNat 4 (bitsOf m 87 84), addr := BitVec.ofNat 52 (bitsOf m 83 32),
    pst := m.testBit 31, psn := m.testBit 30, ncnt := BitVec.ofNat 8 (bitsOf m 29 22), stamp := BitVec.ofNat 16 (bitsOf m 21 6),
    anc := m.testBit 5, pcls := BitVec.ofNat 4 (bitsOf m 4 1),
    mask := if opc = 5 then BitVec.ofNat 128 atx else 0,
    data := if opc = 4 ∨ opc = 5 ∨ opc = 6 then line else 0,
    atom := if at_ then
        { aop := BitVec.ofNat 6 aop, asz := BitVec.ofNat 2 asz, ret := atx.testBit 119,
          lmask := if asz = 3 then BitVec.ofNat 32 (bitsOf atx 31 0) else 0,
          opa := if asz = 3 then 0 else if aop = 9 then line.setWidth 128 else BitVec.ofNat 128 (ext.getD 1 0),
          opb := if asz ≠ 3 ∧ aop = 9 then BitVec.ofNat 128 (bitsOf line.toNat 255 128) else 0,
          vop := if asz = 3 then line else 0 }
      else {} }

/-- The device-to-agent response opcodes, of a slot whose Hinge bits lie sh bits lower (R92, R266, R292). -/
def outResp (m sh : Nat) (opc : Nat) : Option OutMsg :=
  let f := fun hi lo => bitsOf m (hi - sh) (lo - sh)
  let dst := BitVec.ofNat 12 (f 119 108)
  let tag := BitVec.ofNat 10 (f 107 98)
  match opc with
  | 0 => some (.ack dst tag (BitVec.ofNat 2 (f 97 96)))
  | 2 => some (.nack dst tag { retry := BitVec.ofNat 12 (f 95 84), rsn := BitVec.ofNat 3 (f 83 81), ncnt := BitVec.ofNat 8 (f 80 73),
                               stamp := BitVec.ofNat 16 (f 72 57), anc := m.testBit (56 - sh) })
  | 3 => some (.poisoned dst tag)
  | 4 => some (.fenceDone dst tag (m.testBit (48 - sh)) (BitVec.ofNat 32 (f 47 16)))
  | 5 => some (.targetDown dst tag)
  | 6 => some (.targetClosing dst tag)
  | _ => none

/-- A notice slot (R294). -/
def kNote (m : Nat) (ext : List Nat) : Notice :=
  let opc := bitsOf m 121 118
  let e := ext.getD 0 0
  let tag := BitVec.ofNat 10 (bitsOf m 91 82)
  { ddev := BitVec.ofNat 6 (bitsOf m 115 110), sdev := BitVec.ofNat 6 (bitsOf m 109 104), agent := BitVec.ofNat 12 (bitsOf m 103 92),
    body := match opc with
      | 0 => .dmark tag (BitVec.ofNat 6 (bitsOf m 81 76)) (m.testBit 75)
      | 1 => .wdone tag
      | 2 => .tmo
      | 3 => .pfault (BitVec.ofNat 16 (bitsOf m 91 76)) (BitVec.ofNat 64 (bitsOf e 127 64)) (BitVec.ofNat 12 (bitsOf e 63 52))
          (BitVec.ofNat 52 (bitsOf e 51 0))
      | 4 => .gone (BitVec.ofNat 2 (bitsOf m 91 90))
      | 5 => .cleaned
      | 6 => .ungone
      | 7 => .gsnp (BitVec.ofNat 52 (bitsOf m 91 40)) (BitVec.ofNat 16 (bitsOf m 39 24))
      | 8 => .gack (BitVec.ofNat 16 (bitsOf m 91 76))
      | n => .unused (BitVec.ofNat 4 n) }

/-- A management slot (R307). -/
def kMgmt (m : Nat) : Mgmt :=
  { opc := BitVec.ofNat 4 (bitsOf m 121 118), ddev := BitVec.ofNat 6 (bitsOf m 115 110), sdev := BitVec.ofNat 6 (bitsOf m 109 104),
    mtag := BitVec.ofNat 8 (bitsOf m 103 96), offset := BitVec.ofNat 26 (bitsOf m 95 70), w32 := m.testBit 69,
    data := BitVec.ofNat 64 (bitsOf m 68 5), status := BitVec.ofNat 3 (bitsOf m 4 2) }

/-- The channels that a class may use (R291). -/
def kclsChan (cls opc kvc : Nat) : Bool :=
  match cls with
  | 0 => kvc == 0 || kvc == 4
  | 1 => kvc == 1 || kvc == 5
  | 2 | 6 => kvc == 2 || kvc == 5
  | 3 | 7 => kvc == 3 || kvc == 5
  | 4 => (if opc = 7 then kvc == 1 else kvc == 2) || kvc == 5
  | _ => kvc == 6

/-- What one Knuckle main slot with its extensions says: the body (none for an opcode without a message), whether it
takes a line of payload; none when malformed: an XS that its listed opcode does not have (R268, R291 to R295). -/
def kSlot (m : Nat) (ext : List Nat) (line : BitVec 1024) (xs : Nat) : Option (Option KBody × Bool) :=
  let cls := bitsOf m 124 122
  let opc := bitsOf m 121 118
  let f := fun hi lo => bitsOf m (hi - 4) (lo - 4)
  match cls with
  | 0 =>
    let atx := ext.getD 0 0
    let aop := bitsOf atx 127 122
    let asz := bitsOf atx 121 120
    let atom := opc == 7 || opc == 8
    match kXs opc aop asz with
    | some n =>
      if n ≠ xs then none
      else some (some (.req (kReq m ext line)), opc == 4 || opc == 5 || opc == 6 || (atom && (asz == 3 || aop == 9)))
    | none => some (none, false)
  | 1 =>
    let op : Option SnpOp := match opc with | 0 => some .inv | 1 => some .data | 2 => some .invData | 3 => some .cur | _ => none
    if op.isSome && xs != 0 then none
    else some (op.map (fun o => .out (.snp o (BitVec.ofNat 12 (f 119 108)) (BitVec.ofNat 52 (f 107 56)) (BitVec.ofNat 6 (f 55 50))
      (BitVec.ofNat 16 (f 49 34)))), false)
  | 2 =>
    let r := outResp m 4 opc
    if r.isSome && xs != 0 then none else some (r.map .out, false)
  | 3 =>
    if opc ≠ 0 then some (none, false)
    else if xs ≠ 0 then none
    else some (some (.out (.ackData (BitVec.ofNat 12 (f 119 108)) (BitVec.ofNat 10 (f 107 98)) (BitVec.ofNat 2 (f 97 96)) line)), true)
  | 4 => if opc ≤ 8 ∧ xs ≠ (if opc = 3 then 1 else 0) then none else some (some (.note (kNote m ext)), false)
  | 5 => if opc ≤ 3 ∧ xs ≠ 0 then none else some (some (.mgmt (kMgmt m)), false)
  | 6 =>
    let a : Ans := { kind := if opc = 1 then .notPresent else .ack, src := BitVec.ofNat 12 (f 119 108), hdev := BitVec.ofNat 6 (f 107 102),
                     htag := BitVec.ofNat 16 (f 101 86) }
    if 1 < opc then some (none, false) else if xs ≠ 0 then none else some (some (.ans a), false)
  | _ =>
    if opc ≠ 0 then some (none, false)
    else if xs ≠ 0 then none
    else some (some (.ans { kind := .ackData, src := BitVec.ofNat 12 (f 119 108), hdev := BitVec.ofNat 6 (f 107 102),
                            htag := BitVec.ofNat 16 (f 101 86), psn := m.testBit 81, data := line }), true)

/-- The messages of the Knuckle slots still to be read, with their units (R292, R295). -/
def kSlots (slots : List Nat) (pay : List (BitVec 512)) (k fuel : Nat) : Option (List (Nat × Option KMsg × Nat) × Nat) :=
  match fuel, slots with
  | _, [] => some ([], k)
  | 0, _ => none
  | f + 1, m :: rest =>
    let kvc := bitsOf m 127 125
    let xs := bitsOf m 117 116
    if rest.length < xs || !kclsChan (bitsOf m 124 122) (bitsOf m 121 118) kvc then none
    else
      match kSlot m (rest.take xs) (lineOf pay k) xs with
      | none => none
      | some (b, d) =>
        (kSlots (rest.drop xs) pay (k + b2n d) f).map (fun r =>
          ((kvc, b.map (fun b => { kvc := BitVec.ofNat 3 kvc, re := m.testBit 0, body := b }), 1 + xs + 8 * b2n d) :: r.1, r.2))

/-- The messages of a Knuckle header flit: channel, message, units; none when it is malformed (R295). -/
def kParse (f : BitVec 512) (pay : List (BitVec 512)) : Option (List (Nat × Option KMsg × Nat)) :=
  match slotCount (flSlv f), flPay f, kCredits f with
  | some n, some p, some _ =>
    match kSlots ((List.range n).map (flSlot f)) pay 0 3 with
    | some (l, k) => if 2 * k = p then some l else none
    | none => none
  | _, _, _ => none

end Sys2Proof.Machine
end

