-- ==== Sys2Proof/Machine/Float.lean ====
section
/-! DEFINITION. IEEE 754-2019 arithmetic on FP32 and FP64: exact values, one rounding, and the flags of R172 (R171 to
R173, R355 to R357). -/

namespace Sys2Proof.Machine

/-- A binary interchange format: widths of exponent and fraction. -/
structure Fmt where
  eb : Nat
  mb : Nat
  deriving DecidableEq, Repr

def fp32 : Fmt := { eb := 8, mb := 23 }
def fp64 : Fmt := { eb := 11, mb := 52 }

/-- Bits of the format. -/
def Fmt.width (f : Fmt) : Nat := 1 + f.eb + f.mb
/-- The exponent bias. -/
def Fmt.bias (f : Fmt) : Nat := 2 ^ (f.eb - 1) - 1
/-- The exponent of the last place of a subnormal number. -/
def Fmt.emin (f : Fmt) : Int := 1 - (f.bias : Int) - f.mb
/-- The exponent field of infinities and NaNs. -/
def Fmt.emax (f : Fmt) : Nat := 2 ^ f.eb - 1

/-- A value: a NaN (signaling or not), an infinity, or a finite number (-1)^neg · m · 2^e. -/
inductive FV where
  | nan (sig : Bool)
  | inf (neg : Bool)
  | fin (neg : Bool) (m : Nat) (e : Int)
  deriving DecidableEq, Repr

/-- Rounding directions, as FCSR.RM encodes them (R355). -/
inductive Rnd where
  | near | zero | down | up
  deriving DecidableEq, Repr

/-- The rounding direction of RM. -/
def rndOf (rm : Nat) : Rnd :=
  match rm with
  | 0 => .near | 1 => .zero | 2 => .down | _ => .up

/-- The flags as bits: INEXACT 1, UNDERFLOW 2, OVERFLOW 4, INVALID 8 (R172), DIVZERO 16 (R355). -/
def flNX : Nat := 1
def flUF : Nat := 2
def flOF : Nat := 4
def flNV : Nat := 8
def flDZ : Nat := 16

/-- The value of a bit pattern. -/
def Fmt.dec (f : Fmt) (b : Nat) : FV :=
  let neg := b.testBit (f.eb + f.mb)
  let e := bitsOf b (f.eb + f.mb - 1) f.mb
  let m := b % 2 ^ f.mb
  if e = f.emax then (if m = 0 then .inf neg else .nan (!m.testBit (f.mb - 1)))
  else if e = 0 then .fin neg m f.emin
  else .fin neg (m + 2 ^ f.mb) (f.emin + (e : Int) - 1)

/-- The bit pattern of given fields. -/
def Fmt.pack (f : Fmt) (neg : Bool) (e m : Nat) : Nat := b2n neg * 2 ^ (f.eb + f.mb) + e * 2 ^ f.mb + m

/-- The canonical quiet NaN (R173). -/
def Fmt.qnan (f : Fmt) : Nat := f.pack false f.emax (2 ^ (f.mb - 1))

/-- An infinity. -/
def Fmt.infinity (f : Fmt) (neg : Bool) : Nat := f.pack neg f.emax 0

/-- The magnitude m · 2^e (and a little more when sticky) cut to a multiple of 2^q and rounded: the multiple, and
whether it is inexact. -/
def roundAt (r : Rnd) (neg : Bool) (m : Nat) (e q : Int) (sticky : Bool) : Nat × Bool :=
  if q ≤ e then (m * 2 ^ (e - q).toNat, sticky)
  else
    let k := (q - e).toNat
    let t := m / 2 ^ k
    let rem := m % 2 ^ k
    let half := 2 ^ (k - 1)
    let inexact := decide (rem ≠ 0) || sticky
    let up := match r with
      | .near => decide (half < rem) || (rem == half && (sticky || t % 2 == 1))
      | .zero => false
      | .down => neg && inexact
      | .up => !neg && inexact
    (if up then t + 1 else t, inexact)

/-- The result of rounding (-1)^neg · m · 2^e, m not 0, to the format, with its flags. -/
def Fmt.round (f : Fmt) (r : Rnd) (neg : Bool) (m : Nat) (e : Int) (sticky : Bool) : Nat × Nat :=
  let len : Int := (Nat.log2 m : Int) + 1
  let q0 := e + len - (f.mb + 1)
  let q := if q0 < f.emin then f.emin else q0
  let x := roundAt r neg m e q sticky
  let carry := x.1 == 2 ^ (f.mb + 1)
  let mant := if carry then 2 ^ f.mb else x.1
  let q' := if carry then q + 1 else q
  let expo := if mant < 2 ^ f.mb then 0 else (q' - f.emin + 1).toNat
  let minN := f.emin + f.mb
  let tiny := decide (e + len ≤ minN) &&
    !(decide (e + len = minN) && (roundAt r neg m e q0 sticky).1 == 2 ^ (f.mb + 1))
  if f.emax ≤ expo then
    let toInf := match r with
      | .near => true | .zero => false | .down => neg | .up => !neg
    (if toInf then f.infinity neg else f.pack neg (f.emax - 1) (2 ^ f.mb - 1), flOF + flNX)
  else
    (f.pack neg expo (mant % 2 ^ f.mb), (if x.2 then flNX else 0) + (if tiny && x.2 then flUF else 0))

/-- The INVALID flag when an operand is a signaling NaN. -/
def sigFlag (l : List FV) : Nat := if l.any (fun v => v == .nan true) then flNV else 0

/-- Whether a value is a NaN. -/
def FV.isNan (v : FV) : Bool := match v with | .nan _ => true | _ => false

/-- The sum of two values (R171, R357). -/
def Fmt.addV (f : Fmt) (r : Rnd) (x y : FV) : Nat × Nat :=
  match x, y with
  | .nan _, _ | _, .nan _ => (f.qnan, sigFlag [x, y])
  | .inf a, .inf b => if a = b then (f.infinity a, 0) else (f.qnan, flNV)
  | .inf a, _ => (f.infinity a, 0)
  | _, .inf b => (f.infinity b, 0)
  | .fin a m e, .fin b n g =>
    let q := min e g
    let u : Int := (if a then -1 else 1) * (m * 2 ^ (e - q).toNat : Nat)
    let v : Int := (if b then -1 else 1) * (n * 2 ^ (g - q).toNat : Nat)
    let t := u + v
    if t = 0 then
      let neg := if m = 0 ∧ n = 0 ∧ a = b then a else r == .down
      (f.pack neg 0 0, 0)
    else f.round r (decide (t < 0)) t.natAbs q false

/-- A value with its sign inverted. -/
def FV.neg (v : FV) : FV :=
  match v with
  | .nan s => .nan s
  | .inf a => .inf (!a)
  | .fin a m e => .fin (!a) m e

/-- The product of two values. -/
def Fmt.mulV (f : Fmt) (r : Rnd) (x y : FV) : Nat × Nat :=
  match x, y with
  | .nan _, _ | _, .nan _ => (f.qnan, sigFlag [x, y])
  | .inf a, .inf b => (f.infinity (xor a b), 0)
  | .inf a, .fin b n _ => if n = 0 then (f.qnan, flNV) else (f.infinity (xor a b), 0)
  | .fin a m _, .inf b => if m = 0 then (f.qnan, flNV) else (f.infinity (xor a b), 0)
  | .fin a m e, .fin b n g =>
    if m = 0 ∨ n = 0 then (f.pack (xor a b) 0 0, 0) else f.round r (xor a b) (m * n) (e + g) false

/-- The quotient of two values (R355: DIVZERO for a finite non-zero value by zero). -/
def Fmt.divV (f : Fmt) (r : Rnd) (x y : FV) : Nat × Nat :=
  match x, y with
  | .nan _, _ | _, .nan _ => (f.qnan, sigFlag [x, y])
  | .inf _, .inf _ => (f.qnan, flNV)
  | .inf a, .fin b _ _ => (f.infinity (xor a b), 0)
  | .fin a _ _, .inf b => (f.pack (xor a b) 0 0, 0)
  | .fin a m e, .fin b n g =>
    if n = 0 then (if m = 0 then (f.qnan, flNV) else (f.infinity (xor a b), flDZ))
    else if m = 0 then (f.pack (xor a b) 0 0, 0)
    else
      let k := 2 * f.mb + 6
      let z := m * 2 ^ k
      f.round r (xor a b) (z / n) (e - g - k) (decide (z % n ≠ 0))

/-- The integer square root of n, bit by bit from bit k downward: r is the root found so far. -/
def isqrt (n r k : Nat) : Nat :=
  let c := r + 2 ^ k
  let r' := if c * c ≤ n then c else r
  match k with
  | 0 => r'
  | j + 1 => isqrt n r' j

/-- The square root of a value. -/
def Fmt.sqrtV (f : Fmt) (r : Rnd) (x : FV) : Nat × Nat :=
  match x with
  | .nan _ => (f.qnan, sigFlag [x])
  | .inf a => if a then (f.qnan, flNV) else (f.infinity false, 0)
  | .fin a m e =>
    if m = 0 then (f.pack a 0 0, 0)
    else if a then (f.qnan, flNV)
    else
      let odd := e % 2 == 1
      let m1 := if odd then 2 * m else m
      let e1 := if odd then e - 1 else e
      let k := f.mb + 4
      let z := m1 * 2 ^ (2 * k)
      let q := isqrt z 0 (Nat.log2 z / 2 + 1)
      f.round r false q (e1 / 2 - k) (decide (q * q ≠ z))

/-- The order of two bit patterns that are not NaNs, -0 below +0. -/
def Fmt.key (f : Fmt) (b : Nat) : Int :=
  let mag := b % 2 ^ (f.eb + f.mb)
  if b.testBit (f.eb + f.mb) then -(mag : Int) - 1 else mag

/-- minimumNumber or maximumNumber of two bit patterns (R171, R173). -/
def Fmt.minMax (f : Fmt) (isMax : Bool) (x y : Nat) : Nat × Nat :=
  let u := f.dec x
  let v := f.dec y
  let fl := sigFlag [u, v]
  if u.isNan && v.isNan then (f.qnan, fl)
  else if u.isNan then (y, fl)
  else if v.isNan then (x, fl)
  else if decide (f.key x < f.key y) == isMax then (y, fl) else (x, fl)

/-- The number that compares a value that is not a NaN: both zeros compare equal. -/
def Fmt.ord (f : Fmt) (b : Nat) : Int :=
  let mag := b % 2 ^ (f.eb + f.mb)
  if b.testBit (f.eb + f.mb) then -(mag : Int) else mag

/-- FEQ (R356). -/
def Fmt.eqB (f : Fmt) (x y : Nat) : Nat × Nat :=
  let u := f.dec x
  let v := f.dec y
  if u.isNan || v.isNan then (0, sigFlag [u, v]) else (b2n (f.ord x == f.ord y), 0)

/-- FLT and FLE (R356). -/
def Fmt.ltB (f : Fmt) (orEq : Bool) (x y : Nat) : Nat × Nat :=
  let u := f.dec x
  let v := f.dec y
  if u.isNan || v.isNan then (0, flNV)
  else (b2n (if orEq then decide (f.ord x ≤ f.ord y) else decide (f.ord x < f.ord y)), 0)

/-- FCVT.I: to a signed 64-bit integer, as its 64 bits (R357). -/
def FV.toInt (r : Rnd) (x : FV) : Nat × Nat :=
  match x with
  | .nan _ => (0x7FFFFFFFFFFFFFFF, flNV)
  | .inf a => (if a then 0x8000000000000000 else 0x7FFFFFFFFFFFFFFF, flNV)
  | .fin a m e =>
    let y := roundAt r a m e 0 false
    if a then
      (if y.1 ≤ 2 ^ 63 then ((2 ^ 64 - y.1) % 2 ^ 64, if y.2 then flNX else 0) else (0x8000000000000000, flNV))
    else (if y.1 < 2 ^ 63 then (y.1, if y.2 then flNX else 0) else (0x7FFFFFFFFFFFFFFF, flNV))

/-- FCVT.F: from a signed 64-bit integer (R356). -/
def Fmt.ofInt (f : Fmt) (r : Rnd) (b : Nat) : Nat × Nat :=
  if b = 0 then (0, 0)
  else if b < 2 ^ 63 then f.round r false b 0 false
  else f.round r true (2 ^ 64 - b) 0 false

/-- FCVT.P: to another format (R356, R357). -/
def Fmt.conv (f : Fmt) (r : Rnd) (x : FV) : Nat × Nat :=
  match x with
  | .nan s => (f.qnan, if s then flNV else 0)
  | .inf a => (f.infinity a, 0)
  | .fin a m e => if m = 0 then (f.pack a 0 0, 0) else f.round r a m e false

end Sys2Proof.Machine
end

