-- ==== Sys2Proof/Machine/Atomic.lean ====
section
/-! DEFINITION. What an atomic computes: its operations, sizes, result data and flags (R164 to R173). -/

namespace Sys2Proof.Machine

/-- Operand bytes of an ASZ below 11 (R166). -/
def aszBytes (asz : Nat) : Nat := 4 * 2 ^ asz

/-- The element format of a floating-point AOP. -/
def aopFmt (aop : Nat) : Fmt := if aop < 0x0D then fp32 else fp64

/-- Whether the AOP is permitted at the size (R165, R167). -/
def sizeOk (aop asz : Nat) : Bool :=
  if aop ≤ 9 then decide (asz ≤ 2)
  else if aop ≤ 0x0C then true
  else if aop ≤ 0x0F then decide (asz ≠ 0)
  else false

/-- Whether an atomic is malformed (R168). -/
def malformed (a : Atom) (addr : BitVec 52) : Bool :=
  let o := addr.toNat % 128
  !sizeOk a.aop.toNat a.asz.toNat ||
    (if a.asz = 3 then o != 0 else o % aszBytes a.asz.toNat != 0)

/-- Lanes of a line in the format of an AOP. -/
def lanesOf (aop : Nat) : Nat := if aop < 0x0D then 32 else 16

/-- No lane is enabled at ASZ 11 (R167). -/
def noLane (a : Atom) : Bool := a.asz == 3 && a.lmask.toNat % 2 ^ lanesOf a.aop.toNat == 0

/-- A signed number of w bits. -/
def sgn (w v : Nat) : Int := if v < 2 ^ (w - 1) then v else (v : Int) - 2 ^ w

/-- The integer operations on w-bit values (R165). -/
def intOp (aop w m a b : Nat) : Nat :=
  match aop with
  | 0 => (m + a) % 2 ^ w
  | 1 => m &&& a
  | 2 => m ||| a
  | 3 => m ^^^ a
  | 4 => if sgn w m ≤ sgn w a then m else a
  | 5 => if sgn w a ≤ sgn w m then m else a
  | 6 => min m a
  | 7 => max m a
  | 8 => a
  | _ => if m = b then a else m

/-- The floating-point operations on one element: the value and the flags (R171 to R173). -/
def fpOp (aop m a : Nat) : Nat × Nat :=
  let f := aopFmt aop
  match (aop - 0x0A) % 3 with
  | 0 => f.addV .near (f.dec m) (f.dec a)
  | 1 => f.minMax false m a
  | _ => f.minMax true m a

/-- The elements of an operand of n elements: the results side by side and the flags of each. -/
def fpElems (aop w n m a : Nat) : Nat × List Nat :=
  (List.range n).foldl (fun (acc : Nat × List Nat) i =>
    let r := fpOp aop (bitsOf m (w * i + w - 1) (w * i)) (bitsOf a (w * i + w - 1) (w * i))
    (acc.1 + r.1 * 2 ^ (w * i), acc.2 ++ [r.2])) (0, [])

/-- The result of an atomic: the new line, the DATA of its response and the flags ORed together (R169, R172). -/
structure AtomOut where
  line : BitVec 1024
  resp : BitVec 1024
  flags : Nat
  deriving DecidableEq, Repr

/-- An atomic performed on a line (R165 to R169). -/
def atomRun (a : Atom) (addr : BitVec 52) (old : BitVec 1024) : AtomOut :=
  let aop := a.aop.toNat
  let f := aopFmt aop
  if a.asz = 3 then
    let n := lanesOf aop
    (List.range n).foldl (fun (acc : AtomOut) l =>
      if a.lmask.toNat.testBit l then
        let hi := f.width * l + f.width - 1
        let lo := f.width * l
        let r := fpOp aop (bitsOf old.toNat hi lo) (bitsOf a.vop.toNat hi lo)
        { line := BitVec.ofNat 1024 (setBits acc.line.toNat hi lo r.1)
          resp := BitVec.ofNat 1024 (setBits acc.resp.toNat (8 * l + 7) (8 * l) r.2)
          flags := acc.flags ||| r.2 }
      else acc) { line := old, resp := 0, flags := 0 }
  else
    let w := 8 * aszBytes a.asz.toNat
    let lo := 8 * (addr.toNat % 128)
    let m := bitsOf old.toNat (lo + w - 1) lo
    let x := a.opa.toNat % 2 ^ w
    let r : Nat × Nat :=
      if aop ≤ 9 then (intOp aop w m x (a.opb.toNat % 2 ^ w), 0)
      else
        let e := fpElems aop f.width (w / f.width) m x
        (e.1, e.2.foldl (· ||| ·) 0)
    { line := BitVec.ofNat 1024 (setBits old.toNat (lo + w - 1) lo r.1)
      resp := BitVec.ofNat 1024 (m + r.2 * 2 ^ 128)
      flags := r.2 }

/-- The bytes of a partial write merged into a line (R82). -/
def mergeBytes (mask : BitVec 128) (old new : BitVec 1024) : BitVec 1024 :=
  (List.range 128).foldl (fun (acc : BitVec 1024) i =>
    if mask.toNat.testBit i then BitVec.ofNat 1024 (setBits acc.toNat (8 * i + 7) (8 * i) (bitsOf new.toNat (8 * i + 7) (8 * i)))
    else acc) old

end Sys2Proof.Machine
end

