-- ==== Sys2Proof/Config.lean ====
section
/-! DEFINITION. What the specification leaves free: opaque constants that no proof can evaluate.
Each is applied to a counter held in State, so that every use may give a different value. -/

namespace Sys2Proof.Config

/-- A free 64-bit value, one for each index (log entry 3). -/
opaque freeWord : Nat → BitVec 64

/-- A free number, one for each index (log entry 3). -/
opaque freeNat : Nat → Nat

/-- A free stored block, one for each index (log entry 3). -/
opaque freeBlock : Nat → BitVec 1152

/-- Whether an agent of another device is declared non-caching there (log entry 16). -/
opaque remoteNonCaching : BitVec 12 → Bool

/-- What the hardware uses in place of stored register bits that fail parity, by the register's offset and those bits (log entry 74). -/
opaque badReg : Nat → Nat → BitVec 64

/-- The structure instance of a BIST group that holds a word, by the group's Id, the owning unit and the word index: the
specification does not say how words are shared out among a unit's instances (log entry 203). -/
opaque bistInstance : Nat → Nat → Nat → Nat

end Sys2Proof.Config
end

