-- ==== Sys2Proof/Machine/Sparse.lean ====
section
/-! DEFINITION. Sparse tables: lists of (key, value) in one canonical form, keys strictly rising and no
entry equal to what an unlisted key reads as. Every indexed piece of state is held in this form. -/

namespace Sys2Proof.Machine

/-- A table from numbers to values, held as a list of the entries that differ from the default. -/
abbrev Sparse (α : Type) := List (Nat × α)

/-- What key k reads as, d being what an unlisted key reads as. -/
def sget {α : Type} (m : Sparse α) (k : Nat) (d : α) : α :=
  match m with
  | [] => d
  | (i, v) :: t => if i = k then v else sget t k d

/-- The table with key k given the value v, by insertion in key order. -/
def sput {α : Type} (m : Sparse α) (k : Nat) (v : α) : Sparse α :=
  match m with
  | [] => [(k, v)]
  | (i, w) :: t =>
    if k < i then (k, v) :: (i, w) :: t
    else if i = k then (k, v) :: t
    else (i, w) :: sput t k v

/-- The table without an entry for key k. -/
def sdel {α : Type} (m : Sparse α) (k : Nat) : Sparse α :=
  match m with
  | [] => []
  | (i, w) :: t => if i = k then sdel t k else (i, w) :: sdel t k

/-- Write: key k reads v afterwards; writing the default removes the entry. -/
def sset {α : Type} [DecidableEq α] (m : Sparse α) (k : Nat) (v d : α) : Sparse α :=
  if v = d then sdel m k else sput m k v

/-- Write the result of a function of the old value. -/
def supd {α : Type} [DecidableEq α] (m : Sparse α) (k : Nat) (d : α) (f : α → α) : Sparse α :=
  sset m k (f (sget m k d)) d

/-- Every key of the table is above b and the keys rise strictly. -/
def skeysAbove {α : Type} (b : Option Nat) (m : Sparse α) : Bool :=
  match m with
  | [] => true
  | (i, _) :: t => (match b with | none => true | some n => decide (n < i)) && skeysAbove (some i) t

/-- No entry of the table equals the default. -/
def snoDefault {α : Type} [DecidableEq α] (d : α) (m : Sparse α) : Bool :=
  match m with
  | [] => true
  | (_, v) :: t => !decide (v = d) && snoDefault d t

/-- The canonical form: keys strictly rising, no default entry. -/
def swf {α : Type} [DecidableEq α] (d : α) (m : Sparse α) : Bool :=
  skeysAbove none m && snoDefault d m

end Sys2Proof.Machine
end

