-- ==== Sys2Proof/Machine/RegTable.lean ====
section
/-! DEFINITION. The register space (R491 to R495): every register of the index chapter, its window, its offset,
the bits that hold stored configuration, the bits the lock freezes, and the value after device reset, all from
the field tables of the chapter that defines it. -/

namespace Sys2Proof.Machine

/-- The register names of the index (R491). The arbiter set (R214) and the bandwidth set (R422) occur in several
blocks under one name here; the block is given beside the name. -/
inductive RegName where
  | DEV_IDENT
  | DEV_ADDR_PROBE
  | DEV_ADDR_RESULT
  | DEV_SNP_TMO
  | DEV_MODE
  | DEV_MODE_CTL
  | DEV_MODE_AT
  | DEV_LOCK
  | DEV_RETIRE
  | DEV_BIST_CTL
  | DEV_BIST_STATUS
  | DEV_ROUTE_SH
  | DEV_ROUTE
  | DEV_ROUTE_CTL
  | DEV_ROUTE_AT
  | DEV_HDM_BASE
  | DEV_HDM_SIZE
  | DEV_HDM_CTL
  | DEV_HDM_TGT
  | MT_NOW
  | MT_STATUS
  | MT_CTL
  | MT_APPLY_AT
  | MT_OFFSET
  | HV_CTL
  | HV_SNAP_AT
  | HV_STATUS
  | HV_DUMP_BASE
  | HV_DUMP_CTL
  | HV_DUMP_STATUS
  | SL_CTL
  | SL_LIMIT
  | SL_SHED_DISC
  | SL_SHED_STATUS
  | SL_EST
  | SL_STEP_CTL
  | SL_STEP_AT
  | SL_THERM
  | SL_PDN
  | SL_PDN_STATUS
  | SL_VR
  | SL_BED_REQ
  | ERR_LOG_STATUS
  | ERR_LOG_DROP
  | ERR_VEC_STATUS
  | ERR_VEC_MASK
  | ERR_CORR_THRESH
  | ERR_PF_STATUS
  | LAT_WORD
  | MBX_SEL
  | MBX_STATUS
  | MBX_DONE
  | MBX_DATA
  | MBX_CMD
  | MBX_SUBMIT
  | AUTH_KEY
  | AUTH_STATUS
  | AUTH_COUNTER
  | SM_CTL
  | SM_STATUS
  | SM_TIMER_CMP
  | SM_DOORBELL
  | SM_DOORBELL_ACK
  | SM_MSG
  | SM_POL_STATUS
  | HP_PORT_CFG
  | HP_TX_EQ
  | HP_LINK_CTL
  | HP_STATUS
  | HP_RETRY
  | HP_CREDIT
  | HP_AGENT_TMO
  | KL_LINK_CFG
  | KL_TX_EQ
  | KL_LINK_CTL
  | KL_STATUS
  | KL_RETRY
  | KL_DISCARD
  | MP_PORT_CFG
  | MP_CTL
  | MP_STATUS
  | MP_IO_ADDR
  | MP_IO_DATA
  | WAIT_LIMIT
  | ARB_HOLD
  | ARB_CTL
  | ARB_COMMIT_AT
  | ARB_STATUS
  | ARB_PRIO_SH
  | ARB_PRIO
  | BW_CTL
  | BW_IN_LAST
  | BW_OUT_LAST
  | BW_IN_PEAK
  | BW_OUT_PEAK
  | BW_END
  | BED_BRINE_CTL
  | BED_BRINE_STATUS
  | BED_BRINE_QSEL
  | BED_BRINE_QSTAT
  | BED_ECC_CTL
  | BED_ERASE
  | BED_ECC_STATUS
  | BED_BKT
  | BED_RAKE_CTL
  | BED_RAKE_START_AT
  | BED_RAKE_STATUS
  | BED_CHK_CTL
  | BED_CHK_DATA
  | BED_CHK_CHECK
  | BED_CHK_RESULT
  | BED_REST_CTL
  | BED_PWR_STATUS
  | PAN_CACHE_CTL
  | PAN_QUOTA
  | PAN_QUOTA_CTL
  | PAN_CLASS_HINT
  | PAN_BYPASS
  | PAN_PREFETCH
  | PAN_CACHE_STATUS
  | PAN_MD_PROBE
  | PAN_MD_ENTRY
  | PAN_HOLD
  | PAN_NACK_LIMIT
  | PAN_NACK_CTL
  | PAN_COH_STATUS
  | PAN_LOST_STATUS
  | PAN_ATOM_CTL
  | PAN_ATOM_FLAGS
  | PAN_ATOM_STATUS
  | PAN_ENG_CTL
  | PAN_ENG_STATUS
  | PAN_EVT_CUR
  | PAN_ENG_CMD
  | PAN_EVT
  | PAN_LAT
  | IMG_STATUS
  | IMG_CRC
  deriving DecidableEq, Repr

/-- The blocks of the register space (R491); the mailboxes are taken as a block of their own (R468), and arb and bw
are the sets that occur in several blocks. -/
inductive RegBlk where
  | dev | mth | sl | err | lat | mbx | auth | sm | hp | kl | mp | bed | pan | img | arb | bw
  deriving DecidableEq, Repr

/-- One row of the index: cnt registers from off, stride apart, in every instance of the block; store are the
bits of type RW and RWL (and the words of MBX_CMD), lock those of type RWL, reset their reset value, and roOnly
says that every field is RO (R462). For a register without RW or RWL bits, store are the bits the hardware
holds there; par says that the register holds an RW, RWL or WO1 field and so has a parity bit (R464). -/
structure RegRow where
  name : RegName
  blk : RegBlk
  off : Nat
  cnt : Nat
  stride : Nat
  store : Nat
  lock : Nat
  reset : Nat
  roOnly : Bool
  par : Bool
  deriving DecidableEq, Repr

/-- The rows of block dev. -/
def rows_dev : List RegRow := [
  ⟨.DEV_IDENT, .dev, 0, 1, 8, 0, 0, 0, true, false⟩,
  ⟨.DEV_ADDR_PROBE, .dev, 0x100, 1, 8, 0xFFFFFFFFFFFFF, 0, 0, false, true⟩,
  ⟨.DEV_ADDR_RESULT, .dev, 0x108, 1, 8, 0xFFFC0FFFFFFFFFFF, 0, 0, true, false⟩,
  ⟨.DEV_SNP_TMO, .dev, 0x200, 1, 8, 0xFFFFF, 0, 0x7D0, false, true⟩,
  ⟨.DEV_MODE, .dev, 0x300, 1, 8, 0, 0, 0, true, false⟩,
  ⟨.DEV_MODE_CTL, .dev, 0x308, 1, 8, 0xFFFF00000F00, 0, 0x1F400000600, false, true⟩,
  ⟨.DEV_MODE_AT, .dev, 0x310, 1, 8, 0xFFFFFFFFFFFFFFFF, 0, 0, false, true⟩,
  ⟨.DEV_LOCK, .dev, 0x400, 1, 8, 0, 0, 0, false, false⟩,
  ⟨.DEV_RETIRE, .dev, 0x408, 1, 8, 0, 0, 0, true, false⟩,
  ⟨.DEV_BIST_CTL, .dev, 0x500, 1, 8, 0xFFE, 0, 0, false, true⟩,
  ⟨.DEV_BIST_STATUS, .dev, 0x508, 1, 8, 0, 0, 0, true, false⟩,
  ⟨.DEV_ROUTE_SH, .dev, 0x1000, 64, 8, 0x8F07, 0, 0, false, true⟩,
  ⟨.DEV_ROUTE, .dev, 0x1200, 64, 8, 0x8F07, 0, 0, true, false⟩,
  ⟨.DEV_ROUTE_CTL, .dev, 0x1400, 1, 8, 0xFFFF00000000, 0, 0x3E800000000, false, true⟩,
  ⟨.DEV_ROUTE_AT, .dev, 0x1408, 1, 8, 0xFFFFFFFFFFFFFFFF, 0, 0, false, true⟩,
  ⟨.DEV_HDM_BASE, .dev, 0x2000, 16, 32, 0xFFFF0000000, 0xFFFF0000000, 0, false, true⟩,
  ⟨.DEV_HDM_SIZE, .dev, 0x2008, 16, 32, 0x1FFFF0000000, 0x1FFFF0000000, 0, false, true⟩,
  ⟨.DEV_HDM_CTL, .dev, 0x2010, 16, 32, 0xFF, 0xFF, 0, false, true⟩,
  ⟨.DEV_HDM_TGT, .dev, 0x2018, 16, 32, 0xFFFFFFFFFFFFFFFF, 0xFFFFFFFFFFFFFFFF, 0, false, true⟩]

/-- The rows of block mth. -/
def rows_mth : List RegRow := [
  ⟨.MT_NOW, .mth, 0, 1, 8, 0, 0, 0, true, false⟩,
  ⟨.MT_STATUS, .mth, 0x8, 1, 8, 0, 0, 0, false, false⟩,
  ⟨.MT_CTL, .mth, 0x10, 1, 8, 0, 0, 0, false, false⟩,
  ⟨.MT_APPLY_AT, .mth, 0x18, 1, 8, 0xFFFFFFFFFFFFFFFF, 0, 0, false, true⟩,
  ⟨.MT_OFFSET, .mth, 0x20, 1, 8, 0, 0, 0, true, false⟩,
  ⟨.HV_CTL, .mth, 0x100, 1, 8, 0xFFFFF0000000, 0, 0x3E80000000, false, true⟩,
  ⟨.HV_SNAP_AT, .mth, 0x108, 1, 8, 0xFFFFFFFFFFFFFFFF, 0, 0, false, true⟩,
  ⟨.HV_STATUS, .mth, 0x110, 1, 8, 0, 0, 0, false, false⟩,
  ⟨.HV_DUMP_BASE, .mth, 0x118, 1, 8, 0xFFFFFF00000, 0, 0, false, true⟩,
  ⟨.HV_DUMP_CTL, .mth, 0x120, 1, 8, 0xFFFFFFFF001, 0, 0x1002710001, false, true⟩,
  ⟨.HV_DUMP_STATUS, .mth, 0x128, 1, 8, 0, 0, 0, true, false⟩]

/-- The rows of block sl. -/
def rows_sl : List RegRow := [
  ⟨.SL_CTL, .sl, 0, 1, 8, 0xFFFF, 0, 0x6414, false, true⟩,
  ⟨.SL_LIMIT, .sl, 0x8, 1, 8, 0x3FF03FF001F, 0, 0x320012C0004, false, true⟩,
  ⟨.SL_SHED_DISC, .sl, 0x10, 1, 8, 0x7F, 0, 0x14, false, true⟩,
  ⟨.SL_SHED_STATUS, .sl, 0x18, 1, 8, 0, 0, 0, false, false⟩,
  ⟨.SL_EST, .sl, 0x20, 1, 8, 0, 0, 0, true, false⟩,
  ⟨.SL_STEP_CTL, .sl, 0x80, 1, 8, 0x20, 0, 0, false, true⟩,
  ⟨.SL_STEP_AT, .sl, 0x88, 1, 8, 0xFFFFFFFFFFFFFFFF, 0, 0, false, true⟩,
  ⟨.SL_THERM, .sl, 0x90, 1, 8, 0xFF00FF, 0, 0x64005A, false, true⟩,
  ⟨.SL_PDN, .sl, 0xA0, 1, 8, 0x7FF, 0, 0, false, true⟩,
  ⟨.SL_PDN_STATUS, .sl, 0xA8, 1, 8, 0, 0, 0, true, false⟩,
  ⟨.SL_VR, .sl, 0xB0, 1, 8, 0xFFFF, 0xFFFF, 0x32, false, true⟩,
  ⟨.SL_BED_REQ, .sl, 0x40, 8, 8, 0x1F, 0, 0x8, false, true⟩]

/-- The rows of block err. -/
def rows_err : List RegRow := [
  ⟨.ERR_LOG_STATUS, .err, 0, 1, 8, 0, 0, 0, false, false⟩,
  ⟨.ERR_LOG_DROP, .err, 0x8, 1, 8, 0, 0, 0, false, false⟩,
  ⟨.ERR_VEC_STATUS, .err, 0x10, 1, 8, 0, 0, 0, false, false⟩,
  ⟨.ERR_VEC_MASK, .err, 0x18, 1, 8, 0xFFFFFFFF, 0, 0, false, true⟩,
  ⟨.ERR_CORR_THRESH, .err, 0x20, 1, 8, 0xFFFF, 0, 0x40, false, true⟩,
  ⟨.ERR_PF_STATUS, .err, 0x40, 1, 8, 0, 0, 0, false, false⟩]

/-- The rows of block lat. -/
def rows_lat : List RegRow := [
  ⟨.LAT_WORD, .lat, 0, 64, 8, 0, 0, 0, false, false⟩]

/-- The rows of block mbx. -/
def rows_mbx : List RegRow := [
  ⟨.MBX_SEL, .mbx, 0, 1, 8, 0xF, 0, 0, false, true⟩,
  ⟨.MBX_STATUS, .mbx, 0x8, 1, 8, 0, 0, 0, false, false⟩,
  ⟨.MBX_DONE, .mbx, 0x10, 1, 8, 0, 0, 0, false, false⟩,
  ⟨.MBX_DATA, .mbx, 0x40, 8, 8, 0xFFFFFFFFFFFFFFFF, 0, 0, true, false⟩,
  ⟨.MBX_CMD, .mbx, 0x80, 8, 8, 0xFFFFFFFFFFFFFFFF, 0, 0, false, false⟩,
  ⟨.MBX_SUBMIT, .mbx, 0xC0, 1, 8, 0, 0, 0, false, false⟩]

/-- The rows of block auth. -/
def rows_auth : List RegRow := [
  ⟨.AUTH_KEY, .auth, 0, 4, 8, 0, 0, 0, false, true⟩,
  ⟨.AUTH_STATUS, .auth, 0x40, 1, 8, 0, 0, 0, true, false⟩,
  ⟨.AUTH_COUNTER, .auth, 0x48, 1, 8, 0, 0, 0, true, false⟩]

/-- The rows of block sm. -/
def rows_sm : List RegRow := [
  ⟨.SM_CTL, .sm, 0, 1, 8, 0x2, 0, 0, false, true⟩,
  ⟨.SM_STATUS, .sm, 0x8, 1, 8, 0, 0, 0, true, false⟩,
  ⟨.SM_TIMER_CMP, .sm, 0x10, 1, 8, 0xFFFFFFFFFFFFFFFF, 0, 0, false, true⟩,
  ⟨.SM_DOORBELL, .sm, 0x18, 1, 8, 0, 0, 0, false, false⟩,
  ⟨.SM_DOORBELL_ACK, .sm, 0x20, 1, 8, 0, 0, 0, false, false⟩,
  ⟨.SM_MSG, .sm, 0x28, 1, 8, 0xFFFFFFFFFFFFFFFF, 0, 0, false, true⟩,
  ⟨.SM_POL_STATUS, .sm, 0x100, 1, 8, 0, 0, 0, false, false⟩]

/-- The rows of block hp. -/
def rows_hp : List RegRow := [
  ⟨.HP_PORT_CFG, .hp, 0, 1, 8, 0x3CFCFCFCF, 0x3CFCFCFCF, 0, false, true⟩,
  ⟨.HP_TX_EQ, .hp, 0x8, 1, 8, 0xFFFFFFFFFFFFFFFF, 0xFFFFFFFFFFFFFFFF, 0, false, true⟩,
  ⟨.HP_LINK_CTL, .hp, 0x10, 1, 8, 0xFFFFFFFF0000, 0, 0x64000A0000, false, true⟩,
  ⟨.HP_STATUS, .hp, 0x18, 1, 8, 0, 0, 0, true, false⟩,
  ⟨.HP_RETRY, .hp, 0x20, 2, 8, 0, 0, 0, true, false⟩,
  ⟨.HP_CREDIT, .hp, 0x30, 2, 8, 0, 0, 0, true, false⟩,
  ⟨.HP_AGENT_TMO, .hp, 0x700, 1, 8, 0xFFFFFFFFFF, 0, 0x400000000, false, true⟩]

/-- The rows of block kl. -/
def rows_kl : List RegRow := [
  ⟨.KL_LINK_CFG, .kl, 0, 1, 8, 0xFFF801, 0xFFF801, 0, false, true⟩,
  ⟨.KL_TX_EQ, .kl, 0x8, 1, 8, 0xFFFFFFFFFFFFFFFF, 0xFFFFFFFFFFFFFFFF, 0, false, true⟩,
  ⟨.KL_LINK_CTL, .kl, 0x10, 1, 8, 0xFFFFFFFF0000, 0, 0x64000A0000, false, true⟩,
  ⟨.KL_STATUS, .kl, 0x18, 1, 8, 0, 0, 0, true, false⟩,
  ⟨.KL_RETRY, .kl, 0x20, 1, 8, 0, 0, 0, true, false⟩,
  ⟨.KL_DISCARD, .kl, 0x28, 1, 8, 0, 0, 0, false, false⟩]

/-- The rows of block mp. -/
def rows_mp : List RegRow := [
  ⟨.MP_PORT_CFG, .mp, 0, 1, 8, 0xFFFFFFFF0003, 0xFFFFFFFF0003, 0, false, true⟩,
  ⟨.MP_CTL, .mp, 0x10, 1, 8, 0xFFFF0002, 0, 0x320002, false, true⟩,
  ⟨.MP_STATUS, .mp, 0x18, 1, 8, 0, 0, 0, true, false⟩,
  ⟨.MP_IO_ADDR, .mp, 0x20, 1, 8, 0xE00F0000FFFFFFFF, 0, 0, false, true⟩,
  ⟨.MP_IO_DATA, .mp, 0x28, 1, 8, 0xFFFFFFFF, 0, 0, false, true⟩]

/-- The rows of block arb. -/
def rows_arb : List RegRow := [
  ⟨.WAIT_LIMIT, .arb, 0x900, 1, 8, 0x3FF, 0, 0x40, false, true⟩,
  ⟨.ARB_HOLD, .arb, 0x908, 1, 8, 0x1FFFFFFFFF, 0, 0x10000100, false, true⟩,
  ⟨.ARB_CTL, .arb, 0x910, 1, 8, 0xC0, 0, 0xC0, false, true⟩,
  ⟨.ARB_COMMIT_AT, .arb, 0x918, 1, 8, 0xFFFFFFFFFFFFFFFF, 0, 0, false, true⟩,
  ⟨.ARB_STATUS, .arb, 0x920, 1, 8, 0, 0, 0, true, false⟩,
  ⟨.ARB_PRIO_SH, .arb, 0x940, 8, 8, 0xFFFFFFFFFFFFFFFF, 0, 0, false, true⟩,
  ⟨.ARB_PRIO, .arb, 0x980, 8, 8, 0xFFFFFFFFFFFFFFFF, 0, 0, true, false⟩]

/-- The rows of block bw. -/
def rows_bw : List RegRow := [
  ⟨.BW_CTL, .bw, 0xB00, 1, 8, 0xFFFFF, 0, 0x3E8, false, true⟩,
  ⟨.BW_IN_LAST, .bw, 0xB08, 1, 8, 0xFFFFFFFFFFFF, 0, 0, true, false⟩,
  ⟨.BW_OUT_LAST, .bw, 0xB10, 1, 8, 0xFFFFFFFFFFFF, 0, 0, true, false⟩,
  ⟨.BW_IN_PEAK, .bw, 0xB18, 1, 8, 0xFFFFFFFFFFFF, 0, 0, false, false⟩,
  ⟨.BW_OUT_PEAK, .bw, 0xB20, 1, 8, 0xFFFFFFFFFFFF, 0, 0, false, false⟩,
  ⟨.BW_END, .bw, 0xB28, 1, 8, 0xFFFFFFFFFFFFFFFF, 0, 0, true, false⟩]

/-- The rows of block bed. -/
def rows_bed : List RegRow := [
  ⟨.BED_BRINE_CTL, .bed, 0xA00, 1, 8, 0xFFFFFF07, 0, 0x60000801, false, true⟩,
  ⟨.BED_BRINE_STATUS, .bed, 0xA08, 1, 8, 0, 0, 0, true, false⟩,
  ⟨.BED_BRINE_QSEL, .bed, 0xA10, 1, 8, 0x3FF, 0, 0, false, true⟩,
  ⟨.BED_BRINE_QSTAT, .bed, 0xA18, 1, 8, 0, 0, 0, false, false⟩,
  ⟨.BED_ECC_CTL, .bed, 0xB00, 1, 8, 0xFFFFFFFF00000F07, 0, 0x3E8004000000207, false, true⟩,
  ⟨.BED_ERASE, .bed, 0xB08, 1, 8, 0x9F9F9F9F9F9F9F9F, 0, 0, false, true⟩,
  ⟨.BED_ECC_STATUS, .bed, 0xB10, 1, 8, 0, 0, 0, false, false⟩,
  ⟨.BED_BKT, .bed, 0xB40, 36, 8, 0xFFFFFFFFFFFFFFFF, 0, 0, false, true⟩,
  ⟨.BED_RAKE_CTL, .bed, 0xC80, 1, 8, 0xFFFFF00001, 0, 0x1518000001, false, true⟩,
  ⟨.BED_RAKE_START_AT, .bed, 0xC88, 1, 8, 0xFFFFFFFFFFFFFFFF, 0, 0, false, true⟩,
  ⟨.BED_RAKE_STATUS, .bed, 0xC90, 1, 8, 0, 0, 0, true, false⟩,
  ⟨.BED_CHK_CTL, .bed, 0xD00, 1, 8, 0xFFFFF0000F, 0, 0, false, true⟩,
  ⟨.BED_CHK_DATA, .bed, 0xD08, 2, 8, 0xFFFFFFFFFFFFFFFF, 0, 0, false, true⟩,
  ⟨.BED_CHK_CHECK, .bed, 0xD18, 1, 8, 0xFFFF, 0, 0, false, true⟩,
  ⟨.BED_CHK_RESULT, .bed, 0xD20, 1, 8, 0xFFFFFFFF, 0, 0, true, false⟩,
  ⟨.BED_REST_CTL, .bed, 0xE00, 1, 8, 0xFFFF0001, 0, 0x640000, false, true⟩,
  ⟨.BED_PWR_STATUS, .bed, 0xE08, 1, 8, 0, 0, 0, true, false⟩]

/-- The rows of block pan. -/
def rows_pan : List RegRow := [
  ⟨.PAN_CACHE_CTL, .pan, 0x400, 1, 8, 0x6, 0, 0x6, false, true⟩,
  ⟨.PAN_QUOTA, .pan, 0x408, 1, 8, 0xFFFFFFFFFFFFFFFF, 0, 0xFFFFFFFFFFFFFFFF, false, true⟩,
  ⟨.PAN_QUOTA_CTL, .pan, 0x410, 1, 8, 0xFFFF0000, 0, 0x400000, false, true⟩,
  ⟨.PAN_CLASS_HINT, .pan, 0x418, 1, 8, 0xFFFFFFFF, 0, 0, false, true⟩,
  ⟨.PAN_BYPASS, .pan, 0x420, 1, 8, 0xFFFFF, 0, 0, false, true⟩,
  ⟨.PAN_PREFETCH, .pan, 0x428, 1, 8, 0xFFFFFFF01F, 0, 0x200000, false, true⟩,
  ⟨.PAN_CACHE_STATUS, .pan, 0x430, 1, 8, 0, 0, 0, true, false⟩,
  ⟨.PAN_MD_PROBE, .pan, 0x438, 1, 8, 0xFFFFFF, 0, 0, false, true⟩,
  ⟨.PAN_MD_ENTRY, .pan, 0x440, 1, 8, 0xFFFFFFFFFFFFFFFF, 0, 0, true, false⟩,
  ⟨.PAN_HOLD, .pan, 0x500, 1, 8, 0xFFF, 0, 0x100, false, true⟩,
  ⟨.PAN_NACK_LIMIT, .pan, 0x508, 1, 8, 0xFF, 0, 0x8, false, true⟩,
  ⟨.PAN_NACK_CTL, .pan, 0x510, 1, 8, 0x3F0FFF, 0, 0x80020, false, true⟩,
  ⟨.PAN_COH_STATUS, .pan, 0x518, 1, 8, 0, 0, 0, true, false⟩,
  ⟨.PAN_LOST_STATUS, .pan, 0x600, 1, 8, 0, 0, 0, true, false⟩,
  ⟨.PAN_ATOM_CTL, .pan, 0x800, 1, 8, 0xFFFF0001, 0, 0x4000001, false, true⟩,
  ⟨.PAN_ATOM_FLAGS, .pan, 0x808, 1, 8, 0, 0, 0, false, false⟩,
  ⟨.PAN_ATOM_STATUS, .pan, 0x810, 1, 8, 0, 0, 0, true, false⟩,
  ⟨.PAN_ENG_CTL, .pan, 0xC00, 1, 8, 0, 0, 0, false, false⟩,
  ⟨.PAN_ENG_STATUS, .pan, 0xC08, 1, 8, 0, 0, 0, true, false⟩,
  ⟨.PAN_EVT_CUR, .pan, 0xC40, 1, 8, 0x1, 0, 0, false, true⟩,
  ⟨.PAN_ENG_CMD, .pan, 0xC80, 1, 8, 0, 0, 0, false, false⟩,
  ⟨.PAN_EVT, .pan, 0xC48, 5, 8, 0, 0, 0, true, false⟩,
  ⟨.PAN_LAT, .pan, 0xD00, 64, 8, 0, 0, 0, false, false⟩]

/-- The rows of block img. -/
def rows_img : List RegRow := [
  ⟨.IMG_STATUS, .img, 0, 1, 8, 0, 0, 0, true, false⟩,
  ⟨.IMG_CRC, .img, 0x48, 7, 8, 0xFFFFFFFF, 0, 0, true, false⟩]
/-- A register found at an offset: its row, the block and the instance whose window holds it, its index in its
array, and the offset itself. -/
structure RegRef where
  row : RegRow
  blk : RegBlk
  inst : Nat
  ix : Nat
  off : Nat
  deriving DecidableEq, Repr

/-- The block, instance and window offset of a byte offset of the register space (R491). -/
def blkOf (o : Nat) : Option (RegBlk × Nat × Nat) :=
  if o < 0x10000 then some (.dev, 0, o)
  else if o < 0x20000 then some (.mth, 0, o - 0x10000)
  else if o < 0x30000 then some (.sl, 0, o - 0x20000)
  else if o < 0x40000 then some (.err, 0, o - 0x30000)
  else if o < 0x41000 then some (.lat, 0, o - 0x40000)
  else if o < 0x41500 then some (.mbx, (o - 0x41000) / 0x100, (o - 0x41000) % 0x100)
  else if o < 0x50000 then none
  else if o < 0x60000 then some (.auth, 0, o - 0x50000)
  else if o < 0x80000 then none
  else if o < 0x100000 then some (.sm, (o - 0x80000) / 0x20000, (o - 0x80000) % 0x20000)
  else if o < 0x180000 then some (.hp, (o - 0x100000) / 0x8000, (o - 0x100000) % 0x8000)
  else if o < 0x1C0000 then some (.kl, (o - 0x180000) / 0x8000, (o - 0x180000) % 0x8000)
  else if o < 0x200000 then some (.mp, (o - 0x1C0000) / 0x8000, (o - 0x1C0000) % 0x8000)
  else if o < 0x300000 then some (.bed, (o - 0x200000) / 0x20000, (o - 0x200000) % 0x20000)
  else if o < 0x400000 then none
  else if o < 0x800000 then some (.pan, (o - 0x400000) / 0x10000, (o - 0x400000) % 0x10000)
  else if 0x1000000 ≤ o ∧ o < 0x1010000 then some (.img, 0, o - 0x1000000)
  else none

/-- The rows that a block's window holds: its own, the arbiter set in the blocks of R494, the bandwidth set in the
ports of R422. -/
def rowsOf (b : RegBlk) : List RegRow :=
  match b with
  | .dev => rows_dev ++ rows_arb
  | .mth => rows_mth
  | .sl => rows_sl
  | .err => rows_err
  | .lat => rows_lat
  | .mbx => rows_mbx
  | .auth => rows_auth
  | .sm => rows_sm
  | .hp => rows_hp ++ rows_arb ++ rows_bw
  | .kl => rows_kl ++ rows_arb ++ rows_bw
  | .mp => rows_mp ++ rows_arb ++ rows_bw
  | .bed => rows_bed ++ rows_arb
  | .pan => rows_pan ++ rows_arb
  | .img => rows_img
  | .arb => rows_arb
  | .bw => rows_bw

/-- Whether row r holds window offset w, and as which element of the array. -/
def rowIx (r : RegRow) (w : Nat) : Option Nat :=
  if w < r.off then none
  else
    let k := (w - r.off) / r.stride
    if k < r.cnt ∧ (w - r.off) % r.stride < 8 then some k else none

/-- The first row of a list that holds window offset w. -/
def findRow (l : List RegRow) (w : Nat) : Option (RegRow × Nat) :=
  match l with
  | [] => none
  | r :: t =>
    match rowIx r w with
    | some k => some (r, k)
    | none => findRow t w

/-- The registers that only some instances of a block have: SM_POL_STATUS in core 0, MBX_CMD and MBX_SUBMIT in
mailbox 0 (R468, and the register index chapter). -/
def regExists (n : RegName) (inst : Nat) : Bool :=
  match n with
  | .SM_POL_STATUS | .MBX_CMD | .MBX_SUBMIT => inst == 0
  | _ => true

/-- The register that holds byte offset o, if one is defined there (R491, R492). The offset answered is that of the
register, a multiple of 8. -/
def regAt (o : Nat) : Option RegRef :=
  match blkOf o with
  | none => none
  | some (b, i, w) =>
    match findRow (rowsOf b) w with
    | none => none
    | some (r, k) =>
      if regExists r.name i then some { row := r, blk := b, inst := i, ix := k, off := o - o % 8 } else none

/-- The groups of arbiter n of a block, and the reset value of its priority register (R196); 0 groups where the
block lacks the arbiter (R494). -/
def arbRow (b : RegBlk) (n : Nat) : Nat × Nat :=
  match b, n with
  | .bed, 0 => (4, 0x6544)
  | .pan, 0 => (4, 0x6154)
  | .pan, 1 => (3, 0x0655)
  | .pan, 2 => (4, 0x6154)
  | .pan, 3 => (3, 0x0356)
  | .pan, 4 => (1, 0)
  | .hp, 0 => (10, 0x6444444444)
  | .hp, 1 => (10, 0x6444444444)
  | .hp, 2 => (10, 0x6444444444)
  | .hp, 3 => (3, 0x0465)
  | .kl, 0 => (11, 0x64444444454)
  | .kl, 1 => (7, 0x4444444)
  | .mp, 0 => (10, 0x6244444444)
  | .dev, 0 => (7, 0x7444466)
  | _, _ => (0, 0)

/-- The stored bits of a register, the block and index taken into account (R196, R214). -/
def storeMask (r : RegRef) : Nat :=
  match r.row.name with
  | .ARB_PRIO | .ARB_PRIO_SH => 16 ^ (arbRow r.blk r.ix).1 - 1
  | .ARB_HOLD =>
    match r.blk with
    | .dev => 0x1FFFFFFFFF
    | .kl | .mp | .pan => 0x1FFFFFFFF
    | _ => 0xFFFFFFFF
  | _ => r.row.store

/-- The value of the stored bits after reset (R7, R196, R214, R385). -/
def resetOf (r : RegRef) : Nat :=
  match r.row.name with
  | .ARB_PRIO | .ARB_PRIO_SH => (arbRow r.blk r.ix).2
  | .ARB_HOLD =>
    match r.blk with
    | .dev | .kl | .mp => 0x110000100
    | _ => 0x10000100
  | .SM_CTL => if r.inst = 0 then 2 else 0
  | _ => r.row.reset

/-- The stored bits of the register at offset o after reset; 0 where none is defined. -/
def resetAt (o : Nat) : Nat :=
  match regAt o with
  | none => 0
  | some r => resetOf r

/-- The parity of a number of 64 bits: 1 when it has an odd number of ones (R464). -/
def parity64 (v : Nat) : Bool :=
  let a := v ^^^ (v >>> 32)
  let b := a ^^^ (a >>> 16)
  let c := b ^^^ (b >>> 8)
  let d := c ^^^ (c >>> 4)
  let e := d ^^^ (d >>> 2)
  (e ^^^ (e >>> 1)).testBit 0

/-- Offsets of the windows of the replicated blocks (R491). -/
def smOff (c o : Nat) : Nat := 0x80000 + c * 0x20000 + o
def hpOff (p o : Nat) : Nat := 0x100000 + p * 0x8000 + o
def klOff (l o : Nat) : Nat := 0x180000 + l * 0x8000 + o
def mpOff (m o : Nat) : Nat := 0x1C0000 + m * 0x8000 + o
def bedOff (b o : Nat) : Nat := 0x200000 + b * 0x20000 + o
def panOff (p o : Nat) : Nat := 0x400000 + p * 0x10000 + o
def mbxOff (m o : Nat) : Nat := 0x41000 + m * 0x100 + o

end Sys2Proof.Machine
end

