-- ==== Sys2Proof/Machine/State.lean ====
section
/-! DEFINITION. The state of the Fjartis 64, as plain data, and the state after reset. -/

namespace Sys2Proof.Machine

/-! ### A pan (R15, R49 to R183) -/

/-- A metadata way entry (R54). -/
structure Way where
  tag : Nat := 0
  v : Bool := false
  d : Bool := false
  /-- 0 I, 1 S, 2 M, 3 P -/
  ust : Nat := 0
  ovf : Bool := false
  pta : BitVec 12 := 0
  ptb : BitVec 12 := 0
  ptc : BitVec 12 := 0
  pcls : Nat := 0
  rage : Nat := 0
  pf : Bool := false
  hint : Nat := 0
  deriving DecidableEq, Repr

/-- One way of the metadata cache (R60): the block cached under a 10-bit tag; fill marks a way chosen for a
block whose stack read is still outstanding. -/
structure MdcWay where
  valid : Bool := false
  dirty : Bool := false
  fill : Bool := false
  tag : Nat := 0
  blk : BitVec 1024 := 0
  deriving DecidableEq, Repr

/-- One entry of the metadata write queue (R62). -/
structure MdwqEntry where
  psi : Nat
  blk : BitVec 1024
  at_ : Nat
  /-- its row has been open since it was queued, so that it is written at once (R62) -/
  due : Bool := false
  /-- the stamp of its request and its ancient bit (R184, R187) -/
  stamp : BitVec 16 := 0
  anc : Bool := false
  deriving DecidableEq, Repr

/-- One write-buffer entry (R78): resent says that its write drew an error completion once (R147). -/
structure WbEntry where
  psi : Nat
  tag : Nat
  data : BitVec 1024
  poison : Bool := false
  sent : Bool := false
  resent : Bool := false
  /-- the stamp of its request and its ancient bit (R184, R187) -/
  stamp : BitVec 16 := 0
  anc : Bool := false
  deriving DecidableEq, Repr

/-- One combining-buffer entry (R177): last is the pan cycle of its last use. -/
structure CombEntry where
  psi : Nat
  tag : Nat
  data : BitVec 1024
  last : Nat
  deriving DecidableEq, Repr

/-- One prefetch stream (R81): upto is the furthest pan set issued for the stream. -/
structure Stream where
  tag : Nat
  last : Nat
  /-- true: direction +1 -/
  up : Bool := true
  conf : Nat := 0
  upto : Option Nat := none
  deriving DecidableEq, Repr

/-- One hold window (R117): its end in pan cycles of the bed. -/
structure HoldWin where
  psi : Nat
  tag : Nat
  agent : BitVec 12
  until_ : Nat
  deriving DecidableEq, Repr


/-- What became of a snoop: it waits for the end of a hold window (R117), it has left, its owner answered without
data and the WrBackM is awaited (R131), or it is settled. -/
inductive SnpSt where
  | held | sent | waitWb | done
  deriving DecidableEq, Repr

/-- One snoop of a transaction, with its timer's start (R134). owner says that the target is the recorded M owner. -/
structure Snp where
  tgt : SnpTgt
  op : SnpOp := .inv
  owner : Bool := false
  st : SnpSt := .sent
  since : Nat := 0
  deriving DecidableEq, Repr

/-- A prefetch that waits for the pipeline's slot (R81, R196): its line, its class, its stamp and its ancient bit (R184, R187). -/
structure PfReq where
  psi : Nat
  tag : Nat
  pcls : BitVec 4
  stamp : BitVec 16
  anc : Bool := false
  deriving DecidableEq, Repr

/-- A command of PAN_ENG_CMD that waits to be performed (R372), its stamp and its ancient bit (R184, R187). -/
structure EngReq where
  word : BitVec 64
  stamp : BitVec 16
  anc : Bool := false
  deriving DecidableEq, Repr

/-- A row visit of the rake that waits for a channel's command slot: its stamp and its ancient bit (R184, R187). -/
structure RowReq where
  stamp : BitVec 16
  anc : Bool := false
  deriving DecidableEq, Repr

/-- Why a tracker entry exists: a request, a prefetch (R81), a line poisoned by a failed posted write (R148), a line
of an engine command (R76, R86, R141, R145, R225). -/
inductive TKind where
  | req | prefetch | fault | sweep | clear | rakeUe | flush | clean
  deriving DecidableEq, Repr

/-- Where a tracker entry stands: in a wait chain, waiting for a metadata-cache way (R61, R62), waiting for the
metadata block from the stack, waiting with its metadata looked up for the last cell of its request (R212), running, or kept only
for detached invalidations (R103). -/
inductive TPhase where
  | chained | mdWait | mdRead | cut | run | detached
  deriving DecidableEq, Repr

/-- The snoops of one line (R107 to R116): those sent or to be sent, a group invalidation still to be handed to the
engine (with its EXCL) or in its hands, the owner's data with its poison mark (R113), the agent and tag of an absorbed
WrBackM (R130), and whether the owner's data was lost (R131, R135, R139). -/
structure Inv where
  snps : List Snp := []
  grp : Option (BitVec 12) := none
  eng : Bool := false
  own : Option (BitVec 1024 × Bool) := none
  absorbed : Option (BitVec 12 × BitVec 10) := none
  lost : Bool := false
  deriving DecidableEq, Repr

/-- The victim of an allocation or of a sweep (R74, R76, R116): the displaced way, its invalidation and its data. -/
structure Victim where
  way : Nat
  ent : Way
  inv : Inv := {}
  data : Option (BitVec 1024) := none
  poison : Bool := false
  /-- a stack read of the victim's data is outstanding -/
  reading : Bool := false
  /-- the victim's way is free -/
  gone : Bool := false
  deriving DecidableEq, Repr

/-- A block read from the stack that is on its way to the pan (R222). -/
inductive SRead where
  | md | line (way : Nat) | victim (way : Nat)
  deriving DecidableEq, Repr

/-- A tracker entry (R15, R97): the transaction, its place and what it still waits for. -/
structure Trk where
  id : Nat
  kind : TKind := .req
  rq : Req := {}
  /-- the source port, numbered as in R203 -/
  src : Nat := 0
  rsv : Bool := false
  psi : Nat
  tag : Nat
  ph : TPhase := .chained
  /-- losses in the wait chain (R193) -/
  losses : Nat := 0
  /-- order of admission, which keeps R152 within an agent and OCL -/
  ord : Nat := 0
  /-- the way that holds the line or was chosen for it -/
  way : Option Nat := none
  /-- the entry of the line as the transaction found it; none when absent -/
  ent : Option Way := none
  /-- the transaction has chosen a way for a new entry (R73) -/
  alloc : Bool := false
  /-- the allocation waits (R73) -/
  allocWait : Bool := false
  bypass : Bool := false
  vict : Option Victim := none
  inv : Inv := {}
  /-- the line becomes P (R114) -/
  pois : Bool := false
  /-- the old data of the line, once read -/
  old : Option (BitVec 1024) := none
  /-- the old data is newer than backing memory (R77) -/
  oldDirty : Bool := false
  reads : List SRead := []
  /-- a read of backing memory is outstanding -/
  mem : Bool := false
  /-- the operation is at the atomic stage of a memory port (R175) -/
  atom : Bool := false
  /-- the completion of a write-buffer entry is awaited (R175) -/
  wbWait : Bool := false
  /-- the line to be written, once computed -/
  result : Option (BitVec 1024) := none
  /-- the DATA of an atomic's response -/
  resp : BitVec 1024 := 0
  /-- the data of the line has been written, or nothing is to be written -/
  written : Bool := false
  /-- the written data lies in the way, with D as given; none: it lies elsewhere -/
  inWay : Option Bool := none
  responded : Bool := false
  /-- the state granted (R98) -/
  grant : Option Nat := none
  /-- when the grant left (R303) -/
  grantAt : Nat := 0
  /-- the delivery mark; true: lost (R140) -/
  mark : Option Bool := none
  /-- posted-fault cause of a fault transaction (R148) -/
  cause : Nat := 0
  /-- an uncorrectable SRAM error was found in the message's data (R244) -/
  sramBad : Bool := false
  /-- the transaction waits for the write buffer (R29) -/
  wbFull : Bool := false
  /-- that wait has been counted: the fill's data was there (R29) -/
  wbCnt : Bool := false
  /-- a wait for a pinned metadata-cache set has been counted (R61) -/
  pinWait : Bool := false
  /-- backing-memory data that came before the set's metadata: the line, its poison mark and its port (R65) -/
  spec : Option (BitVec 1024 × Bool × Nat) := none
  /-- a stack block of the line was uncorrectable: its sharers go first, and nothing detaches (R224) -/
  ueLine : Bool := false
  /-- a WrBackM of the new owner, received before the mark of its grant: data, poison, tag (R130, R100) -/
  back : Option (BitVec 1024 × Bool × BitVec 10) := none
  /-- admitted under cut-through: the request's last cell has not been read, and nothing is applied (R212) -/
  cut : Bool := false
  /-- its lookup followed a metadata-cache miss, while the application waits for the request's last cell -/
  cutMiss : Bool := false
  deriving DecidableEq, Repr

/-- An event for the pan engine (R368, R369) with its saved cursor (R371). -/
structure EngEvent where
  typ : Nat
  trk : Nat := 0x3FF
  psi : Nat := 0
  tag : Nat := 0
  way : Nat := 0
  agent : BitVec 12 := 0
  addr : BitVec 52 := 0
  g : BitVec 64 := 0
  pta : BitVec 12 := 0
  ptb : BitVec 12 := 0
  ptc : BitVec 12 := 0
  victim : Bool := false
  time : Nat := 0
  cursor : BitVec 64 := 0
  deriving DecidableEq, Repr

/-- A pan: its stack channel's cells, metadata cache, predictor, write buffer, tracker, tables and engine queues. -/
structure Pan where
  /-- stored blocks, keyed by (row · 16 + bank) · 256 + block; unlisted blocks are zero (R59) -/
  cells : Sparse (BitVec 1152) := []
  /-- blocks of the checker test row, keyed by block; none is an undefined block (R243) -/
  testRow : Sparse (Option (BitVec 1152)) := []
  /-- metadata cache, keyed by set · 8 + way -/
  mdc : Sparse MdcWay := []
  plru : Sparse Nat := []
  mdwq : List MdwqEntry := []
  /-- way predictor; unlisted entries read 15 (R63) -/
  pred : Sparse Nat := []
  wb : List WbEntry := []
  comb : List CombEntry := []
  /-- every combining-buffer entry is to be written back before another atomic is admitted (R179) -/
  combDue : Bool := false
  streams : List Stream := []
  trks : List Trk := []
  /-- next order of admission -/
  ord : Nat := 0
  holds : List HoldWin := []
  /-- snoops that timed out and whose answer may still come (R133): tracker entry and target -/
  late : List (Nat × SnpTgt) := []
  /-- agents whose gone bit is set (R138), rising -/
  gone : List Nat := []
  lost : List Nat := []
  /-- lines that become P as soon as a tracker entry is free (R244): pan set and tag -/
  poisWait : List (Nat × Nat) := []
  dataEn : Bool := false
  /-- the flush of R86 is running on this pan -/
  flushing : Bool := false
  sweepPsi : Nat := 0
  sweepBusy : Bool := false
  sweepRestart : Bool := false
  /-- pan cycle of the last SET_QUOTA and SET_CLEAN accepted (R372) -/
  lastQuota : Option Nat := none
  lastClean : Option Nat := none
  /-- gone agents whose cleanup is not complete (R141): the agent, one bit per set visited, how many those are -/
  cleanLeft : List (Nat × Nat × Nat) := []
  /-- prefetches that wait for the pipeline's slot (R81, R196) -/
  pfq : List PfReq := []
  atomFlags : Nat := 0
  mdProbe : Option Nat := none
  mdDone : Bool := false
  mdSrc : Bool := false
  mdUnavail : Bool := false
  /-- foreground and background event queues (R368) -/
  fg : List EngEvent := []
  bg : List EngEvent := []
  /-- blocks handed over by the rake that wait for room in the foreground queue: pan set and way (R225) -/
  ueWait : List (Nat × Nat) := []
  /-- commands of PAN_ENG_CMD not yet performed (R372) -/
  cmds : List EngReq := []
  /-- the head of the queue that PAN_EVT_CUR names has been selected, and not been removed since (R371) -/
  sel : Bool := false
  /-- STEP_LIMIT exceptions of the selected event (R376) -/
  slCount : Nat := 0
  /-- KICK bits whose event waits for room in the foreground queue (R389) -/
  kick : Nat := 0
  deriving DecidableEq, Repr

/-! ### A bed: brine pool, stack interface, rake, checker, power (R12, R203 to R245, R448 to R453) -/

/-- What a message in a brine queue is (R203): a request, a snoop answer, a notice to the pan, or what a memory port
returns for tracker entry trk, with data or without. -/
inductive BBody where
  | req (r : Req)
  | ans (a : Ans)
  | note (n : Notice)
  | mem (trk : Nat) (data : Bool)
  deriving DecidableEq, Repr

/-- A cell of a brine pool (R203, R204): its number, whether it came from the port's reservation (R210), and its link
word, NEXT in bits 21 to 7 and VB in bits 6 to 0. -/
structure BCell where
  no : Nat
  rsv : Bool
  link : BitVec 24 := 0
  deriving DecidableEq, Repr

/-- A message in a brine queue: its linked cells that the pan has not read, those claimed for it and not yet linked,
from the reservation and shared (R210), its arrival or local stamp (R184, R185), whether its last cell is still to come,
the tracker entry that a request has been admitted to under cut-through and CT_THRESH as it was when its first cell was linked (R207,
R215), and whether an uncorrectable SRAM
error was found in its data (R244). -/
structure BMsg where
  body : BBody
  cells : List BCell := []
  /-- its cells that the pan has read -/
  readCells : Nat := 0
  leftRsv : Nat := 0
  leftShared : Nat := 0
  stamp : BitVec 16 := 0
  partial_ : Bool := false
  taken : Option Nat := none
  ct : Nat := 0
  bad : Bool := false
  deriving DecidableEq, Repr

/-- A cell as a queue delivers it (R208): the cell with its link word, the message that its bytes belong to, and which cell of that
message it is. -/
structure Delivered where
  cell : BCell
  body : BBody
  ix : Nat
  deriving DecidableEq, Repr

/-- A brine queue (R203, R207, R208). last is the last cell delivered by it, got what the last read returned: none
stands for zeros. -/
structure BQueue where
  msgs : List BMsg := []
  underrun : Bool := false
  last : Option Delivered := none
  got : Option Delivered := none
  deriving DecidableEq, Repr

/-- A hold of a brine packer or of a Knuckle egress write path by a port requester whose message is not whole (R197,
R198): the port, numbered as in R203, the queue of the message, the arbiter cycle of the grant, and the one in which
grace began. -/
structure Grace where
  port : Nat
  queue : Nat := 0
  since : Nat
  grace : Option Nat := none
  deriving DecidableEq, Repr

/-- An arbiter (R191 to R200): its rotating pointer, the wait counters of its requesters, those before its last
grant, the requester granted last, the arbiter cycle of that grant plus one, a privileged requester's grant that has not
reached its break point with the cycle it began in, and whether that hold has been recorded. -/
structure Arb where
  ptr : Nat := 0
  waits : Sparse Nat := []
  before : Sparse Nat := []
  last : Option Nat := none
  at_ : Nat := 0
  hold : Option (Nat × Nat) := none
  warned : Bool := false
  deriving DecidableEq, Repr

/-- A message made or received on the device that is to enter a brine queue of pan `pan` as one of port's (R203,
R210). -/
structure InMsg where
  port : Nat
  pan : Nat
  vc : Nat
  body : BBody
  stamp : BitVec 16 := 0
  /-- its claim has failed once -/
  refd : Bool := false
  deriving DecidableEq, Repr

/-- One bed. -/
structure Bed where
  queues : Sparse BQueue := []
  graces : List Grace := []
  /-- the free list of the pool: cells returned, newest first, and the lowest cell never used (R209) -/
  freed : List Nat := []
  fresh : Nat := 0
  /-- the banks of the cells written last, which count as written in the present cycle (R206) -/
  wrote : List Nat := []
  /-- recent-correction filter of each channel: the last 32 corrected blocks, newest first (R226) -/
  filter : Sparse (List Nat) := []
  exhausted : Nat := 0
  /-- channels for which CHANNEL_EXHAUSTED has been raised since power-on (R229) -/
  exhRaised : Nat := 0
  /-- per channel: when STACK_CE was last written (plus one) and corrections since (R246) -/
  ceAt : Sparse Nat := []
  ceCnt : Sparse Nat := []
  /-- time of the last bucket leak (R227) -/
  leakAt : Nat := 0
  /-- the 16 ms refresh window is in force (R232) -/
  hot : Bool := false
  /-- per channel: refresh commands given, and the time of the last -/
  refs : Sparse Nat := []
  refAt : Sparse Nat := []
  rakePos : Sparse Nat := []
  /-- the start of the rake's pass; none before the rake first runs -/
  rakeT0 : Option Nat := none
  /-- per channel: the last row visit -/
  rakeLast : Sparse Nat := []
  /-- per channel: the row visit that is due and has not been performed -/
  rowReq : Sparse (Option RowReq) := []
  rakePasses : Nat := 0
  rakePend : Option Nat := none
  rakeRefused : Bool := false
  chkBusy : Bool := false
  /-- pan cycles, in twelfths (R11, R448) -/
  phase : Nat := 0
  step : Nat := 8
  volt : Nat := 780
  /-- a step change in progress: the new step, the phase, and when the phase ends (R449) -/
  chg : Option (Nat × Nat × Nat) := none
  /-- thermal cap (R450) -/
  cap : Nat := 12
  /-- readings in quarter degrees: four die sensors, three stack sensors -/
  die : List Nat := [0, 0, 0, 0]
  stk : List Nat := [0, 0, 0]
  /-- governing readings after R452 -/
  dieG : Nat := 0
  stkG : Nat := 0
  skew : Bool := false
  /-- 0 not resting, 1 entering, 2 resting, 3 exiting (R453) -/
  rest : Nat := 0
  restAt : Nat := 0
  /-- an exit is to follow the entry in progress -/
  wakeReq : Bool := false
  lastCmd : Nat := 0
  /-- no rest before this time, after WAKE -/
  noRest : Nat := 0
  /-- a DVFS_CLAMP record has been written for the request value in force -/
  clamped : Bool := false
  /-- the stack has been trained and initialised, per channel (R59) -/
  init : List Nat := []
  deriving DecidableEq, Repr

/-! ### Links and ports (R247 to R322) -/

/-- The state of a link (R259). -/
inductive LState where
  | disabled | closed | detect | align | codeword | config | active | retrain | closing | reset
  deriving DecidableEq, Repr

/-- What a sequenced group carries (R263, R273). -/
inductive GBody where
  | out (m : OutMsg)
  | kmsg (m : KMsg)
  | ctl (code : Nat) (ready : Nat)
  | credit (c : List (Nat × Nat))
  deriving DecidableEq, Repr

/-- A group of flits held for replay (R273). -/
structure Group where
  seq : Nat
  flits : Nat
  body : GBody
  deriving DecidableEq, Repr

/-- One link: training, sequence, replay and credits. -/
structure Link where
  st : LState := .disabled
  /-- when the state was entered, and when the training phase within it was -/
  since : Nat := 0
  subAt : Nat := 0
  /-- the equaliser of every lane since the last entry into DETECT: −c−1, c0 and −c1 in hundredths (R252) -/
  txEq : List (Nat × Nat × Nat) := []
  rev : Bool := false
  /-- one bit per lane: receiver inverted -/
  polinv : Nat := 0
  /-- blocks with SYNC seen in a row on every lane; TS2 blocks seen -/
  blks : Nat := 0
  ts2 : Nat := 0
  cwGood : Nat := 0
  cwBad : Nat := 0
  syncBad : Nat := 0
  /-- a training failure has been recorded at this time (plus one) (R259) -/
  failAt : Nat := 0
  /-- the 100 ms pause of a CONFIG mismatch runs until this time -/
  pause : Option Nat := none
  cfgSeen : Bool := false
  txNext : Nat := 0
  txAck : Nat := 0xFFF
  rxExpect : Nat := 0
  replay : List Group := []
  /-- RSEQ asked for, REPLAY_REQs sent for it, and when the last was sent (R275) -/
  asking : Option (Nat × Nat × Nat) := none
  /-- units the device may still send, by channel -/
  credTx : Sparse Nat := []
  /-- units the peer advertised, by channel -/
  credAdv : Sparse Nat := []
  /-- units the peer may still send, by channel -/
  credRx : Sparse Nat := []
  /-- units to return with the next sequenced header, by channel -/
  credDue : Sparse Nat := []
  closeReqSent : Bool := false
  closeReqSeen : Bool := false
  closeReadySent : Bool := false
  closeReadySeen : Bool := false
  closeDoneSent : Bool := false
  closeAt : Nat := 0
  /-- DETECT is entered at this time after a reset; electrical idle at this time after a close -/
  detectAt : Option Nat := none
  idleAt : Option Nat := none
  /-- sequenced control flits that wait for room in the replay buffer, by code (R273) -/
  ctlQ : List Nat := []
  /-- channels whose next message waits for credit, one bit each (R286) -/
  stalled : Nat := 0
  /-- the receive side is aligned (R259) -/
  aligned : Bool := false
  /-- PORT_RESET flits and REPLAY_REQ flits still to be sent (R275, R280) -/
  rstLeft : Nat := 0
  rrqLeft : Nat := 0
  /-- sequence number of the next flit of the replay buffer to go on the lanes -/
  txPos : Nat := 0
  /-- where a replay asked for in the middle of a group goes on after it (R275) -/
  txBack : Option Nat := none
  /-- lane blocks and codewords sent since the lanes left electrical idle, the TSID of the lane block in progress, and the bits of
  the block or codeword in progress already sent on each lane -/
  tsSent : Nat := 0
  cwSent : Nat := 0
  tsid : Nat := 1
  txBits : Nat := 0
  /-- the scrambler's last 58 output bits before the codeword in progress (R255) -/
  scr : BitVec 58 := 0
  /-- the flits of the codeword in progress (R254) -/
  wire : List (BitVec 512) := []
  deriving DecidableEq, Repr

/-- A request outstanding at the Hinge port that received it (R125, R152, R303). -/
structure Outst where
  src : BitVec 12
  tag : BitVec 10
  ocl : BitVec 4
  posted : Bool
  homeDev : Nat
  pan : Nat
  /-- forwarded towards its home -/
  fwd : Bool
  /-- the request while it is held under R152 or R301 -/
  rq : Option Req := none
  at_ : Nat
  /-- routes in force when it was forwarded (R301) -/
  link : Nat := 0
  /-- the requester has had its final response or, of a posted request, its Ack -/
  acked : Bool := false
  order : Nat
  /-- the line's system address -/
  addr : BitVec 52 := 0
  /-- units of the receive buffer that it holds, and the half it came by (R271) -/
  units : Nat := 0
  half : Bool := false
  /-- its claim of cells has failed once -/
  refd : Bool := false
  deriving DecidableEq, Repr

/-- A Fence held at a port (R125). -/
structure FenceH where
  src : BitVec 12
  tag : BitVec 10
  order : Nat
  deriving DecidableEq, Repr

/-- A message in a Hinge egress queue: its source, a pan, 64 + link of a Knuckle link or 72 for the port itself (R196), and
its stamp (R185). -/
structure HEgress where
  msg : OutMsg
  src : Nat := 72
  stamp : BitVec 16 := 0
  deriving DecidableEq, Repr

/-- A snoop answer in a Hinge port's receive buffer: the units it holds, its half and its stamp (R210, R271). -/
structure RxAns where
  ans : Ans
  units : Nat := 0
  half : Bool := false
  stamp : BitVec 16 := 0
  /-- its claim has failed once -/
  refd : Bool := false
  deriving DecidableEq, Repr

/-- A Hinge port. -/
structure Hinge where
  /-- MODE adopted at the last port reset or entry into TRAIN (R285) -/
  mode : Nat := 0
  link0 : Link := {}
  link1 : Link := {}
  resets : Nat := 0
  retrains : Nat := 0
  gone : Nat := 0
  dead : Nat := 0
  /-- devices that have not reported cleanup, per agent, with the time of the GONE notice (R141) -/
  clean : Sparse (List Nat × Nat) := []
  outst : List Outst := []
  order : Nat := 0
  fences : List FenceH := []
  /-- messages for the port's agents, not yet transmitted -/
  egress : List HEgress := []
  /-- snoop answers in the receive buffer, waiting for cells (R210) -/
  rxAns : List RxAns := []
  closing : Bool := false
  readyAgents : Nat := 0
  missAt : Nat := 0
  quarantined : Bool := false
  bwIn : Nat := 0
  bwOut : Nat := 0
  /-- the bandwidth window in progress is whole, and the boundary or moment from which it counts (R419) -/
  bwOk : Bool := true
  bwFrom : Nat := 0
  deriving DecidableEq, Repr

/-- A message in a Knuckle egress queue: the link it came by (R297), its source, a Hinge port, 16 + link, 24 + pan or
88 for the management block (R196), its stamp (R184, R185), whether its end is still to come (R197, R299), and whether it
was closed with ABORT (R198). -/
structure KEgress where
  msg : KMsg
  fromLink : Option Nat := none
  src : Nat := 88
  stamp : BitVec 16 := 0
  partial_ : Bool := false
  abort : Bool := false
  /-- while it waits for the write path: the units of its source's receive buffer that it holds, their channel, and the half of a
  Hinge port that it came by (R271, R290) -/
  units : Nat := 0
  uch : Nat := 0
  half : Bool := false
  deriving DecidableEq, Repr

/-- A message in a Knuckle link's receive buffer: its units and its stamp, and the pan and channel of the brine queue that it
is for, if it is for one (R210, R290). -/
structure RxMsg where
  msg : KMsg
  units : Nat := 0
  stamp : BitVec 16 := 0
  dst : Option (Nat × Nat) := none
  /-- its claim has failed once -/
  refd : Bool := false
  deriving DecidableEq, Repr

/-- A Knuckle link. -/
structure Knuckle where
  link : Link := {}
  boot : Bool := true
  peerDev : Nat := 0
  peerLink : Nat := 0
  resets : Nat := 0
  retrains : Nat := 0
  discard : Nat := 0
  undelAt : Nat := 0
  undelCnt : Nat := 0
  epochAt : Nat := 0
  egress : List KEgress := []
  /-- messages in the receive buffers, waiting for cells or a collector entry (R210, R290, R306) -/
  rx : List RxMsg := []
  graces : List Grace := []
  /-- messages that wait for the write path of the egress queue (R197) -/
  wait : List KEgress := []
  quarantined : Bool := false
  bwIn : Nat := 0
  bwOut : Nat := 0
  /-- the bandwidth window in progress is whole, and the boundary or moment from which it counts (R419) -/
  bwOk : Bool := true
  bwFrom : Nat := 0
  deriving DecidableEq, Repr

/-- A request outstanding at a memory port (R314, R315): which pan and tracker entry, or which write-buffer line. -/
structure MReq where
  pan : Nat
  /-- 0 read for a tracker entry, 1 write of a write-buffer entry, 2 atomic, 3 write of the dump's line tag, for which pan is 64, 5 speculative read that is not needed -/
  kind : Nat
  trk : Nat := 0
  psi : Nat := 0
  tag : Nat := 0
  half : Nat := 0
  at_ : Nat := 0
  resent : Bool := false
  /-- both of its CXL requests have been granted and sent, and the first of them has (R196, R314) -/
  sent : Bool := true
  first : Bool := false
  /-- its data is poisoned (R314) -/
  poison : Bool := false
  /-- the stamp of the request and its ancient bit (R184, R187) -/
  stamp : BitVec 16 := 0
  anc : Bool := false
  deriving DecidableEq, Repr

/-- One half of a memory port (R312, R321). -/
structure MHalf where
  link : Nat := 0
  speed : Nat := 0
  width : Nat := 0
  ready : Bool := false
  /-- where the device's memory BARs were placed, and its HDM decoder 0 as base, size, ways and granularity (R312) -/
  bars : List Nat := []
  hdm : Option (Nat × Nat × Nat × Nat) := none
  /-- the device's MSI-X is directed to it and Mem_Enable is set (R312) -/
  msi : Bool := false
  deriving DecidableEq, Repr

/-- A memory port. -/
structure MemPort where
  h0 : MHalf := {}
  h1 : MHalf := {}
  resets : Nat := 0
  reqs : List MReq := []
  ioDone : Bool := true
  ioStatus : Nat := 0
  ioAt : Nat := 0
  down : Bool := false
  quarantined : Bool := false
  bwIn : Nat := 0
  bwOut : Nat := 0
  /-- the bandwidth window in progress is whole, and the boundary or moment from which it counts (R419) -/
  bwOk : Bool := true
  bwFrom : Nat := 0
  deriving DecidableEq, Repr

/-- A group snoop in the collector (R306). -/
structure Collect where
  home : Nat
  htag : Nat
  snps : List Snp := []
  /-- one of them has expired -/
  expired : Bool := false
  deriving DecidableEq, Repr

/-- A forwarded register access outstanding at the head (R308). -/
structure MgmtOut where
  mtag : Nat
  dev : Nat
  wr : Bool
  at_ : Nat
  /-- the link it left by (R301) -/
  link : Nat := 0
  deriving DecidableEq, Repr

/-- A host access to a BAR2 window: the device, the offset, whether it is a write and 32 bits wide, and its data (R308). -/
structure HostAcc where
  dev : Nat
  off : Nat
  wr : Bool
  w32 : Bool
  v : Nat
  deriving DecidableEq, Repr

/-- Routing, collector, notices in flight, and the management block (R296 to R310). -/
structure Fabric where
  /-- the table before the last commit, while it is kept, as (destination, entry) -/
  prev : Sparse (BitVec 64) := []
  prevValid : Bool := false
  epoch : Bool := false
  commitAt : Option Nat := none
  routePend : Option Nat := none
  routeRefused : Bool := false
  coll : Sparse (Option Collect) := []
  /-- snoops of the collector that timed out and whose answer may still come: entry and agent -/
  late : List (Nat × BitVec 12) := []
  /-- per gone agent, one bit per pan whose cleanup is complete (R141) -/
  cleanDone : Sparse Nat := []
  /-- notices to ports on their way inside the device, with their stamps (R185) -/
  notes : List (Notice × BitVec 16) := []
  /-- messages that wait for cells of a brine queue (R210) -/
  inWait : List InMsg := []
  mgmt : List MgmtOut := []
  /-- host accesses that wait at the head to be forwarded (R309) -/
  hostQ : List HostAcc := []
  /-- management messages for this device, with the link they came by and their stamps (R185, R296, R441) -/
  mgmtIn : List (Nat × Mgmt × BitVec 16) := []
  /-- what the host's last forwarded access ended with: 0 none yet, 1 data, 2 Completer Abort, 3 Unsupported Request -/
  hostStat : Nat := 0
  /-- the head's device ID, once an access from it has been seen -/
  headId : Option Nat := none
  hostData : BitVec 64 := 0
  /-- of messages made on the device: when KN_UNDELIVERED was last written (plus one), discards since (R302) -/
  undelAt : Nat := 0
  undelCnt : Nat := 0
  /-- MSI-X entries issued by the head, newest first (R162) -/
  msix : List Nat := []
  deriving DecidableEq, Repr

/-! ### Engines and cores (R323 to R390) -/

/-- One hardware-loop level (R339). -/
structure LoopLvl where
  ls : BitVec 64 := 0
  le : BitVec 64 := 0
  lc : BitVec 64 := 0
  deriving DecidableEq, Repr

/-- A branch or jump whose delay slot comes next: its address, its target when it is taken, and whether it links (R336,
R337). -/
structure Slot where
  owner : BitVec 64
  target : Option (BitVec 64)
  link : Bool
  deriving DecidableEq, Repr

/-- A store in the store buffer: its address, its size in bytes and its value (R380). -/
structure SbEntry where
  addr : Nat
  size : Nat
  val : Nat
  deriving DecidableEq, Repr

/-- An entry of the code-write window: doubleword index in the program store, its value, and which of its two words are
written (R350). -/
structure CwEntry where
  dw : Nat
  val : Nat
  lo : Bool
  hi : Bool
  deriving DecidableEq, Repr

/-- A Muzia engine: a pan engine or a Saltmaster core. -/
structure Engine where
  pc : BitVec 64 := 0
  g : Sparse (BitVec 64) := []
  status : BitVec 64 := 1
  epc : BitVec 64 := 0
  ecause : BitVec 64 := 0
  eval : BitVec 64 := 0
  estatus : BitVec 64 := 1
  evec : BitVec 64 := 0
  sscr : BitVec 64 := 0
  loops : Sparse LoopLvl := []
  cursor : BitVec 64 := 0
  fcsr : BitVec 64 := 0
  imask : BitVec 64 := 0
  /-- edge-triggered pending interrupts -/
  ipend : Nat := 0
  slot : Option Slot := none
  /-- interrupts are held for the next instruction (R345, R346) -/
  hold : Bool := false
  /-- the last instruction was a STEP, whose completion is a boundary for interrupts in routine mode (R348) -/
  stepEnd : Bool := false
  waiting : Bool := false
  /-- instructions since the last step of a routine (R374) -/
  count : Nat := 0
  halted : Bool := false
  haltEpc : BitVec 64 := 0
  haltCode : Nat := 0
  /-- held in reset -/
  inReset : Bool := true
  powered : Bool := true
  /-- the code store is unwritten since BIST Id 9 (R435) -/
  noCode : Bool := false
  sram : Sparse (BitVec 64) := []
  /-- doublewords of the local memories whose check bits mark them uncorrectable, by address div 8 (R380) -/
  ue : List Nat := []
  /-- stores in the store buffer, oldest first (R380) -/
  sbuf : List SbEntry := []
  /-- code-write window, oldest first (R350) -/
  cwin : List CwEntry := []
  /-- SM_TIMER_CMP pending slot -/
  timer : Option Nat := none
  doorbell : Nat := 0
  /-- cycles counted from the start (R326) -/
  cycleBase : Nat := 0
  deriving DecidableEq, Repr

/-! ### Service region -/

/-- What a region keeps for its own copy of machine time (R399): the whole cycles of its clock since the last tick position, and in the
last 16 accepted intervals, newest first. -/
structure MtCopy where
  c : Nat := 0
  ivals : List Nat := []
  deriving DecidableEq, Repr

/-- The machine-time unit (R392 to R404). -/
structure MtUnit where
  /-- the copies of the beds and of the port ring, at their indexes 0 to 7 and 8: cycles of the region's clock since the tick position,
  and in the last 16 accepted intervals (R399) -/
  copies : List MtCopy := []
  /-- machine time at the last tick position -/
  tick : Nat := 0
  /-- whole service cycles since the position, and the fraction of one, over the number of intervals kept -/
  c : Nat := 0
  frac : Nat := 0
  /-- the last 16 accepted intervals in service cycles, newest first -/
  ivals : List Nat := []
  /-- 0 NO_TIME, 1 LOCKED, 2 FREE -/
  st : Nat := 0
  /-- ticks counted missing in a row, edges rejected in a row -/
  missing : Nat := 0
  glitches : Nat := 0
  /-- service cycles since the last edge while FREE, since the position of the last tick before the first good frame, and good edges in
  a row while FREE -/
  edgeC : Nat := 0
  goodEdges : Nat := 0
  /-- FREE was entered by MT_UNTRUSTED -/
  untrusted : Bool := false
  /-- signed offset of the last good frame -/
  offset : Int := 0
  /-- nanoseconds still to slew, signed -/
  slew : Int := 0
  jumpPend : Bool := false
  /-- the sticky bits 4 to 1 of MT_STATUS, at their places -/
  sticky : Nat := 0
  frameOk : Bool := false
  /-- FSEQ of the last good frame, and whether there has been one -/
  fseq : Nat := 0
  hadFrame : Bool := false
  badFrames : Nat := 0
  applyPend : Option Nat := none
  applyNow : Bool := false
  applyRefused : Bool := false
  /-- a tick position is now, at which a jump may be applied (R403) -/
  atPos : Bool := false
  /-- the whole milliseconds at the last TICK given to the cores (R383) -/
  coreMs : Nat := 0
  deriving DecidableEq, Repr

/-- A snapshot being transferred (R410). -/
structure Snap where
  at_ : Nat
  periodic : Bool
  timed : Bool
  dump : Bool
  late : Bool
  free : Bool
  slew : Bool
  jump : Bool
  ovf : Nat
  /-- a dump is to be written from the bank -/
  write : Bool
  deriving DecidableEq, Repr

/-- A dump in progress (R415, R416): the slot and its local address, the lines that have been put at the memory ports so far, and the
bank as it was at the flip, keyed by unit · 512 + event. -/
structure Dump where
  slot : Nat
  base : Nat
  line : Nat := 0
  data : Sparse (BitVec 64) := []
  deriving DecidableEq, Repr

/-- The harvest unit and every unit's counters (R407 to R419). -/
structure Harvest where
  /-- keyed by unit · 512 + event -/
  cnt : Sparse Nat := []
  /-- per unit: the cycles of its clock at the previous snapshot -/
  clk1 : Sparse Nat := []
  /-- the counter has wrapped since the previous snapshot -/
  wrapped : Sparse Bool := []
  bank0 : Sparse (BitVec 64) := []
  bank1 : Sparse (BitVec 64) := []
  /-- entries of the shadow banks with an uncorrectable error (R244): bank · 2^20 + unit · 512 + event -/
  inval : List Nat := []
  front : Bool := false
  seq : Nat := 0
  busy : Option Snap := none
  /-- the harvest values captured, while the transfer runs -/
  capt : Sparse (BitVec 64) := []
  skipped : Bool := false
  ovf : Bool := false
  recs : List (List (BitVec 64)) := []
  /-- the last harvest record written, for the copies of the core mailboxes (R469) -/
  newest : Option (List (BitVec 64)) := none
  snapPend : Option Nat := none
  snapNow : Bool := false
  snapRefused : Bool := false
  snapLate : Bool := false
  /-- last periodic and dump instants taken -/
  lastPer : Nat := 0
  lastDump : Nat := 0
  /-- the slot of the next dump, and the dump in progress -/
  dumpSlot : Nat := 0
  dump : Option Dump := none
  /-- BAD_BASE, 1 from reset until the first check, as R417 has it (log entry 32) -/
  badBase : Bool := true
  dumps : Nat := 0
  deriving DecidableEq, Repr

/-- Error log, posted-fault log, vectors (R149, R156 to R163). Records are four words. -/
structure ErrUnit where
  log : List (List (BitVec 64)) := []
  seq : Nat := 0
  ovf : Bool := false
  dropped : Nat := 0
  /-- records dropped since the last LOG_FULL -/
  sinceFull : Nat := 0
  /-- the last record written to the error log, for the copies of the core mailboxes (R469) -/
  newest : Option (List (BitVec 64)) := none
  /-- the last 16 fatal records, oldest first -/
  fatal : List (List (BitVec 64)) := []
  corr : Nat := 0
  vec : Nat := 0
  pf : List (List (BitVec 64)) := []
  pfSeq : Nat := 0
  pfOvf : Bool := false
  pfDropped : Nat := 0
  /-- drop mark of each local agent, as SEQ plus one (R149) -/
  marks : Sparse Nat := []
  /-- time of the last SRAM_CE record of each unit, plus one -/
  sramAt : Sparse Nat := []
  deriving DecidableEq, Repr

/-- Operating mode, straps, outputs (R424 to R441, R458). -/
inductive Mode where
  | off | ramp | blank | load | train | prove | service | drain | lean | test | recover | hold
  deriving DecidableEq, Repr

/-- The mode machine (R424 to R441, R458). -/
structure ModeUnit where
  cur : Mode := .blank
  target : Mode := .blank
  busy : Bool := false
  pend : Option Nat := none
  cmdPend : Option (Nat × Mode) := none
  /-- mode-change commands whose time has come, which wait for BIST to be done (R435), the earlier ones first -/
  cmdWait : List Mode := []
  refused : Bool := false
  /-- LEAN causes: thermal since, budget since; 1 ms hold (R431) -/
  thermal : Bool := false
  thermalAt : Nat := 0
  budget : Bool := false
  budgetAt : Nat := 0
  trainAt : Nat := 0
  /-- step 7 of R440 -/
  vrSeen : List Nat := []
  head : Bool := false
  devid : Nat := 0
  thermTrip : Bool := false
  /-- the thermal-trip path has been taken since the last device reset (R452) -/
  tripped : Bool := false
  /-- DEV_RESET_N is low and a device reset is in progress -/
  inReset : Bool := false
  /-- the rails of power-up steps 2 to 4 have left their range while PWR_GOOD was high (R506) -/
  railBad : Bool := false
  /-- PWR_GOOD has been low since the last end of RAMP (R426, R506) -/
  pwrLow : Bool := false
  bist : List Nat := []
  bistRefused : Nat := 0
  bistFail : Nat := 0
  devResetAt : Option Nat := none
  /-- the mode in force when the device reset in progress began (R426) -/
  left : Mode := .blank
  /-- the instruction loaded in the JTAG TAP (R512) -/
  tap : TapIns := .bypass
  deriving DecidableEq, Repr

/-- The Sluice governor, shed request, regulators (R442 to R452). Currents in tenths of an ampere. -/
structure Sluice where
  e : Nat := 0
  d : Nat := 0
  /-- the envelope has been set equal to the demand once after reset -/
  started : Bool := false
  fill : Nat := 0
  duty : Nat := 63
  override_ : Bool := false
  levelA : Bool := false
  levelBN : Bool := false
  /-- agreed state is asserted -/
  agreed : Bool := false
  shed : Bool := false
  shedAt : Nat := 0
  /-- the descent of a shed is not over (R443) -/
  descent : Bool := false
  disc : Bool := false
  discAt : Nat := 0
  /-- the fault has been cleared, and its effect lasts until 10 ms after it (R447) -/
  discHold : Bool := false
  disRun : Nat := 0
  disLimit : Nat := 0
  relRun : Nat := 0
  served : Nat := 7
  stepPend : Option Nat := none
  stepRefused : Bool := false
  /-- SL_BED_REQ writes held (R449), by bed -/
  held : Sparse (Option Nat) := []
  /-- per regulator address: the time of its last alert, plus one (R448) -/
  vrAt : Sparse Nat := []
  deriving DecidableEq, Repr

/-- Register-file side state: violation log, lock, parity fault, mailboxes, latches (R464 to R472). -/
structure RegUnit where
  lock : Bool := false
  viol : Bool := false
  vlogOvf : Bool := false
  vlog : List (List (BitVec 64)) := []
  vseq : Nat := 0
  mbxValid : Nat := 0
  mbxStale : Nat := 0
  mbxLost : Nat := 0
  /-- per core mailbox: the SEQ from which records are new to it (R469) -/
  mbxSeq : Sparse Nat := []
  /-- walk position of mailbox 0 in the posted-fault log or the kept fatal records -/
  walk : Nat := 0
  /-- a latch: owner code plus one, 0 free -/
  latOwn : Sparse Nat := []
  latBroken : Sparse Bool := []
  /-- policy log (R388) -/
  pol : List (List (BitVec 64)) := []
  polSeq : Nat := 0
  polOvf : Bool := false
  /-- last accepted store to each bounded register, by offset (R387), as time plus one -/
  polAt : Sparse Nat := []
  probeBusy : Bool := false
  /-- registers whose parity fault has been recorded, by offset (R465) -/
  parityBad : List Nat := []
  /-- arbiter timed commits, by block key: pending instant -/
  arbPend : Sparse (Option Nat) := []
  arbRefused : Sparse Bool := []

  deriving DecidableEq, Repr

/-- The image and the command-authentication unit (R473 to R489). -/
structure ImageUnit where
  /-- the image window's doublewords, by offset div 8 -/
  win : Sparse (BitVec 64) := []
  inForce : Bool := false
  /-- doublewords of the MAP, ROUTE and POLICY sections held for the image in force -/
  map : Sparse (BitVec 64) := []
  pol : Sparse (BitVec 64) := []
  struct_ : Sparse (BitVec 64) := []
  gen : Nat := 0
  code : Nat := 0
  sect : Nat := 0
  detail : Nat := 0
  busy : Bool := false
  /-- TOTAL as the load command gave it (R478, R485) -/
  total : Nat := 0
  /-- entry addresses of the cores and of the pan engines -/
  entries : Sparse (BitVec 64) := []
  /-- program stores by doubleword: 64 pan engines, then the shared Saltmaster store -/
  prog : Sparse (BitVec 64) := []
  keyWritten : Nat := 0
  keySet : Bool := false
  counter : Nat := 0
  lastGen : Nat := 0
  genExh : Bool := false
  cntExh : Bool := false
  result : Nat := 0
  lastOpc : Nat := 0
  authBusy : Bool := false
  /-- the command block being executed -/
  cmd : List (BitVec 64) := []
  /-- a CLEAR_POISON command waits for room in its pan's foreground queue (R368) -/
  cmdWait : Bool := false
  retireBed : Nat := 0
  retireMp : Nat := 0
  deriving DecidableEq, Repr

/-! ### The whole machine -/

/-- The state of the Fjartis 64. -/
structure State where
  /-- the commands waiting, first in first out -/
  pending : List Instr := []
  /-- the free-value counter (the model's own, log entry 3) -/
  freeIx : Nat := 0
  /-- service-region cycles since the last reset -/
  svc : Nat := 0
  regs : Sparse (BitVec 64) := []
  parity : Sparse (Option Bool) := []
  mt : MtUnit := {}
  mode : ModeUnit := {}
  err : ErrUnit := {}
  hv : Harvest := {}
  sl : Sluice := {}
  ru : RegUnit := {}
  img : ImageUnit := {}
  fab : Fabric := {}
  pans : Sparse Pan := []
  beds : Sparse Bed := []
  hinges : Sparse Hinge := []
  knuckles : Sparse Knuckle := []
  memports : Sparse MemPort := []
  engines : Sparse Engine := []
  /-- the arbiters, by register window and index, a wait chain's by its line too (R196) -/
  arbs : Sparse Arb := []
  deriving DecidableEq, Repr

/-- The machine right after reset (R7, R424, R437, R459): every field at its reset value, the queue empty, the mode BLANK. It is
the instant before the first cycle after the reset (log entry 22). -/
def State.reset : State := {}

/-- A machine that stops by itself: none is known to the specification, and no meaning raises it (log entry 2). -/
inductive Fault where
  /-- raised by nothing; the specification names no state in which the block itself stops. Safe. -/
  | stuck
  deriving DecidableEq, Repr

/-- Why a command has no meaning. -/
inductive Refusal where
  /-- a row whose meaning is not written; raised by the dispatch arm alone. Safe. -/
  | notModelled (mnemonic : String)
  deriving DecidableEq, Repr

end Sys2Proof.Machine
end

