-- ==== Sys2Proof/Machine/Ops.lean ====
section
/-! DEFINITION. Shared operations: access to the units, the register file's stored values, machine time, counters,
the error log, vectors, notices and the pushing of messages towards their destinations. -/

namespace Sys2Proof.Machine

/-! ### The units of the state -/

/-- Pan p. -/
def State.pan (s : State) (p : Nat) : Pan := sget s.pans p {}
/-- Pan p replaced. -/
def State.setPan (s : State) (p : Nat) (x : Pan) : State := { s with pans := sset s.pans p x {} }
/-- Pan p changed by f. -/
def State.updPan (s : State) (p : Nat) (f : Pan → Pan) : State := s.setPan p (f (s.pan p))
/-- Bed b. -/
def State.bed (s : State) (b : Nat) : Bed := sget s.beds b {}
/-- Bed b replaced. -/
def State.setBed (s : State) (b : Nat) (x : Bed) : State := { s with beds := sset s.beds b x {} }
/-- Bed b changed by f. -/
def State.updBed (s : State) (b : Nat) (f : Bed → Bed) : State := s.setBed b (f (s.bed b))
/-- Hinge port p. -/
def State.hinge (s : State) (p : Nat) : Hinge := sget s.hinges p {}
/-- Hinge port p replaced. -/
def State.setHinge (s : State) (p : Nat) (x : Hinge) : State := { s with hinges := sset s.hinges p x {} }
/-- Hinge port p changed by f. -/
def State.updHinge (s : State) (p : Nat) (f : Hinge → Hinge) : State := s.setHinge p (f (s.hinge p))
/-- Knuckle link l. -/
def State.kn (s : State) (l : Nat) : Knuckle := sget s.knuckles l {}
/-- Knuckle link l replaced. -/
def State.setKn (s : State) (l : Nat) (x : Knuckle) : State := { s with knuckles := sset s.knuckles l x {} }
/-- Knuckle link l changed by f. -/
def State.updKn (s : State) (l : Nat) (f : Knuckle → Knuckle) : State := s.setKn l (f (s.kn l))
/-- Memory port m. -/
def State.mp (s : State) (m : Nat) : MemPort := sget s.memports m {}
/-- Memory port m replaced. -/
def State.setMp (s : State) (m : Nat) (x : MemPort) : State := { s with memports := sset s.memports m x {} }
/-- Memory port m changed by f. -/
def State.updMp (s : State) (m : Nat) (f : MemPort → MemPort) : State := s.setMp m (f (s.mp m))
/-- Engine e: 0 to 63 the pan engines, 64 to 67 the Saltmaster cores. -/
def State.eng (s : State) (e : Nat) : Engine := sget s.engines e {}
/-- Engine e replaced. -/
def State.setEng (s : State) (e : Nat) (x : Engine) : State := { s with engines := sset s.engines e x {} }
/-- Engine e changed by f. -/
def State.updEng (s : State) (e : Nat) (f : Engine → Engine) : State := s.setEng e (f (s.eng e))

/-! ### Stored register values (R7, R464) -/

/-- The stored bits of the register at offset o. -/
def State.raw (s : State) (o : Nat) : Nat := (sget s.regs o (BitVec.ofNat 64 (resetAt o))).toNat

/-- Whether the parity bit of the register at offset o agrees with its stored bits (R464); a register that has not been written since
reset has the parity of its reset value. -/
def State.parityOk (s : State) (o : Nat) : Bool :=
  match sget s.parity o none with
  | none => true
  | some b => b == parity64 (s.raw o)

/-- The value of the register at offset o: its stored bits. Bits that fail parity are not used further; what the hardware uses in their
place is free (R465; log entry 74). -/
def State.rv (s : State) (o : Nat) : Nat := if s.parityOk o then s.raw o else (Config.badReg o (s.raw o)).toNat

/-- Field hi..lo of the register at offset o. -/
def State.rf (s : State) (o hi lo : Nat) : Nat := bitsOf (s.rv o) hi lo

/-- The register at offset o given the value v, its parity bit computed anew (R464). -/
def State.setReg (s : State) (o v : Nat) : State :=
  { s with
    regs := sset s.regs o (BitVec.ofNat 64 v) (BitVec.ofNat 64 (resetAt o))
    parity := sset s.parity o (some (parity64 (v % 2 ^ 64))) none }

/-- Field hi..lo of the register at offset o given the value x. -/
def State.setRf (s : State) (o hi lo x : Nat) : State := s.setReg o (setBits (s.rv o) hi lo x)

/-! ### Machine time (R399) -/

/-- The number of accepted intervals kept and their sum; 48 cycles before the first. While FREE no interval is added,
so that the mean stays as it was (R399, R400). -/
def MtUnit.n (m : MtUnit) : Nat × Nat :=
  if m.ivals = [] then (1, 48) else (m.ivals.length, m.ivals.foldl (· + ·) 0)

/-- Machine time: the tick's time and the interpolation on the service clock (R399). -/
def MtUnit.now (m : MtUnit) : Nat :=
  let k := m.n
  (m.tick + min 39 ((m.c * k.1 + m.frac) * 40 / k.2)) % 2 ^ 64

/-- Machine time now. -/
def State.now (s : State) : Nat := s.mt.now

/-- Nanoseconds from a to b modulo 2^64. -/
def dt (a b : Nat) : Nat := (b + (2 ^ 64 - a % 2 ^ 64)) % 2 ^ 64

/-- The instant t has been reached (R406). -/
def reached (now t : Nat) : Bool := decide (dt t now < 2 ^ 63)

/-- The instant t lies after the instant a (R405). -/
def later (a t : Nat) : Bool := dt a t != 0 && decide (dt a t < 2 ^ 63)

/-- What R405 makes of an instant. -/
inductive Sched where
  | due | pending | refused | past
  deriving DecidableEq, Repr

/-- The evaluation of an instant (R405). -/
def schedule (now at_ : Nat) : Sched :=
  let d := dt now at_
  if d = 0 then .due
  else if d ≤ 2 ^ 62 then .pending
  else if d < 2 ^ 63 then .refused
  else .past

/-- A control register's value with its two commit bits, COMMIT_NOW and COMMIT_TIMED, written as k (R202). -/
def commitBits (v k : Nat) : Nat := setBits v 1 0 k

/-- This device's ID. -/
def State.me (s : State) : Nat := s.mode.devid

/-- Pan cycles of bed b since power-on (R5). -/
def State.panCycles (s : State) (b : Nat) : Nat := (s.bed b).phase / 12

/-- Cycles of the clock of region r, a bed's or at 8 the port ring's (R11, R399). -/
def State.regionCycles (s : State) (r : Nat) : Nat := if r < 8 then s.panCycles r else s.svc * 35 / 24

/-- The number of intervals that region r keeps, and the sum of their cycles; the cycles of 40 ns at its frequency before the first
(R399, R448). -/
def State.regionN (s : State) (r : Nat) : Nat × Nat :=
  let l := (s.mt.copies.getD r {}).ivals
  if l = [] then (1, if r < 8 then 4 * (12 + (s.bed r).step) else 70) else (l.length, l.foldl (· + ·) 0)

/-- Machine time as region r has it: the tick's time and the interpolation on its own clock (R399). -/
def State.nowAt (s : State) (r : Nat) : Nat :=
  let k := s.regionN r
  (s.mt.tick + min 39 ((s.mt.copies.getD r {}).c * k.1 * 40 / k.2)) % 2 ^ 64

/-- Every copy at a tick position that lies c cycles of the service clock back; with an accepted interval the cycles of each region in
it are kept (R399, R400). -/
def State.markCopies (s : State) (c : Nat) (accepted : Bool) : State :=
  { s with mt := { s.mt with copies := (List.range 9).map (fun r =>
      let x := s.mt.copies.getD r {}
      let k := s.regionN r
      { c := c * s.mt.n.1 * k.2 / (k.1 * s.mt.n.2), ivals := if accepted then (x.c :: x.ivals).take 16 else x.ivals }) } }

/-- The arrival stamp of a request received now (R184). -/
def State.stampNow (s : State) : Nat := (s.now / 64) % 65536

/-- A stamp taken now (R184, R185). -/
def State.stamp16 (s : State) : BitVec 16 := BitVec.ofNat 16 s.stampNow

/-- The age of a stamp (R186). -/
def State.age (s : State) (st : Nat) : Nat := (s.stampNow + 65536 - st % 65536) % 65536

/-- Whether a stamp is at least 1 ms old (R187). -/
def State.ancient (s : State) (st : Nat) : Bool := decide (15625 ≤ s.age st)

/-! ### Free values (log entry 3) -/

/-- A free 64-bit value; the counter advances. -/
def State.free (s : State) : BitVec 64 × State := (Config.freeWord s.freeIx, { s with freeIx := s.freeIx + 1 })

/-! ### Unit numbers (R20) -/

def uBed (b : Nat) : Nat := 0x40 + b
def uRake (b : Nat) : Nat := 0x48 + b
def uBrine (b : Nat) : Nat := 0x50 + b
def uEng (e : Nat) : Nat := if e < 64 then 0x58 + e else 0x200 + (e - 64)
def uHinge (p : Nat) : Nat := 0x100 + p
def uKn (l : Nat) : Nat := 0x110 + l
def uMp (m : Nat) : Nat := 0x118 + m
/-- The management endpoint. -/
def uEndpoint : Nat := 0x120
def uIngress : Nat := 0x121
def uEgress : Nat := 0x122
def uMt : Nat := 0x204
def uSluice : Nat := 0x205
def uHarvest : Nat := 0x206
def uAuth : Nat := 0x207
def uLatch : Nat := 0x208
def uLogs : Nat := 0x209
def uLoader : Nat := 0x20A
def uParity : Nat := 0x20B
def uMgmt : Nat := 0x20C

/-- The unit number is not a reserved value (R20). -/
def unitKnown (u : Nat) : Bool :=
  decide (u < 0x98) || (decide (0x100 ≤ u) && decide (u ≤ 0x122)) || (decide (0x200 ≤ u) && decide (u ≤ 0x20C))

/-! ### Counters (R407) -/

/-- Counter e of unit u increased by n, modulo 2^48, its wrap remembered (R407, R408). -/
def State.count (s : State) (u e : Nat) (n : Nat := 1) : State :=
  let k := u * 512 + e
  let v := sget s.hv.cnt k 0 + n
  if v < 2 ^ 48 then { s with hv := { s.hv with cnt := sset s.hv.cnt k v 0 } }
  else { s with hv := { s.hv with cnt := sset s.hv.cnt k (v % 2 ^ 48) 0, wrapped := sset s.hv.wrapped k true false } }

/-- A message of n bytes through the ingress crossbar, from a port to a brine pool or to a Knuckle egress queue (R420). -/
def State.xbarIn (s : State) (n : Nat) : State := (s.count uIngress 0x100).count uIngress 0x101 n

/-- A message of n bytes through the egress crossbar, from a pan to a port (R420). -/
def State.xbarOut (s : State) (n : Nat) : State := (s.count uEgress 0x100).count uEgress 0x101 n

/-! ### Identity and mode -/

/-- The agent ID's device, port and number (R248). -/
def agDev (a : BitVec 12) : Nat := a.toNat / 64
def agPort (a : BitVec 12) : Nat := a.toNat / 4 % 16
def agNum (a : BitVec 12) : Nat := a.toNat % 4

/-- The agent ID of agent a of port p of device d (R248). -/
def mkAgent (d p a : Nat) : BitVec 12 := BitVec.ofNat 12 (d * 64 + p * 4 + a)

/-- Agent a of port p is declared present, non-caching, with class (R249). -/
def State.agPresent (s : State) (p a : Nat) : Bool := (s.rv (hpOff p 0)).testBit (8 * a + 7)
def State.agNc (s : State) (p a : Nat) : Bool := (s.rv (hpOff p 0)).testBit (8 * a + 6)
def State.agClass (s : State) (p a : Nat) : Nat := bitsOf (s.rv (hpOff p 0)) (8 * a + 3) (8 * a)

/-- The code of a mode (R424). -/
def Mode.code (m : Mode) : Nat :=
  match m with
  | .off => 0 | .ramp => 1 | .blank => 2 | .load => 3 | .train => 4 | .prove => 5
  | .service => 6 | .drain => 7 | .lean => 8 | .test => 9 | .recover => 10 | .hold => 11

/-- A fatal record has applied the traffic rules of HOLD (R429). -/
def State.holding (s : State) : Bool := s.mode.cur == .hold || (s.mode.busy && s.mode.target == .hold)

/-- The register space is powered (R425): from BLANK onward. -/
def State.alive (s : State) : Bool := !(s.mode.cur == .off || s.mode.cur == .ramp) && !s.mode.inReset

/-- A shed or a discrepancy is in force (R443). -/
def State.shedding (s : State) : Bool := s.sl.shed || s.sl.disc || s.sl.discHold

/-- A LEAN cause is in force (R431). -/
def State.leanCause (s : State) : Bool := s.shedding || s.mode.thermal || s.mode.budget

end Sys2Proof.Machine
end

