-- ==== Sys2Proof/Machine/Arbiter.lean ====
section
/-! DEFINITION. The arbiters (R191 to R197, R214): the ranking of requesters, rotating pointers, wait counters, parked
grants and early hints. -/

namespace Sys2Proof.Machine

/-- A list without the repeats of an element. -/
def distinct (l : List Nat) : List Nat := l.foldl (fun acc x => if acc.contains x then acc else acc ++ [x]) []

/-! ### The arbiters of the device (R196) -/

/-- An arbiter: the register window and the unit of its block, its index n and, of a wait chain, one more than its line. -/
structure ArbId where
  base : Nat
  unit : Nat
  index : Nat
  line : Nat := 0
  deriving DecidableEq, Repr

/-- The brine packers of bed b. -/
def bedArb (b : Nat) : ArbId := { base := bedOff b 0, unit := uBed b, index := 0 }
/-- Arbiter n of pan p: 0 admission, 1 answers, 3 the stack channel's command slot, 4 atomic issue. -/
def panArb (p n : Nat) : ArbId := { base := panOff p 0, unit := p, index := n }
/-- The wait chain of a line of pan p. -/
def chainArb (p psi tag : Nat) : ArbId := { base := panOff p 0, unit := p, index := 2, line := psi * 2048 + tag + 1 }
/-- Arbiter n of Hinge port p: 0 to 2 the message slots of the snoop, response and data channels, 3 the flit slot. -/
def hpArb (p n : Nat) : ArbId := { base := hpOff p 0, unit := uHinge p, index := n }
/-- Arbiter n of Knuckle link l: 0 the write path into its egress queue, 1 the flit slot. -/
def klArb (l n : Nat) : ArbId := { base := klOff l 0, unit := uKn l, index := n }
/-- The next request of memory port m. -/
def mpArb (m : Nat) : ArbId := { base := mpOff m 0, unit := uMp m, index := 0 }
/-- The register bus. -/
def devArb : ArbId := { base := 0, unit := uMgmt, index := 0 }

/-- An arbiter's key in the state. -/
def ArbId.key (a : ArbId) : Nat := a.line * 2 ^ 32 + a.base + a.index

/-- The arbiter a. -/
def State.arb (s : State) (a : ArbId) : Arb := sget s.arbs a.key {}
/-- The arbiter a replaced. -/
def State.setArb (s : State) (a : ArbId) (x : Arb) : State := { s with arbs := sset s.arbs a.key x {} }

/-- The cycles of an arbiter's clock, which is its block's: the bed's clock for pans and beds, the 1.2 GHz service clock for the
register bus, 1.0 GHz for the memory ports, the 1.75 GHz port clock for the Hinge ports and Knuckle links (R5, R11, R194). -/
def State.arbCycle (s : State) (a : ArbId) : Nat :=
  if a.unit < 0x40 then s.panCycles (a.unit / 8)
  else if a.unit < 0x48 then s.panCycles (a.unit - 0x40)
  else if a.unit = uMgmt then s.svc
  else if 0x118 ≤ a.unit ∧ a.unit < 0x120 then s.now
  else 7 * s.now / 4

/-! ### Ranking (R191) -/

/-- A requester of an arbiter: what it stands for, its number and group (R192), its ancient bit, its stamp, its wait
counter, and whether it is a reserved waiter of a wait chain (R122). -/
structure Asker where
  id : Nat
  num : Nat
  group : Nat
  anc : Bool := false
  stamp : BitVec 16 := 0
  waits : Nat := 0
  rsv : Bool := false
  deriving DecidableEq, Repr

/-- Requester num of arbiter a with its wait counter (R193). -/
def State.asker (s : State) (a : ArbId) (num group : Nat) (anc : Bool) (stamp : BitVec 16) : Asker :=
  { id := num, num := num, group := group, anc := anc, stamp := stamp, waits := sget (s.arb a).waits num 0 }

/-- LIMIT of the block's WAIT_LIMIT register (R193, R214). -/
def State.arbLimit (s : State) (a : ArbId) : Nat := max 1 (s.rf (a.base + 0x900) 9 0)

/-- The active priority class of group g (R191, R214). -/
def State.arbPrio (s : State) (a : ArbId) (g : Nat) : Nat := bitsOf (s.rv (a.base + 0x980 + 8 * a.index)) (4 * g + 3) (4 * g)

/-- A requester is ancient: its bit is set, or its age sets it now (R187). -/
def State.askAnc (s : State) (x : Asker) : Bool := x.anc || s.ancient x.stamp.toNat

/-- A requester has been forced by its losses (R193). -/
def State.forced (s : State) (a : ArbId) (x : Asker) : Bool := !x.rsv && decide (s.arbLimit a ≤ x.waits)

/-- The ranking keys but for the pointer (R191, R122). -/
def State.rankKeys (s : State) (a : ArbId) (x : Asker) : List Nat :=
  let anc := s.askAnc x
  let age := if anc then 0 else s.age x.stamp.toNat
  if x.rsv then [1, 0, 0, b2n anc, age] else [0, b2n (s.forced a x), s.arbPrio a x.group, b2n anc, age]

/-- Whether a list of keys ranks above another. -/
def keysAbove (a b : List Nat) : Bool :=
  match a, b with
  | x :: t, y :: u => if x = y then keysAbove t u else decide (y < x)
  | _, _ => false

/-- The distance of a requester from the rotating pointer in cyclic order; no arbiter has more than 1,024 requesters. -/
def cyc (ptr n : Nat) : Nat := (n + 1024 - ptr % 1024) % 1024

/-- The better of two requesters: the higher keys, then the first at or after the pointer; the first named of two with one
number. -/
def State.better (s : State) (a : ArbId) (ptr : Nat) (x y : Asker) : Asker :=
  let kx := s.rankKeys a x
  let ky := s.rankKeys a y
  if keysAbove ky kx then y
  else if keysAbove kx ky then x
  else if cyc ptr y.num < cyc ptr x.num then y else x

/-- The requester that ranks highest (R191). -/
def State.best (s : State) (a : ArbId) (ptr : Nat) (l : List Asker) : Option Asker :=
  l.foldl (fun acc x => match acc with
    | none => some x
    | some w => some (s.better a ptr w x)) none

/-- The requester that arbiter a grants among l: while a privileged requester holds the resource, no other (R197, R200). -/
def State.winner (s : State) (a : ArbId) (l : List Asker) : Option Asker :=
  match (s.arb a).hold with
  | some (n, _) => l.find? (fun x => x.num == n)
  | none => s.best a (s.arb a).ptr l

/-- A privileged requester other than num holds the resource of arbiter a (R200). -/
def State.heldFrom (s : State) (a : ArbId) (num : Nat) : Bool :=
  match (s.arb a).hold with | some (n, _) => n != num | none => false

/-! ### Grants (R192 to R195) -/

/-- The grant is parked: the last winner asks alone, and nobody was granted in the cycle before (R194). -/
def State.parked (s : State) (a : ArbId) (now : Nat) (l : List Asker) (w : Asker) : Bool :=
  let r := s.arb a
  (s.rv (a.base + 0x910)).testBit 6 && l.length == 1 && r.last == some w.num && decide (r.at_ < now)

/-- The requester that the early hint named: the choice among the requests of the cycle before, with the wait counters of
that cycle and without the requester granted in it (R195). The requests that stand at a grant are taken to have stood in the
cycle before it (log entry 42). -/
def State.hinted (s : State) (a : ArbId) (now : Nat) (l : List Asker) : Option Asker :=
  let r := s.arb a
  if !(s.rv (a.base + 0x910)).testBit 7 then none
  else if r.at_ = now then
    s.best a r.ptr ((l.filter (fun x => r.last != some x.num)).map (fun x =>
      if a.line = 0 then { x with waits := sget r.before x.num 0 } else x))
  else s.best a r.ptr l

/-- What a grant to w among l leaves in the arbiter and in its counters (R192 to R195, R420): the wait counters of a wait chain
are its waiters' own. A grant in the cycle of another counts as one in the next. -/
def State.award (s : State) (a : ArbId) (l : List Asker) (w : Asker) : State :=
  let r := s.arb a
  let now := max (s.arbCycle a) r.at_
  let tied := (l.filter (fun x => s.rankKeys a x == s.rankKeys a w)).length
  let park := s.parked a now l w
  let hint := if park then none else s.hinted a now l
  let lose := l.filter (fun x => x.id != w.id)
  let waits := if a.line = 0 then lose.foldl (fun m x => supd m x.num 0 (· + 1)) (sset r.waits w.num 0 0) else []
  let r' : Arb := { r with
    ptr := if 1 < tied then (w.num + 1) % 1024 else r.ptr, waits := waits, before := r.waits, last := some w.num
    at_ := now + 1, hold := none, warned := false }
  let ev := 0x040 + 8 * a.index
  let s1 := (((s.setArb a r').count a.unit ev).count a.unit (ev + 1) lose.length).count a.unit (ev + 2) (b2n (s.forced a w))
  let s2 := (s1.count a.unit (ev + 3) (if 1 < tied then 1 else 0)).count a.unit (ev + 4) (b2n park)
  match hint with
  | none => s2
  | some h => s2.count a.unit (if h.id = w.id then ev + 5 else ev + 6)

/-- The slot of arbiter a granted to requester n among l, if it ranks highest (R191). -/
def State.slot (s : State) (a : ArbId) (l : List Asker) (n : Nat) : Option State :=
  match s.winner a l with
  | some w => if w.num = n then some (s.award a l w) else none
  | none => none

/-- A grant to a requester that asks alone. -/
def State.grant1 (s : State) (a : ArbId) (num group : Nat) (stamp : BitVec 16 := 0) : State :=
  let x := s.asker a num group false stamp
  s.award a [x] x

/-- The two grants of a line's two requests at a memory port (R314). -/
def State.grant2 (s : State) (a : ArbId) (num group : Nat) (stamp : BitVec 16 := 0) : State :=
  (s.grant1 a num group stamp).grant1 a num group stamp

/-! ### Windows of doublewords, and the units that BIST owns (R425, R434, R473) -/

/-- A doubleword of a window: of the image window, of the program stores, or of a harvest shadow bank with its event
(R408, R473, R489). -/
inductive WinRef where
  | image (k : Nat)
  | prog (k : Nat)
  | bank (b : Bool) (key : Nat)
  deriving DecidableEq, Repr

/-- The window and doubleword that hold a byte offset of the register space. -/
def winAt (o : Nat) : Option WinRef :=
  if 0x1080000 ≤ o ∧ o < 0x1880000 then some (.image ((o - 0x1080000) / 8))
  else if 0x1900000 ≤ o ∧ o < 0x1A80000 then some (.prog ((o - 0x1900000) / 8))
  else if 0x2000000 ≤ o ∧ o < 0x4000000 then
    let a := o % 0x1000000
    some (.bank (decide (0x3000000 ≤ o)) (a / 0x1000 * 512 + a % 0x1000 / 8))
  else none

/-- Whether a group of SRAMs has its structures in a unit whose registers hold byte offset o. -/
def bistUnit (id o : Nat) : Bool :=
  match blkOf o with
  | some (.pan, _, w) => id == 1 || id == 2 || id == 3 || id == 4 || id == 7 || id == 8 || (id == 9 && decide (0xC00 ≤ w) && decide (w < 0xD00))
  | some (.bed, _, w) => (id == 5 || id == 6) && decide (0xA00 ≤ w) && decide (w < 0xB00)
  | some (.sm, _, _) => id == 9
  | some (.mth, _, w) => id == 10 && decide (0x100 ≤ w)
  | some (.hp, _, _) | some (.kl, _, _) | some (.mp, _, _) => id == 11
  | _ =>
    match winAt o with
    | some (.prog _) => id == 9
    | some (.bank _ _) => id == 10
    | some (.image _) => id == 11
    | none => false

/-- An access to byte offset o is admitted: the mode admits register accesses and no running BIST group owns the unit
(R425). -/
def State.regOpen (s : State) (o : Nat) : Bool := s.alive && !s.mode.bist.any (fun id => bistUnit id o)

/-! ### The register bus (R21, R196, R461) -/

/-- The requester of the register bus that a writer code is (R196, R461); pan engines reach their own windows beside it. -/
def busNum (w : Nat) : Option Nat := if w ≤ 1 then some w else if 4 ≤ w ∧ w ≤ 7 then some (w - 2) else none

/-- An access by w counted by the management block and granted the register bus (R196, R420): one command is one access that the bus
has granted, so it asks alone, and a hold of the bus by another requester has ended before it (log entry 186). -/
def State.busAccess (s : State) (w : Nat) : State :=
  let s1 := s.count uMgmt 0x100
  match busNum w with
  | some n => s1.grant1 devArb n n s1.stamp16
  | none => s1

/-- The writer or reader w can reach the register space: the management endpoint is enabled on a head alone (R21). -/
def State.reaches (s : State) (w : Nat) : Bool := w != 0 || s.mode.head

/-- The code under which the host writes a register by a command that names no writer: by its own path to a head, else through the
Knuckle management channel (R308, R461; log entry 47). -/
def State.hostCode (s : State) : Nat := if s.mode.head then 0 else 1

/-- A Completer Abort on the host path. -/
def State.hostAbort (s : State) : State := ({ s with fab := { s.fab with hostStat := 2 } }).count uEndpoint 0x102

/-- A register at byte offset o written, with the effect f, by a command that names no writer: the access is granted the bus; one to a
unit that a running BIST group owns is refused (R425). -/
def State.byHost (s : State) (o : Nat) (f : State → State) : State :=
  if s.regOpen o then f (s.busAccess s.hostCode)
  else if s.alive && s.mode.head then s.hostAbort
  else s

end Sys2Proof.Machine
end

