-- ==== Sys2Proof/Machine/Log.lean ====
section
/-! DEFINITION. The write path into the Knuckle egress queues, vectors and their messages, and the error log (R156 to R162,
R196, R310). -/

namespace Sys2Proof.Machine

/-- The list without its first element that satisfies p, and whether there was one. -/
def dropFirst {α : Type} (p : α → Bool) (l : List α) : Bool × List α :=
  match l with
  | [] => (false, [])
  | x :: t => if p x then (true, t) else let r := dropFirst p t; (r.1, x :: r.2)

/-! ### The write path into a Knuckle egress queue (R196, R197) -/

/-- The group of a source of Knuckle egress (R196). -/
def kGroup (src : Nat) : Nat := if src < 16 then 0 else if src < 24 then 1 else if src < 88 then 2 + (src - 24) / 8 else 10

/-- Two bodies of Knuckle messages are one message: a part of it and the whole (R197). -/
def kSame (a b : KBody) : Bool :=
  match a, b with
  | .req r, .req q => r.opc == q.opc && r.src == q.src && r.tag == q.tag && r.addr == q.addr
  | .ans x, .ans y => (x.kind == .ackData) == (y.kind == .ackData) && x.src == y.src && x.htag == y.htag
  | .note m, .note n => m == n
  | .out m, .out n => m == n
  | .mgmt m, .mgmt n => m == n
  | _, _ => false

/-- The body of a Knuckle message of which a part came first: a request keeps the stamp that it took with its first bytes, and an
ancient bit that it has (R18, R187). -/
def kWhole (part body : KBody) : KBody :=
  match part, body with
  | .req r, .req q => .req { q with stamp := r.stamp, anc := r.anc || q.anc }
  | _, b => b

/-- A message written into a link's egress queue by its source; the end of a message of which a part is written completes it
(R197, R198). -/
def Knuckle.write (k : Knuckle) (e : KEgress) : Knuckle :=
  { k with
    egress :=
      match (if k.graces.any (fun g => g.port == e.src) then k.egress.find? (fun x => x.partial_ && x.src == e.src) else none) with
      | some x => k.egress.filter (fun x => !(x.partial_ && x.src == e.src)) ++
          [{ e with msg := { e.msg with body := kWhole x.msg.body e.msg.body }, stamp := x.stamp }]
      | none => k.egress ++ [e]
    graces := (dropFirst (fun g => g.port == e.src) k.graces).2 }

/-- A port that a source of Knuckle egress is, is quarantined: it is granted nothing (R196, R199). -/
def State.kQuar (s : State) (src : Nat) : Bool :=
  if src < 16 then (s.hinge src).quarantined else if src < 24 then (s.kn (src - 16)).quarantined else false

/-- The message is the one whose first part its source has written (R197). -/
def Knuckle.ends (k : Knuckle) (e : KEgress) : Bool :=
  k.egress.any (fun x => x.partial_ && x.src == e.src && kSame x.msg.body e.msg.body)

/-- A message taken by link l's write path, or waiting while another source holds it, its own port for another message among them
(R197, R199, R200). -/
def State.kwrite (s : State) (l : Nat) (e : KEgress) : State :=
  let k := s.kn l
  let own := k.ends e && k.graces.any (fun g => g.port == e.src)
  if !s.kQuar e.src && own then s.setKn l (k.write e)
  else if !s.kQuar e.src && k.graces.isEmpty && k.wait.isEmpty && !s.heldFrom (klArb l 0) e.src then
    (s.setKn l (k.write e)).grant1 (klArb l 0) e.src (kGroup e.src) e.stamp
  else s.setKn l { k with wait := k.wait ++ [e] }

/-! ### Vectors and error records (R156 to R162) -/

/-- The active route entry of device d (R320): valid, link, valid for management, management link. -/
def State.route (s : State) (d : Nat) : Nat := s.rv (0x1200 + 8 * d)

/-- A management message put into the egress queue of its link; nothing where the route has MVALID 0. Answers
whether it was put there (R296, R310). -/
def State.pushMgmt (s : State) (m : Mgmt) : Bool × State :=
  let r := s.route m.ddev.toNat
  if r.testBit 11 then
    (true, s.kwrite (bitsOf r 10 8) { msg := { kvc := 6, re := s.fab.epoch, body := .mgmt m }, stamp := s.stamp16 })
  else (false, s)

/-- The message of vector v: an MSI-X entry on the head, MVEC elsewhere (R162, R310). The head's device ID, which no
register holds, is learnt from the first MRD or MWR (DESIGN CHOICE, log entry 14). Answers whether the message
found a way out. -/
def State.vecMsg (s : State) (v : Nat) : Bool × State :=
  if s.mode.head then
    (true, ({ s with fab := { s.fab with msix := (32 * s.mode.devid + v) :: s.fab.msix } }).count 0x120 0x103)
  else
    match s.fab.headId with
    | none => (false, s)
    | some h => s.pushMgmt { opc := 3, ddev := BitVec.ofNat 6 h, sdev := BitVec.ofNat 6 s.mode.devid, mtag := BitVec.ofNat 8 v }

/-- The class vector of a record (R161): fatal 0, contained 1, deferred-poison 2. -/
def classVec (cls : Nat) : List Nat :=
  match cls with
  | 3 => [0] | 2 => [1] | 1 => [2] | _ => []

/-- The vector that the code of a record raises besides that of its class, as each chapter's code table says. -/
def codeVec (code : Nat) : List Nat :=
  if 0x0200 ≤ code ∧ code ≤ 0x02FF then [16]
  else if 0x0301 ≤ code ∧ code ≤ 0x030C then [17]
  else if 0x030D ≤ code ∧ code ≤ 0x0312 then [18]
  else if 0x0104 ≤ code ∧ code ≤ 0x0106 then [19]
  else if 0x0601 ≤ code ∧ code ≤ 0x0606 then [11]
  else if code = 0x0607 ∨ code = 0x0608 then [13]
  else if 0x0609 ≤ code ∧ code ≤ 0x060B then [12]
  else if code = 0x0701 ∨ code = 0x0702 then [14]
  else if (0x0704 ≤ code ∧ code ≤ 0x070A) ∨ code = 0x070C then [15]
  else if code = 0x0802 ∨ code = 0x0803 ∨ code = 0x0809 then [10]
  else if 0x0804 ≤ code ∧ code ≤ 0x0806 then [9]
  else if code = 0x0807 ∨ code = 0x0808 then [8]
  else if code = 0x0009 ∨ code = 0x000A ∨ code = 0x0016 then [5]
  else []

/-- An error record (R156): addr is (local, address), agent an agent ID. -/
structure ErrInfo where
  unit : Nat
  cls : Nat
  code : Nat
  addr : Option (Bool × Nat) := none
  agent : Option Nat := none
  detail : Nat := 0
  deriving DecidableEq, Repr

/-- The four words of a record (R156). -/
def ErrInfo.words (r : ErrInfo) (seq time : Nat) : List (BitVec 64) :=
  [ BitVec.ofNat 64 (r.cls * 2 ^ 60 + r.unit * 2 ^ 48 + r.code * 2 ^ 32 + seq % 2 ^ 32),
    BitVec.ofNat 64 time,
    BitVec.ofNat 64 (match r.addr with
      | none => 0
      | some (l, a) => 2 ^ 63 + b2n l * 2 ^ 62 + a % 2 ^ 52),
    BitVec.ofNat 64 (match r.agent with
      | none => r.detail % 2 ^ 51
      | some a => a * 2 ^ 52 + 2 ^ 51 + r.detail % 2 ^ 51) ]

/-- The class of a stored record. -/
def recClass (w : List (BitVec 64)) : Nat := (w.headD 0).toNat / 2 ^ 60

/-- A record placed in a log of 4,096 (R160): the log afterwards and the number of records dropped. A corrected record that any
record displaces counts as dropped, as one that a fatal record displaces does (log entry 198). -/
def placeRec (log : List (List (BitVec 64))) (cls : Nat) (w : List (BitVec 64)) : List (List (BitVec 64)) × Nat :=
  if log.length < 4096 then (log ++ [w], 0)
  else if cls = 0 then (log, 1)
  else
    let r0 := dropFirst (fun x => recClass x == 0) log
    if r0.1 then (r0.2 ++ [w], 1)
    else if cls ≠ 3 then (log, 1)
    else
      let r1 := dropFirst (fun x => recClass x == 2) log
      if r1.1 then (r1.2 ++ [w], 1)
      else
        let r2 := dropFirst (fun x => recClass x == 1) log
        if r2.1 then (r2.2 ++ [w], 1) else (log.drop 1 ++ [w], 1)

/-- Vector bits set in ERR_VEC_STATUS (R161): the state, and the vectors whose message is due. -/
def ErrUnit.setVecs (e : ErrUnit) (mask : Nat) (vs : List Nat) : ErrUnit × List Nat :=
  match vs with
  | [] => (e, [])
  | v :: t =>
    if e.vec.testBit v then e.setVecs mask t
    else
      let r := ({ e with vec := e.vec + 2 ^ v } : ErrUnit).setVecs mask t
      (r.1, if mask.testBit v then r.2 else v :: r.2)

/-- Vectors raised; a vector whose message finds no way out is counted by the egress crossbar (R302). Answers the
number of messages lost. -/
def State.raiseVecs (s : State) (vs : List Nat) : Nat × State :=
  let r := s.err.setVecs (s.rv 0x30018) vs
  r.2.foldl (fun (acc : Nat × State) v =>
    let m := acc.2.vecMsg v
    if m.1 then (acc.1, m.2) else (acc.1 + 1, m.2.count uEgress 0x102)) (0, { s with err := r.1 })

/-- An edge-triggered interrupt source of every core that is not held in reset (R383). -/
def State.coreEdge (s : State) (bit : Nat) : State :=
  [64, 65, 66, 67].foldl (fun t c =>
    if (t.eng c).inReset then t else t.updEng c (fun e => { e with ipend := e.ipend ||| bit })) s

/-- A record formed: it takes its SEQ, is placed or dropped, a fatal one is kept apart, and its vectors are raised
(R156, R160, R161). -/
def State.logCore (s : State) (i : ErrInfo) : Nat × State :=
  let e := s.err
  let w := i.words e.seq s.now
  let pl := placeRec e.log i.cls w
  let firstDrop := pl.2 ≠ 0 ∧ e.ovf = false
  let wrote := pl.1.getLast? == some w
  let corr := if i.cls = 0 then e.corr + 1 else e.corr
  let thr := max 1 (s.rf 0x30020 15 0)
  let e' : ErrUnit :=
    { e with
      log := pl.1
      newest := if wrote then some w else e.newest
      seq := (e.seq + 1) % 2 ^ 32
      ovf := e.ovf || decide (pl.2 ≠ 0)
      dropped := satAdd e.dropped pl.2 0xFFFFFFFF
      sinceFull := e.sinceFull + pl.2
      fatal := if i.cls = 3 then (e.fatal ++ [w]).drop ((e.fatal.length + 1) - 16) else e.fatal
      corr := corr }
  let vs := classVec i.cls ++ (if i.cls = 0 ∧ thr ≤ corr then [3] else []) ++ (if firstDrop then [6] else []) ++ codeVec i.code
  let s1 := ({ s with err := e' }.count i.unit 0x001).count uLogs 0x101 pl.2
  (if wrote then (s1.count uLogs 0x100).coreEdge 16 else s1).raiseVecs vs

/-- An error record formed, with the consequence of a vector message that finds no way out: at most one KN_UNDELIVERED
record per millisecond (R302). -/
def State.logRaw (s : State) (i : ErrInfo) : State :=
  let r := s.logCore i
  if r.1 ≠ 0 ∧ (r.2.fab.undelAt = 0 ∨ 1000000 ≤ dt (r.2.fab.undelAt - 1) r.2.now) then
    (({ r.2 with fab := { r.2.fab with undelAt := r.2.now + 1, undelCnt := 0 } }).logCore
      { unit := uEgress, cls := 2, code := 0x0307, detail := r.2.fab.undelCnt + r.1 }).2
  else { r.2 with fab := { r.2.fab with undelCnt := r.2.fab.undelCnt + r.1 } }

/-- Vectors raised without a record. -/
def State.raise (s : State) (vs : List Nat) : State := (s.raiseVecs vs).2

end Sys2Proof.Machine
end

