-- ==== Sys2Proof/Machine/PanBase.lean ====
section
/-! DEFINITION. A pan's storage: the metadata words, the stack's cells, the metadata cache and its write queue, the
way predictor, the write buffer and the combining buffer (R49 to R66, R78, R177). -/

namespace Sys2Proof.Machine

/-! ### Metadata words (R53 to R56) -/

/-- A way entry as a 64-bit word (R54). -/
def Way.toNat (w : Way) : Nat :=
  w.tag % 2048 * 2 ^ 53 + b2n w.v * 2 ^ 52 + b2n w.d * 2 ^ 51 + w.ust % 4 * 2 ^ 49 + b2n w.ovf * 2 ^ 48
    + w.pta.toNat * 2 ^ 36 + w.ptb.toNat * 2 ^ 24 + w.ptc.toNat * 2 ^ 12 + w.pcls % 16 * 2 ^ 8
    + w.rage % 8 * 2 ^ 5 + b2n w.pf * 2 ^ 4 + w.hint % 4 * 2 ^ 2

/-- The way entry of a 64-bit word (R54). -/
def Way.ofNat (n : Nat) : Way :=
  { tag := bitsOf n 63 53, v := n.testBit 52, d := n.testBit 51, ust := bitsOf n 50 49, ovf := n.testBit 48,
    pta := BitVec.ofNat 12 (bitsOf n 47 36), ptb := BitVec.ofNat 12 (bitsOf n 35 24), ptc := BitVec.ofNat 12 (bitsOf n 23 12),
    pcls := bitsOf n 11 8, rage := bitsOf n 7 5, pf := n.testBit 4, hint := bitsOf n 3 2 }

/-- Word w of a metadata block (R53). -/
def mdWord (b : BitVec 1024) (w : Nat) : Nat := bitsOf b.toNat (64 * w + 63) (64 * w)

/-- A metadata block with word w replaced. -/
def mdSetWord (b : BitVec 1024) (w x : Nat) : BitVec 1024 := BitVec.ofNat 1024 (setBits b.toNat (64 * w + 63) (64 * w) x)

/-- The entry of way w. -/
def mdWay (b : BitVec 1024) (w : Nat) : Way := Way.ofNat (mdWord b w)

/-- The 15 way entries of a block, with their numbers. -/
def mdWays (b : BitVec 1024) : List (Nat × Way) := (List.range 15).map (fun w => (w, mdWay b w))

/-- A way is free when V is 0 and UST is I (R55). -/
def Way.free (w : Way) : Bool := !w.v && w.ust == 0

/-- The combinations of V, D and UST that occur (R55). -/
def Way.legal (w : Way) : Bool := w.v || !w.d

/-- The quota of class c in pan p: 1 to 15 (R75). -/
def State.quota (s : State) (p c : Nat) : Nat := max 1 (bitsOf (s.rv (panOff p 0x408)) (4 * c + 3) (4 * c))

/-- PRES of a set of entries (R56, R58). -/
def presOf (ws : List (Nat × Way)) : Nat :=
  (List.range 16).foldl (fun a c => if ws.any (fun x => !x.2.free && x.2.pcls == c) then a + 2 ^ c else a) 0

/-- Non-free ways of class c. -/
def heldBy (ws : List (Nat × Way)) (c : Nat) : Nat := (ws.filter (fun x => !x.2.free && x.2.pcls == c)).length

/-- OVER of a set of entries under the quotas in force (R56, R58). -/
def State.overOf (s : State) (p : Nat) (ws : List (Nat × Way)) : Nat :=
  (List.range 16).foldl (fun a c => if s.quota p c < heldBy ws c then a + 2 ^ c else a) 0

/-- The block with its set word's PRES and OVER computed anew (R58). -/
def State.mdRecount (s : State) (p : Nat) (b : BitVec 1024) : BitVec 1024 :=
  let ws := mdWays b
  let sw := mdWord b 15
  mdSetWord b 15 (bitsOf sw 63 48 * 2 ^ 48 + presOf ws * 2 ^ 16 + s.overOf p ws)

/-- The set generation of a block (R56). -/
def mdSgen (b : BitVec 1024) : Nat := bitsOf (mdWord b 15) 63 48

/-- The block with SGEN one higher, modulo 65,536 (R57). -/
def mdBump (b : BitVec 1024) : BitVec 1024 :=
  let sw := mdWord b 15
  mdSetWord b 15 ((mdSgen b + 1) % 65536 * 2 ^ 48 + sw % 2 ^ 48)

/-! ### The stack's cells (R49 to R52) -/

/-- The bank, row and first block of a pan set (R52). -/
def setPlace (psi : Nat) : Nat × Nat × Nat :=
  let bank := (bitsOf psi 7 4) ^^^ (bitsOf psi 11 8)
  let row := bitsOf psi 19 8
  (bank, if bank = 0 ∧ row = 0 then 4096 else row, 16 * (psi % 16))

/-- The key of a block of the line map. -/
def cellKey (bank row block : Nat) : Nat := (row * 16 + bank) * 256 + block

/-- The key of slot sl of a pan set. -/
def slotKey (psi sl : Nat) : Nat :=
  let q := setPlace psi
  cellKey q.1 q.2.1 (q.2.2 + sl)

/-- The block stored at a key; zero where nothing else was written (R59). -/
def Pan.cell (x : Pan) (k : Nat) : Block := sget x.cells k 0

/-- The block at a key replaced. -/
def Pan.setCell (x : Pan) (k : Nat) (b : Block) : Pan := { x with cells := sset x.cells k b 0 }

/-- A line encoded and written into slot sl of a set. -/
def Pan.writeLine (x : Pan) (psi sl : Nat) (d : BitVec 1024) : Pan := x.setCell (slotKey psi sl) (blockEncode d)

/-- The row that a cell's key lies in has been opened by an access: every entry of the metadata write queue that is for it is due (R62). -/
def Pan.openRow (x : Pan) (k : Nat) : Pan :=
  { x with mdwq := x.mdwq.map (fun e => if slotKey e.psi 15 / 256 = k / 256 then { e with due := true } else e) }

/-- The erased layer of channel c of bed b, if any (R231). -/
def State.erased (s : State) (b c : Nat) : Option Nat :=
  let v := s.rv (bedOff b 0xB08)
  if v.testBit (8 * c + 7) then some (bitsOf v (8 * c + 4) (8 * c)) else none

/-- LAYER_CHECK of bed b (R221). -/
def State.layerCheck (s : State) (b : Nat) : Bool := (s.rv (bedOff b 0xB00)).testBit 2

/-- The decoding of the block at key k of pan p. -/
def State.decodeAt (s : State) (p k : Nat) : BlockOut :=
  blockDecode ((s.pan p).cell k) (s.erased (p / 8) (p % 8)) (s.layerCheck (p / 8))

/-! ### The metadata cache (R60 to R62) -/

/-- Way j of metadata-cache set c. -/
def Pan.mdcWay (x : Pan) (c j : Nat) : MdcWay := sget x.mdc (c * 8 + j) {}

/-- Way j of metadata-cache set c replaced. -/
def Pan.setMdcWay (x : Pan) (c j : Nat) (w : MdcWay) : Pan := { x with mdc := sset x.mdc (c * 8 + j) w {} }

/-- The metadata-cache way that holds pan set psi (R60). -/
def Pan.mdcFind (x : Pan) (psi : Nat) : Option Nat :=
  (List.range 8).find? (fun j => let w := x.mdcWay (psi % 1024) j; w.valid && w.tag == psi / 1024)

/-- The way chosen for pan set psi whose block is still on its way. -/
def Pan.mdcFilling (x : Pan) (psi : Nat) : Option Nat :=
  (List.range 8).find? (fun j => let w := x.mdcWay (psi % 1024) j; w.fill && w.tag == psi / 1024)

/-- A block is pinned while a tracker entry refers to it (R61). -/
def Pan.pinned (x : Pan) (psi : Nat) : Bool :=
  x.trks.any (fun t => t.psi == psi && t.ph != .mdWait && t.ph != .chained)

/-- Way j of set c may be replaced: it is not pinned and not chosen for a block on its way. -/
def Pan.mdcEvictable (x : Pan) (c j : Nat) : Bool :=
  let w := x.mdcWay c j
  !w.fill && !(w.valid && x.pinned (w.tag * 1024 + c))

/-- The pseudo-LRU tree after an access to way j: every node on the path points away from it (R60). Node 1 is the
root, node n has the children 2n and 2n+1; bit n-1 set names the upper half. -/
def plruTouch (t j : Nat) : Nat :=
  let b2 := j / 4
  let b1 := j / 2 % 2
  let b0 := j % 2
  let set := fun (t i v : Nat) => setBits t i i v
  set (set (set t 0 (1 - b2)) (1 + b2) (1 - b1)) (3 + 2 * b2 + b1) (1 - b0)

/-- The way that the tree names among those that may be replaced (R60). -/
def plruPick (t : Nat) (ok : Nat → Bool) : Option Nat :=
  let any := fun (l : List Nat) => l.any ok
  if !any [0, 1, 2, 3, 4, 5, 6, 7] then none
  else
    let h := if t.testBit 0 then (if any [4, 5, 6, 7] then 1 else 0) else (if any [0, 1, 2, 3] then 0 else 1)
    let n := 1 + h
    let lo := [4 * h, 4 * h + 1]
    let hi := [4 * h + 2, 4 * h + 3]
    let q := if t.testBit n then (if any hi then 1 else 0) else (if any lo then 0 else 1)
    let m := 3 + 2 * h + q
    let a := 4 * h + 2 * q
    let r := if t.testBit m then (if ok (a + 1) then 1 else 0) else (if ok a then 0 else 1)
    some (a + r)

/-- The access of way j of set c noted in the tree. -/
def Pan.mdcTouch (x : Pan) (c j : Nat) : Pan := { x with plru := supd x.plru c 0 (fun t => plruTouch t j) }

/-- The newest copy of a set's metadata held on the die: metadata cache, then metadata write queue. -/
def Pan.mdHeld (x : Pan) (psi : Nat) : Option (BitVec 1024 × Bool) :=
  match x.mdcFind psi with
  | some j => let w := x.mdcWay (psi % 1024) j; some (w.blk, w.dirty)
  | none => (x.mdwq.find? (fun e => e.psi == psi)).map (fun e => (e.blk, true))

/-- The metadata of a set for a transaction that has it in the metadata cache; zero otherwise. -/
def Pan.md (x : Pan) (psi : Nat) : BitVec 1024 :=
  match x.mdcFind psi with
  | some j => (x.mdcWay (psi % 1024) j).blk
  | none => 0

/-- The entries of a set changed by f in the metadata cache: PRES and OVER are computed anew and the block is dirty
(R58, R61). -/
def State.mdChange (s : State) (p psi : Nat) (f : BitVec 1024 → BitVec 1024) : State :=
  let x := s.pan p
  match x.mdcFind psi with
  | none => s
  | some j =>
    let w := x.mdcWay (psi % 1024) j
    s.setPan p (x.setMdcWay (psi % 1024) j { w with blk := s.mdRecount p (f w.blk), dirty := true })

/-- The entry of one way written. -/
def State.putWay (s : State) (p psi w : Nat) (e : Way) : State := s.mdChange p psi (fun b => mdSetWord b w e.toNat)

/-! ### The way predictor (R63) -/

/-- The predictor's index of a line. -/
def predIx (psi tag : Nat) : Nat := (psi % 65536) ^^^ (tag * 32 % 65536)

/-- The predicted way, 15 for absent. -/
def Pan.predict (x : Pan) (psi tag : Nat) : Nat := sget x.pred (predIx psi tag) 15

/-- The predictor's entry of a line written. -/
def Pan.setPred (x : Pan) (psi tag w : Nat) : Pan := { x with pred := sset x.pred (predIx psi tag) w 15 }

/-! ### Write buffer and combining buffer (R78, R79, R177) -/

/-- The write-buffer entry of a line. -/
def Pan.wbFind (x : Pan) (psi tag : Nat) : Option WbEntry := x.wb.find? (fun e => e.psi == psi && e.tag == tag)

/-- The write-buffer entry of a line changed. -/
def Pan.wbUpd (x : Pan) (psi tag : Nat) (f : WbEntry → WbEntry) : Pan :=
  { x with wb := x.wb.map (fun e => if e.psi == psi && e.tag == tag then f e else e) }

/-- The write-buffer entry of a line removed. -/
def Pan.wbDrop (x : Pan) (psi tag : Nat) : Pan :=
  { x with wb := x.wb.filter (fun e => !(e.psi == psi && e.tag == tag)) }

/-- A full-line write into the write buffer (R79): a HELD entry of the line takes the data and keeps its age; with a
SENT entry, or with 64 entries in use, the write cannot be made yet. stamp is the stamp of a new entry (R184). -/
def Pan.wbPut (x : Pan) (psi tag : Nat) (d : BitVec 1024) (poison : Bool) (stamp : BitVec 16) : Option Pan :=
  match x.wbFind psi tag with
  | some e => if e.sent then none else some (x.wbUpd psi tag (fun e => { e with data := d, poison := poison }))
  | none =>
    if x.wb.length < 64 then some { x with wb := x.wb ++ [{ psi := psi, tag := tag, data := d, poison := poison, stamp := stamp }] }
    else none

/-- The line's entry has been sent and awaits its completion (R78, R79). -/
def Pan.wbSent (x : Pan) (psi tag : Nat) : Bool := (x.wbFind psi tag).any (fun e => e.sent)

/-- A HELD entry of the line, if there is one, with the data of a write made elsewhere: its data is replaced and its age kept (R79; log
entry 17). -/
def Pan.wbKeep (x : Pan) (psi tag : Nat) (d : BitVec 1024) (poison : Bool) : Pan :=
  if x.wbSent psi tag then x else x.wbUpd psi tag (fun e => { e with data := d, poison := poison })

/-- The combining-buffer entry of a line. -/
def Pan.combFind (x : Pan) (psi tag : Nat) : Option CombEntry := x.comb.find? (fun e => e.psi == psi && e.tag == tag)

/-- The combining-buffer entry of a line removed. -/
def Pan.combDrop (x : Pan) (psi tag : Nat) : Pan :=
  { x with comb := x.comb.filter (fun e => !(e.psi == psi && e.tag == tag)) }

/-- The way of a set that holds a tag, in the newest copy of the metadata, with its entry. -/
def findWay (b : BitVec 1024) (tag : Nat) : Option (Nat × Way) :=
  (mdWays b).find? (fun x => !x.2.free && x.2.tag == tag)

/-- Every combining-buffer entry of pan p is due for its write-back (R179). -/
def State.combFlush (s : State) (p : Nat) : State := s.updPan p (fun x => { x with combDue := !x.comb.isEmpty })

/-! ### Occupancy -/

/-- Tracker entries in use that only reserved requests may use (R122). -/
def Pan.rsvOcc (x : Pan) : Nat := (x.trks.filter (fun t => t.rsv)).length

/-- Tracker entries in use that any request may use. -/
def Pan.freeOcc (x : Pan) : Nat := (x.trks.filter (fun t => !t.rsv)).length

/-- The lowest unused tracker number from n up to m, searched within k steps. -/
def freeId (used : List Nat) (n k : Nat) : Nat :=
  match k with
  | 0 => n
  | j + 1 => if used.contains n then freeId used (n + 1) j else n

/-- The tracker entry numbered k. -/
def Pan.trk (x : Pan) (k : Nat) : Option Trk := x.trks.find? (fun t => t.id == k)

/-- A tracker entry changed. -/
def Pan.updTrk (x : Pan) (k : Nat) (f : Trk → Trk) : Pan :=
  { x with trks := x.trks.map (fun t => if t.id == k then f t else t) }

/-- A tracker entry returned. -/
def Pan.dropTrk (x : Pan) (k : Nat) : Pan := { x with trks := x.trks.filter (fun t => t.id != k) }

/-- The tracker entry k of pan p changed. -/
def State.updTrk (s : State) (p k : Nat) (f : Trk → Trk) : State := s.updPan p (fun x => x.updTrk k f)

/-- Every tracker and write buffer is empty and no combining entry is valid (R428). -/
def State.drained (s : State) : Bool := s.pans.all (fun x => x.2.trks.isEmpty && x.2.wb.isEmpty && x.2.comb.isEmpty)

end Sys2Proof.Machine
end

