-- ==== Sys2Proof/Machine/Brine.lean ====
section
/-! DEFINITION. The brine pools: cells and their link words, claims, and the linking of messages, whole and in part (R203 to
R211, R215). -/

namespace Sys2Proof.Machine

/-! ### Sizes of messages (R267, R270, R293) -/

/-- Extension slots of a request on a Hinge link (R267). -/
def reqExt (r : Req) : Nat :=
  match r.opc.toNat with
  | 5 => 1
  | 7 | 8 => if r.atom.asz = 3 then 1 else if r.atom.aop = 9 then 2 else 1
  | _ => 0

/-- Whether a request carries two payload flits (R267). -/
def reqPayload (r : Req) : Bool :=
  match r.opc.toNat with
  | 4 | 5 | 6 => true
  | 7 | 8 => r.atom.asz == 3
  | _ => false

/-- Bytes of a request: 16 for each slot, 128 of payload (R418). -/
def reqBytes (r : Req) : Nat := 16 * (1 + reqExt r) + (if reqPayload r then 128 else 0)

/-- Cells of a message of n bytes (R210). -/
def cellsOf (n : Nat) : Nat := (n + 63) / 64

/-- Bytes of a snoop answer. -/
def ansBytes (a : Ans) : Nat := match a.kind with | .ackData => 144 | _ => 16

/-- Bytes of a message to an agent. -/
def outBytes (m : OutMsg) : Nat := match m with | .ackData .. => 144 | _ => 16

/-- The channel of a message to an agent: 1 snoop, 2 response, 3 data (R266). -/
def outChan (m : OutMsg) : Nat := match m with | .snp .. => 1 | .ackData .. => 3 | _ => 2

/-- The receiver of a message to an agent. -/
def outDst (m : OutMsg) : BitVec 12 :=
  match m with
  | .snp _ d _ _ _ => d
  | .ack d _ _ | .ackData d _ _ _ | .nack d _ _ | .poisoned d _ | .fenceDone d _ _ _ | .targetDown d _ | .targetClosing d _ => d

/-- The tag of a message to a requester. -/
def outTag (m : OutMsg) : Option (BitVec 10) :=
  match m with
  | .snp .. => none
  | .ack _ t _ | .ackData _ t _ _ | .nack _ t _ | .poisoned _ t | .fenceDone _ t _ _ | .targetDown _ t | .targetClosing _ t => some t

/-- The state that a message grants: 1 S, 2 M (R98). -/
def outGrant (m : OutMsg) : Option Nat :=
  match m with
  | .ack _ _ g | .ackData _ _ g _ => if g = 1 then some 1 else if g = 2 then some 2 else none
  | _ => none

/-! ### Queues (R203) -/

/-- Queue q of pan p: its number within the pool (R203). -/
def brineQ (p port vc : Nat) : Nat := p % 8 * 128 + port * 4 + vc

/-- The queue numbered n of bed b. -/
def State.queue (s : State) (b n : Nat) : BQueue := sget (s.bed b).queues n {}

/-- The queue numbered n of bed b replaced. -/
def State.setQueue (s : State) (b n : Nat) (q : BQueue) : State :=
  s.updBed b (fun x => { x with queues := sset x.queues n q {} })

/-- Bytes of a message in a brine queue. -/
def bodyBytes (m : BBody) : Nat :=
  match m with
  | .req r => reqBytes r
  | .ans a => ansBytes a
  | .note _ => 16
  | .mem _ d => if d then 144 else 16

/-! ### Cells and link words (R204, R205) -/

/-- A cell's link word: NEXT in bits 21 to 7, VB in bits 6 to 0. -/
def linkWord (next vb : Nat) : BitVec 24 := BitVec.ofNat 24 (next % 32768 * 128 + vb % 128)

/-- VB of a cell. -/
def BCell.vb (c : BCell) : Nat := c.link.toNat % 128

/-- A cell whose successor in its queue is cell no. -/
def BCell.follow (c : BCell) (no : Nat) : BCell := { c with link := linkWord no c.vb }

/-- VB of the last cell of a message of n bytes: its valid bytes (R205). -/
def vbOf (n : Nat) : Nat := if n % 64 = 0 then 64 else n % 64

/-- VB of the last cell linked of a message; 0 where none is unread. -/
def BMsg.vb (m : BMsg) : Nat := match m.cells.getLast? with | some c => c.vb | none => 0

/-- The message has been closed with ABORT (R205, R211). -/
def BMsg.abort (m : BMsg) : Bool := m.vb == 0x7F

/-- A message whose last cell is ABORT, or carries a tag that is never written (R205, R211). -/
def BMsg.broken (m : BMsg) : Bool := decide (0x41 ≤ m.vb)

/-- The last element changed by f. -/
def mapLast {α : Type} (f : α → α) (l : List α) : List α :=
  match l with
  | [] => []
  | [x] => [f x]
  | x :: y :: t => x :: mapLast f (y :: t)

/-- NEXT of the tail cell of a queue set to cell no (R204, R206). -/
def pointTail (no : Nat) (l : List BMsg) : List BMsg :=
  match l with
  | [] => []
  | m :: t =>
    if t.any (fun x => !x.cells.isEmpty) then m :: pointTail no t
    else { m with cells := mapLast (fun c => c.follow no) m.cells } :: t

/-- The bank of a cell: 16 banks of 2,048 cells, the cells interleaved among them (R203; log entry 61). -/
def cellBank (c : Nat) : Nat := c % 16

/-- No packer writes the bank of cell c in this cycle (R206). -/
def Bed.bankFree (x : Bed) (c : Nat) : Bool := !x.wrote.contains (cellBank c)

/-- The cell that a packer takes from the free list (R206, R209): the one returned last whose bank no packer writes in this cycle, else
the lowest one never used; where every free cell lies in such a bank, the write comes a cycle later, with the cell returned last or
the lowest never used (log entry 61). Claims keep within the 32,768 cells of the pool (R210). -/
def Bed.newCell (x : Bed) : Nat × Bed :=
  match x.freed.find? x.bankFree with
  | some c => (c, { x with freed := x.freed.erase c, wrote := cellBank c :: x.wrote })
  | none =>
    if decide (x.fresh < 32768) && x.bankFree x.fresh then
      (x.fresh, { x with fresh := x.fresh + 1, wrote := cellBank x.fresh :: x.wrote })
    else
      match x.freed with
      | c :: t => (c, { x with freed := t, wrote := [cellBank c] })
      | [] => (x.fresh % 32768, { x with fresh := x.fresh + 1, wrote := [cellBank x.fresh] })

/-- A cell linked at the tail of queue n, in the message at its end, with the tag vb; it comes from what the message has
claimed, the reservation first (R206, R210). -/
def Bed.linkCell (x : Bed) (n vb : Nat) : Bed :=
  let a := x.newCell
  let put := fun (m : BMsg) =>
    if 0 < m.leftRsv then { m with cells := m.cells ++ [{ no := a.1, rsv := true, link := linkWord 0 vb }], leftRsv := m.leftRsv - 1 }
    else { m with cells := m.cells ++ [{ no := a.1, rsv := false, link := linkWord 0 vb }], leftShared := m.leftShared - 1 }
  { a.2 with queues := supd a.2.queues n {} (fun q => { q with msgs := mapLast put (pointTail a.1 q.msgs) }) }

/-- k whole cells linked, none of them the last of its message. -/
def Bed.linkCells (x : Bed) (n k : Nat) : Bed := (List.range k).foldl (fun x _ => x.linkCell n 0) x

/-- The cells claimed for the message at the end of queue n and not yet linked are linked, the last with the tag vb; the
message is whole. -/
def Bed.linkRest (x : Bed) (n vb : Nat) : Bed :=
  let left := match (sget x.queues n {}).msgs.getLast? with | some m => m.leftRsv + m.leftShared | none => 0
  let y := (x.linkCells n (left - 1)).linkCell n vb
  { y with queues := supd y.queues n {} (fun q => { q with msgs := mapLast (fun m => { m with partial_ := false }) q.msgs }) }

/-- The unread cells of the message at the head of queue n read, and with them the message when it is whole (R207, R209,
R210). -/
def Bed.readHead (x : Bed) (n : Nat) : Bed :=
  let q := sget x.queues n {}
  match q.msgs with
  | [] => x
  | m :: t =>
    let out := match m.cells.getLast? with
      | some c => some { cell := c, body := m.body, ix := m.readCells + m.cells.length - 1 }
      | none => q.last
    let q' : BQueue := { q with
      msgs := if m.partial_ then { m with cells := [], readCells := m.readCells + m.cells.length } :: t else t, last := out, got := out }
    { x with queues := sset x.queues n q' {}, freed := m.cells.map (·.no) ++ x.freed }

/-! ### Claims (R210, R215) -/

/-- Cells reserved per port and channel in bed b (R215). -/
def State.portRsv (s : State) (b : Nat) : Nat := min 64 (max 4 (s.rf (bedOff b 0xA00) 15 8))

/-- CT_THRESH of bed b (R207, R215). -/
def State.ctThresh (s : State) (b : Nat) : Nat := min 4 (s.rf (bedOff b 0xA00) 2 0)

/-- Cells of a message that came from the reservation, linked or still claimed. -/
def BMsg.rsv (m : BMsg) : Nat := (m.cells.filter (fun c => c.rsv)).length + m.leftRsv
/-- Shared cells of a message, linked or still claimed. -/
def BMsg.shared (m : BMsg) : Nat := (m.cells.filter (fun c => !c.rsv)).length + m.leftShared

/-- The sum of f over the messages of the queues that satisfy p. -/
def Bed.cellSum (x : Bed) (p : Nat → Bool) (f : BMsg → Nat) : Nat :=
  x.queues.foldl (fun a q => if p q.1 then q.2.msgs.foldl (fun c m => c + f m) a else a) 0

/-- Reserved cells of a port and channel in use. -/
def Bed.rsvUsed (x : Bed) (port vc : Nat) : Nat := x.cellSum (fun n => n / 4 % 32 == port && n % 4 == vc) BMsg.rsv

/-- Shared cells in use. -/
def Bed.sharedUsed (x : Bed) : Nat := x.cellSum (fun _ => true) BMsg.shared

/-- Shared cells that request messages hold. -/
def Bed.reqShared (x : Bed) : Nat := x.cellSum (fun n => n % 4 == 0) BMsg.shared

/-- All cells in use. -/
def Bed.cellsUsed (x : Bed) : Nat := x.cellSum (fun _ => true) (fun m => m.rsv + m.shared)

/-- The claim of a whole message's cells: how many come from the reservation, or none when the claim fails (R210). After PORT_RSV is
raised the cells claimed before stay claimed, and no claim goes beyond the 32,768 cells of the pool. -/
def State.claim (s : State) (b port vc cells : Nat) : Option Nat :=
  let x := s.bed b
  let rsv := s.portRsv b
  let fromRsv := min cells (rsv - x.rsvUsed port vc)
  let sh := cells - fromRsv
  let total := 32768 - 32 * 3 * rsv
  let cap := min 32768 (s.rf (bedOff b 0xA00) 31 16)
  if sh ≤ total - x.sharedUsed ∧ x.cellsUsed + cells ≤ 32768 ∧ (vc ≠ 0 ∨ sh = 0 ∨ x.reqShared + sh ≤ cap) then some fromRsv else none

/-! ### Linking messages (R197 to R199, R206) -/

/-- QUARANTINED of a port: Hinge ports 0 to 15, Knuckle links 16 to 23, memory ports 24 to 31 (R199, R203). -/
def State.isQuar (s : State) (port : Nat) : Bool :=
  if port < 16 then (s.hinge port).quarantined
  else if port < 24 then (s.kn (port - 16)).quarantined
  else (s.mp (port - 24)).quarantined

/-- The message at the end of queue n of bed b is not whole. -/
def State.partialTail (s : State) (b n : Nat) : Bool :=
  match (s.queue b n).msgs.getLast? with | some m => m.partial_ | none => false

/-- Two bodies are one message: a part of it and the whole (R197). -/
def BBody.same (a b : BBody) : Bool :=
  match a, b with
  | .req r, .req q => r.opc == q.opc && r.src == q.src && r.tag == q.tag && r.addr == q.addr
  | .ans x, .ans y => (x.kind == .ackData) == (y.kind == .ackData) && x.src == y.src && x.htag == y.htag
  | .note m, .note n => m == n
  | .mem t d, .mem u e => t == u && d == e
  | _, _ => false

/-- The body of a message of which a part came first: a request keeps the stamp that it took with its first bytes, and an ancient bit
that it has (R18, R187). -/
def BBody.whole (part body : BBody) : BBody :=
  match part, body with
  | .req r, .req q => .req { q with stamp := r.stamp, anc := r.anc || q.anc }
  | _, b => b

/-- A message is the one whose first part stands at the end of queue n of bed b: its packer is held for it alone (R197). -/
def State.finishes (s : State) (b n : Nat) (body : BBody) : Bool :=
  match (s.queue b n).msgs.getLast? with | some m => m.partial_ && m.body.same body | none => false

/-- A port may be granted a packer of bed b for a message of queue n: it is not quarantined (R199), holds no packer for another
message, and one of the 16 is free (R196, R197, R206). -/
def State.packerFree (s : State) (b n port : Nat) (body : BBody) : Bool :=
  !s.isQuar port &&
    (s.finishes b n body ||
      (!s.partialTail b n && !(s.bed b).graces.any (fun g => g.port == port) && decide ((s.bed b).graces.length < 16)))

/-- The message of a port at the end of queue n becomes whole: its body is complete and the packer is released. -/
def State.finishMsg (s : State) (b n : Nat) (body : BBody) : State :=
  let x := s.bed b
  let q := sget x.queues n {}
  let y : Bed := { x with
    queues := sset x.queues n { q with msgs := mapLast (fun m => { m with body := m.body.whole body }) q.msgs } {}
    graces := (dropFirst (fun g => g.queue == n) x.graces).2 }
  s.setBed b (y.linkRest n (vbOf (bodyBytes body)))

/-- A whole message linked at the tail of its queue, if its cells can be claimed and a packer granted; the end of a message
of which a part is linked already is added to that part (R206, R210). -/
def State.brinePut (s : State) (p port vc : Nat) (body : BBody) (stamp : BitVec 16) : Option State :=
  let b := p / 8
  let n := brineQ p port vc
  let cells := cellsOf (bodyBytes body)
  let counted := fun (s : State) (c : Nat) =>
    (s.count (uBrine b) 0x100 c).xbarIn (bodyBytes body)
  if !s.packerFree b n port body then none
  else if s.finishes b n body then some (counted (s.finishMsg b n body) 0)
  else
    match s.claim b port vc cells with
    | none => none
    | some r =>
      let q := s.queue b n
      let m : BMsg := { body := body, leftRsv := r, leftShared := cells - r, stamp := stamp, partial_ := true }
      some (counted ((s.setQueue b n { q with msgs := q.msgs ++ [m] }).finishMsg b n body) cells)

/-- The head message of queue n of bed b read; the part of it that is linked, while it is not whole. -/
def State.popQueue (s : State) (b n : Nat) : State := s.updBed b (fun x => x.readHead n)

/-! ### Partial messages (R198, R211) -/

/-- k more cells of the message at the end of queue n linked; CT_THRESH as it stands when the first cell of a message is linked applies
to it (R215). -/
def State.linkPart (s : State) (b n k : Nat) : State :=
  let mark := fun (m : BMsg) => if 0 < k ∧ m.cells.length + m.readCells = 0 then { m with ct := s.ctThresh b } else m
  s.updBed b (fun x => ({ x with queues := supd x.queues n {} (fun q => { q with msgs := mapLast mark q.msgs }) } : Bed).linkCells n k)

/-- A part of a message linked: cells of it, the claim being made for the whole (R210); none when the claim fails. -/
def State.brinePart (s : State) (p port vc cells : Nat) (body : BBody) (stamp : BitVec 16) : Option State :=
  let b := p / 8
  let n := brineQ p port vc
  let all := cellsOf (bodyBytes body)
  match s.claim b port vc all with
  | none => none
  | some r =>
    let q := s.queue b n
    let m : BMsg := { body := body, leftRsv := r, leftShared := all - r, stamp := stamp, partial_ := true }
    let t := (s.setQueue b n { q with msgs := q.msgs ++ [m] }).linkPart b n (min cells (all - 1))
    some (t.count (uBrine b) 0x100 all)

/-- The partial messages of a port in a bed closed with ABORT (R211): the cell that was being filled, or one with no data,
ends the message with VB 0x7F, and the rest of its claim returns. -/
def Bed.closePartial (x : Bed) (port : Nat) : Bed :=
  let close := fun (x : Bed) (g : Grace) =>
    let y := x.linkCell g.queue 0x7F
    { y with queues := supd y.queues g.queue {} (fun q => { q with
        msgs := mapLast (fun m => { m with partial_ := false, leftRsv := 0, leftShared := 0 }) q.msgs }) }
  (x.graces.filter (fun g => g.port == port)).foldl close { x with graces := x.graces.filter (fun g => g.port != port) }

end Sys2Proof.Machine
end

