-- ==== Sys2Proof/Machine/Map.lean ====
section
/-! DEFINITION. Where an address lies: the interleave table, the pan hash, the broadcast groups and the HDM decoders
(R32 to R45, R108, R313). -/

namespace Sys2Proof.Machine

/-! ### The interleave table (R32 to R35) -/

/-- The granule of a range entry in bytes (R34); 3 is refused at LOAD and reads as 4 KiB here. -/
def granule (g : Nat) : Nat :=
  match g with
  | 1 => 2 ^ 21
  | 2 => 2 ^ 30
  | _ => 2 ^ 12

/-- A valid range entry (R33). -/
structure Range where
  base : Nat
  limit : Nat
  gran : Nat
  ways : Nat
  lbase : Nat
  bgrp : Nat
  dlist : Nat
  deriving DecidableEq, Repr

/-- Doubleword k of the MAP section. -/
def ImageUnit.mapWord (i : ImageUnit) (k : Nat) : Nat := (sget i.map k 0).toNat

/-- Range entry n of a MAP section's words (R33); none when VALID is 0. -/
def rangeOf (w : Nat → Nat) (n : Nat) : Option Range :=
  let w0 := w (4 * n)
  if w0.testBit 0 then
    some { base := bitsOf w0 51 12, limit := bitsOf (w (4 * n + 1)) 51 12, gran := granule (bitsOf w0 11 10),
           ways := bitsOf w0 9 4 + 1, lbase := bitsOf (w (4 * n + 2)) 43 12, bgrp := bitsOf (w (4 * n + 3)) 47 40,
           dlist := bitsOf (w (4 * n + 3)) 27 16 }
  else none

/-- The valid range entries of the image in force. -/
def ImageUnit.ranges (i : ImageUnit) : List Range :=
  if i.inForce then
    i.map.filterMap (fun x => if x.1 < 2048 && x.1 % 4 == 0 then rangeOf i.mapWord (x.1 / 4) else none)
  else []

/-- Element k of the device-list pool of a MAP section's words. -/
def poolByte (w : Nat → Nat) (k : Nat) : Nat := bitsOf (w (0x800 + k / 8)) (8 * (k % 8) + 7) (8 * (k % 8))

/-- Device j of a range's list. -/
def ImageUnit.dev (i : ImageUnit) (r : Range) (j : Nat) : Nat := poolByte i.mapWord (r.dlist + j) % 64

/-- The range that holds a system address. -/
def ImageUnit.findRange (i : ImageUnit) (spa : Nat) : Option Range :=
  i.ranges.find? (fun r => decide (r.base ≤ spa / 4096) && decide (spa / 4096 ≤ r.limit))

/-- The home device and the local address of a system address within range r (R35). -/
def ImageUnit.locate (i : ImageUnit) (r : Range) (spa : Nat) : Nat × Nat :=
  let k := (spa - r.base * 4096) / r.gran
  (i.dev r (k % r.ways), r.lbase * 4096 + (k / r.ways) * r.gran + spa % r.gran)

/-- The home device, local address and range of a system address (R35); none when it lies in no valid range. -/
def State.homeOf (s : State) (spa : Nat) : Option (Nat × Nat × Range) :=
  (s.img.findRange spa).map (fun r => let l := s.img.locate r spa; (l.1, l.2, r))

/-! ### The local address and the pan hash (R43 to R45) -/

/-- The set index of a local address (R43). -/
def setIx (l : Nat) : Nat := bitsOf l 32 7

/-- The pan set of a local address (R44). -/
def psiOf (l : Nat) : Nat := bitsOf l 32 13

/-- The tag of a local address (R43). -/
def tagOf (l : Nat) : Nat := bitsOf l 43 33

/-- The part of the hash that lies in psi (R45). -/
def hashHigh (psi : Nat) : Nat :=
  (bitsOf psi 5 0) ^^^ (bitsOf psi 11 6) ^^^ (bitsOf psi 17 12) ^^^ (bitsOf psi 19 18)

/-- The home pan of a local address (R44). -/
def panOf (l : Nat) : Nat := (bitsOf l 12 7) ^^^ hashHigh (psiOf l)

/-- The local address of a line from its pan, pan set and tag (R45). -/
def localOf (p psi tag : Nat) : Nat := tag * 2 ^ 33 + psi * 2 ^ 13 + (p ^^^ hashHigh psi) * 2 ^ 7

/-- The place of a device in a range's list. -/
def ImageUnit.indexIn (i : ImageUnit) (r : Range) (d : Nat) : Option Nat :=
  (List.range r.ways).find? (fun j => i.dev r j == d)

/-- The range whose window on this device holds a local address, with the device's place in its list (R36: no two
windows of a device overlap). -/
def State.rangeOfLocal (s : State) (l : Nat) : Option (Range × Nat) :=
  s.img.ranges.findSome? (fun r =>
    match s.img.indexIn r s.me with
    | none => none
    | some j =>
      let lo := r.lbase * 4096
      let len := (r.limit + 1 - r.base) * 4096 / r.ways
      if lo ≤ l ∧ l < lo + len then some (r, j) else none)

/-- The system address of a local address of this device: R35 read backwards; 0 when no range holds it. -/
def State.spaOf (s : State) (l : Nat) : Nat :=
  match s.rangeOfLocal l with
  | none => 0
  | some (r, j) =>
    let off := l - r.lbase * 4096
    r.base * 4096 + ((off / r.gran) * r.ways + j) * r.gran + off % r.gran

/-- The system address of a line of this device. -/
def State.lineSpa (s : State) (p psi tag : Nat) : Nat := s.spaOf (localOf p psi tag)

/-- The broadcast-group bitmap of a line of this device (R108). -/
def State.groupOf (s : State) (p psi tag : Nat) : Nat :=
  match s.rangeOfLocal (localOf p psi tag) with
  | none => 0
  | some (r, _) => s.img.mapWord (0xA00 + r.bgrp)

/-! ### The HDM decoders (R313) -/

/-- Decoder k: base, size, granularity, ways and targets, when enabled. -/
structure Hdm where
  base : Nat
  size : Nat
  gran : Nat
  ways : Nat
  tgts : Nat
  deriving DecidableEq, Repr

/-- The decoder that four register values describe (R313, R320). -/
def hdmOf (b z c t : Nat) : Option Hdm :=
  if c.testBit 0 then
    some { base := b, size := z, gran := 2 ^ (8 + bitsOf c 7 4), ways := 2 ^ bitsOf c 3 1, tgts := t }
  else none

/-- Decoder k of the device. -/
def State.hdm (s : State) (k : Nat) : Option Hdm :=
  hdmOf (s.rv (0x2000 + 32 * k)) (s.rv (0x2008 + 32 * k)) (s.rv (0x2010 + 32 * k)) (s.rv (0x2018 + 32 * k))

/-- Target j of a decoder. -/
def Hdm.tgt (h : Hdm) (j : Nat) : Nat := bitsOf h.tgts (4 * j + 3) (4 * j)

/-- The target of a local address and its address there (R313). -/
def Hdm.decode (h : Hdm) (a : Nat) : Nat × Nat :=
  let off := a - h.base
  (h.tgt (off / h.gran % h.ways), off / (h.gran * h.ways) * h.gran + off % h.gran)

/-- The enabled decoders, from 0 to 15. -/
def State.hdms (s : State) : List Hdm := (List.range 16).filterMap s.hdm

/-- The target and device address of a local address; none when no enabled decoder holds it (R313). -/
def State.hdmDecode (s : State) (a : Nat) : Option (Nat × Nat) :=
  (s.hdms.find? (fun h => decide (h.base ≤ a) && decide (a < h.base + h.size))).map (fun h => h.decode a)

/-- The port and half of a local address's target. -/
def State.mpOf (s : State) (a : Nat) : Option (Nat × Nat) := (s.hdmDecode a).map (fun t => (t.1 / 2, t.1 % 2))

/-! ### The ring of the dumps (R417) -/

/-- SLOTS of the dump ring. -/
def State.dumpSlots (s : State) : Nat := max 1 (s.rf 0x10120 43 32)

/-- The ring of the dumps lies wholly within local memory that enabled decoders map, and outside every window of the
MAP (R417). A decoder's range is a multiple of the slot's size, so a slot lies in it whole or not at all. -/
def State.ringOk (s : State) : Bool :=
  let base := s.rf 0x10118 43 20 * 2 ^ 20
  let len := s.dumpSlots * 2 ^ 20
  s.img.inForce
  && (List.range s.dumpSlots).all (fun k => (s.hdmDecode (base + k * 2 ^ 20)).isSome)
  && s.img.ranges.all (fun r =>
    match s.img.indexIn r s.me with
    | none => true
    | some _ =>
      let lo := r.lbase * 4096
      let n := (r.limit + 1 - r.base) * 4096 / r.ways
      decide (lo + n ≤ base) || decide (base + len ≤ lo))

/-- BAD_BASE of HV_DUMP_STATUS (R417). -/
def State.setBadBase (s : State) (v : Bool) : State := { s with hv := { s.hv with badBase := v } }

/-- The check of R417; dump instants count from the moment at which the ring passes again (R415). -/
def State.checkRing (s : State) : State :=
  if s.hv.badBase && s.ringOk then { s with hv := { s.hv with badBase := false, lastDump := s.now } } else s.setBadBase (!s.ringOk)

/-- The slot of the next dump (R415). -/
def State.nextSlot (s : State) : Nat := if s.hv.dumpSlot < s.dumpSlots then s.hv.dumpSlot else 0

end Sys2Proof.Machine
end

