-- ==== Sys2Proof/Machine/Send.lean ====
section
/-! DEFINITION. Fatal records and the entry to HOLD, mode entry, and the sending of messages: to agents, to pans, across
the fabric, and what happens to a message that cannot be delivered (R160, R296, R302, R426 to R432). -/

namespace Sys2Proof.Machine

/-! ### Events for the pan engines (R368) -/

/-- A background event raised: it merges into one of its type that is queued (R368). -/
def State.raiseBg (s : State) (p typ : Nat) : State :=
  let x := s.pan p
  if x.bg.any (fun e => e.typ == typ) then s
  else (s.setPan p { x with bg := x.bg ++ [{ typ := typ, time := s.now }] }).count (uEng p) (0x100 + typ)

/-- A foreground event raised; false when the queue of 32 is full (R368). -/
def State.raiseFg (s : State) (p : Nat) (e : EngEvent) : Bool × State :=
  let x := s.pan p
  if x.fg.length < 32 then
    (true, (s.setPan p { x with fg := x.fg ++ [{ e with time := s.now }] }).count (uEng p) (0x100 + e.typ))
  else (false, s)

/-! ### Mode entry (R85, R415, R426, R428, R453) -/

/-- The modes in which DATA_EN is 1 (R85). -/
def Mode.dataEn (m : Mode) : Bool := m == .service || m == .drain || m == .lean || m == .recover

/-- The modes in which the rake and the stack rest run (R240, R453). -/
def Mode.runs (m : Mode) : Bool := m == .prove || m.dataEn

/-- Pan p belongs to a retired bed (R487). -/
def State.panRetired (s : State) (p : Nat) : Bool := s.img.retireBed.testBit (p / 8)

/-- f applied to every number below n in turn. -/
def forUpTo (n : Nat) (f : Nat → State → State) (s : State) : State := (List.range n).foldl (fun t k => f k t) s

/-- DATA_EN of every pan as the mode gives it (R85). -/
def State.setDataEn (s : State) (v : Bool) : State :=
  forUpTo 64 (fun p t => t.updPan p (fun x => { x with dataEn := v && !s.panRetired p })) s

/-- The mode changes: a MODE_CHANGE record is written (R426). -/
def State.modeRec (s : State) (m : Mode) : State :=
  let left := s.mode.cur
  ({ s with mode := { s.mode with cur := m, target := m, busy := false } }).logRaw
    { unit := uMgmt, cls := 0, code := 0x0701, detail := left.code + 16 * m.code }

/-- The beds leave the stack rest when the mode no longer allows it (R453). -/
def State.restExits (s : State) : State :=
  forUpTo 8 (fun b t =>
    let x := t.bed b
    if x.rest = 2 then t.setBed b { x with rest := 3, restAt := t.now }
    else if x.rest = 1 then t.setBed b { x with wakeReq := true }
    else t) s

/-- Entry into a mode, with its effects (R85, R415, R417, R428, R453, R466); the rakes' first pass starts when they first run
(log entry 18). After a thermal trip the stacks stay in self-refresh (R452). -/
def State.enterMode (s : State) (m : Mode) : State :=
  let s1 := s.modeRec m
  let s2 := s1.setDataEn m.dataEn
  let s3 := if m == .prove then { s2 with ru := { s2.ru with lock := true } } else s2
  let s4 := if m == .drain then forUpTo 64 (fun p t => t.combFlush p) s3 else s3
  let s5 := if m == .prove || m == .test || m == .recover then ({ s4 with hv := { s4.hv with dumpSlot := 0, lastDump := s4.now } }).checkRing else s4
  let s6 := if m.runs then forUpTo 8 (fun b t =>
      if (t.bed b).rakeT0.isNone then t.updBed b (fun x => { x with rakeT0 := some t.now }) else t) s5 else s5
  if m.runs || s.mode.tripped then s6 else s6.restExits

/-- The flush of R86 started on every pan whose DATA_EN is 1. -/
def State.startFlush (s : State) : State :=
  forUpTo 64 (fun p t =>
    if (t.pan p).dataEn then
      ((t.updPan p (fun x => { x with flushing := true })).combFlush p).raiseBg p 0x03
    else t) s

/-- A fatal record starts the entry to HOLD (R429, R432): the traffic rules apply at once; with DATA_EN 1 anywhere
the mode changes only after the flush. -/
def State.fatalHold (s : State) : State :=
  if s.mode.cur == .off || s.holding then s
  else if s.pans.any (fun x => x.2.dataEn) then
    ({ s with mode := { s.mode with busy := true, target := .hold } }).startFlush
  else s.enterMode .hold

/-- An error record written, with the entry to HOLD of a fatal one (R157, R160). -/
def State.logErr (s : State) (i : ErrInfo) : State :=
  let t := s.logRaw i
  if i.cls = 3 then t.fatalHold else t

/-- A record that names nothing but a detail. -/
def State.logD (s : State) (unit cls code detail : Nat) : State :=
  s.logErr { unit := unit, cls := cls, code := code, detail := detail }

/-- The pending mode changes cancelled, each with a MODE_REFUSED record (R432). -/
def State.cancelModes (s : State) : State :=
  let req := match bitsOf (s.rv 0x308) 11 8 with | n => n
  let s1 := match s.mode.pend with
    | none => s
    | some _ => ({ s with mode := { s.mode with pend := none, refused := true } }).logD uMgmt 0 0x0702 (s.mode.cur.code + 16 * req)
  match s1.mode.cmdPend with
  | none => s1
  | some (_, m) => ({ s1 with mode := { s1.mode with cmdPend := none, refused := true } }).logD uMgmt 0 0x0702 (s1.mode.cur.code + 16 * m.code)

/-- A containment event (R146, R426, R432): RECOVER is entered from PROVE, SERVICE, LEAN and DRAIN. -/
def State.containment (s : State) : State :=
  if s.holding then s
  else if s.mode.cur == .prove || s.mode.cur == .service || s.mode.cur == .lean || s.mode.cur == .drain then
    (s.enterMode .recover).cancelModes
  else s

/-- LEAN causes applied to the mode (R426, R431, R432): only while no transition is in progress. -/
def State.applyLean (s : State) : State :=
  if s.mode.busy then s
  else if s.mode.cur == .service && s.leanCause then s.enterMode .lean
  else if s.mode.cur == .lean && !s.leanCause then s.enterMode .service
  else s

/-! ### Evaluation of an instant (R405) -/

/-- The outcome of scheduling an instant: what happens now, and the record of a refused or late one. unit and off
name the register that holds it. -/
def State.schedLog (s : State) (k : Sched) (unit off : Nat) : State :=
  match k with
  | .refused => (s.logD unit 0 0x0607 (unit + off * 2 ^ 12)).count uMt 0x108
  | .past => (s.logD unit 0 0x0608 (unit + off * 2 ^ 12)).count uMt 0x109
  | _ => s

/-- An instant evaluated, with the record of a refused or late one (R405). -/
def State.evalAt (s : State) (at_ unit off : Nat) : Sched × State :=
  let k := schedule s.now at_
  (k, s.schedLog k unit off)

/-! ### Channels and destinations of Knuckle messages -/

/-- The two-field class of a Knuckle message: its normal channel (R291, R297). -/
def kChan (b : KBody) : Nat :=
  match b with
  | .req _ => 0
  | .out (.snp ..) => 1
  | .out (.ackData ..) => 3
  | .out _ => 2
  | .ans a => match a.kind with | .ackData => 3 | _ => 2
  | .note n => match n.body with | .gsnp .. => 1 | _ => 2
  | .mgmt _ => 6

/-- The destination device of a Knuckle message (R292). -/
def kDev (b : KBody) : Nat :=
  match b with
  | .req r => r.homeDev.toNat
  | .out m => agDev (outDst m)
  | .ans a => a.hdev.toNat
  | .note n => n.ddev.toNat
  | .mgmt m => m.ddev.toNat

/-! ### The fabric (R296 to R303) -/

/-- The channel of a message on link l: the escape set after a dateline (R297). -/
def State.pickChan (s : State) (b : KBody) (l : Nat) (from_ : Option Nat) (esc : Bool) : Nat :=
  match b with
  | .mgmt _ => 6
  | _ =>
    let cfg := fun k => s.rv (klOff k 0)
    let normal := match from_ with
      | none => true
      | some k => if bitsOf (cfg k) 14 12 ≠ bitsOf (cfg l) 14 12 then true else !esc
    let useEsc := (cfg l).testBit 11 || !normal
    if useEsc then (match b with | .req _ => 4 | _ => 5) else kChan b

/-- The route entry that a message with epoch re uses: the previous table's while it is kept, else the active one's
(R300). -/
def State.routeFor (s : State) (d : Nat) (re : Bool) : Nat :=
  if re != s.fab.epoch && s.fab.prevValid then (sget s.fab.prev d 0).toNat else s.route d

/-- A message that no link can take, made on the device or arrived on link `from_`: counted and recorded (R302). -/
def State.undeliv (s : State) (from_ : Option Nat) : State :=
  match from_ with
  | none =>
    let s1 := s.count uEgress 0x102
    if s1.fab.undelAt = 0 ∨ 1000000 ≤ dt (s1.fab.undelAt - 1) s1.now then
      ({ s1 with fab := { s1.fab with undelAt := s1.now + 1, undelCnt := 0 } }).logD uEgress 2 0x0307 (s1.fab.undelCnt + 1)
    else { s1 with fab := { s1.fab with undelCnt := s1.fab.undelCnt + 1 } }
  | some l =>
    let k := s.kn l
    let s1 := (s.setKn l { k with discard := satAdd k.discard 1 0xFFFFFFFF, undelCnt := k.undelCnt + 1 }).count (uKn l) 0x11E
    if k.undelAt = 0 ∨ 1000000 ≤ dt (k.undelAt - 1) s1.now then
      (s1.updKn l (fun k => { k with undelAt := s1.now + 1, undelCnt := 0 })).logD (uKn l) 2 0x0307 (k.undelCnt + 1)
    else s1

/-- The pan that a message to an agent of this device or of another comes from, as its snoop's HTAG or the request outstanding
at the port says; 72, the port itself, where neither names one (R196). -/
def State.outSrc (s : State) (m : OutMsg) : Nat :=
  match m with
  | .snp _ _ _ _ h => if bitsOf h.toNat 9 8 = 3 then 72 else h.toNat / 1024
  | m =>
    match (s.hinge (agPort (outDst m))).outst.find? (fun o => o.src == outDst m && outTag m == some o.tag && o.homeDev == s.me) with
    | some o => o.pan
    | none => 72

/-- The source of a message in a Knuckle egress queue (R196): its Hinge port, the link it came by, the pan given, or the
management block. -/
def kSrc (b : KBody) (from_ : Option Nat) (pan : Option Nat) : Nat :=
  match from_ with
  | some k => 16 + k
  | none =>
    match b, pan with
    | .req r, _ => agPort r.src
    | .ans a, _ => agPort a.src
    | _, some p => 24 + p
    | .note n, none => agPort n.agent
    | .out _, none => 88
    | .mgmt _, none => 88

/-- The stamp by which a Knuckle message ranks: its own, or a local one (R184, R185). -/
def State.kStamp (s : State) (b : KBody) : BitVec 16 :=
  match b with | .req r => r.stamp | _ => s.stamp16

/-- A message put into a link's egress queue (R296, R297); it waits while another source holds the write path (R197). -/
def State.kput (s : State) (l : Nat) (b : KBody) (re : Bool) (from_ : Option Nat) (esc : Bool) (pan : Option Nat) (stamp : BitVec 16) :
    State :=
  let src := kSrc b from_ pan
  let e : KEgress := { msg := { kvc := BitVec.ofNat 3 (s.pickChan b l from_ esc), re := re, body := b }, fromLink := from_,
                       src := src, stamp := stamp }
  s.kwrite l e

/-- The link that a body leaves on, if its route entry is valid (R296). -/
def State.linkFor (s : State) (b : KBody) (re : Bool) : Option Nat :=
  let r := s.routeFor (kDev b) re
  match b with
  | .mgmt _ => if r.testBit 11 then some (bitsOf r 10 8) else none
  | _ => if r.testBit 15 then some (bitsOf r 2 0) else none

/-- A message made here, by a pan if one is named, and sent to another device, with nothing further done when it cannot be
delivered. -/
def State.ksendRaw (s : State) (b : KBody) (pan : Option Nat := none) : State :=
  match s.linkFor b s.fab.epoch with
  | some l => s.kput l b s.fab.epoch none false pan (s.kStamp b)
  | none => s.undeliv none

/-- A message that is to enter a brine queue as one of port's, with the local stamp of the port where it entered the device (R185,
R203). -/
def State.toQueue (s : State) (port pan vc : Nat) (b : BBody) (stamp : BitVec 16) : State :=
  { s with fab := { s.fab with inWait := s.fab.inWait ++
    [{ port := port, pan := pan, vc := vc, body := b, stamp := stamp }] } }

/-- A notice for this device, which came by port and has the stamp given: those to a pan enter its response queue, the others are on
their way to a port (R185, R203, R294, R296). -/
def State.noteHere (s : State) (port : Nat) (n : Notice) (stamp : BitVec 16) : State :=
  match n.body with
  | .dmark _ p _ => s.toQueue port p.toNat 1 (.note n) stamp
  | .gone _ => forUpTo 64 (fun p t => t.toQueue port p 1 (.note n) stamp) s
  | .ungone => forUpTo 64 (fun p t => t.toQueue port p 1 (.note n) stamp) s
  | .gack h => s.toQueue port (h.toNat / 1024) 1 (.note n) stamp
  | .wdone _ | .tmo | .pfault .. | .cleaned | .gsnp .. | .unused _ => { s with fab := { s.fab with notes := s.fab.notes ++ [(n, stamp)] } }

/-- A notice sent to device d; on this device it is on its way to the command that receives it, else it crosses the fabric
(R294). pan is the pan that makes it, if one does. -/
def State.notice (s : State) (d : Nat) (agent : BitVec 12) (b : NoteBody) (pan : Option Nat := none) : State :=
  let n : Notice := { ddev := BitVec.ofNat 6 d, sdev := BitVec.ofNat 6 s.me, agent := agent, body := b }
  let s1 := if pan.isSome then s.xbarOut 16 else s
  if d = s.me then s1.noteHere (agPort agent) n s.stamp16 else s1.ksendRaw (.note n) pan

/-- A message for a local agent put into its port's egress queue; the port discards what it holds for a gone or dead
agent, a grant returning a lost mark (R138 to R140). src is its source, numbered as in HEgress. -/
def State.toPort (s : State) (m : OutMsg) (src : Nat) (stamp : BitVec 16) : State :=
  let p := agPort (outDst m)
  let a := agNum (outDst m)
  let h := s.hinge p
  if h.gone.testBit a || h.dead.testBit a then
    let gone := fun (o : Outst) => o.src == outDst m && outTag m == some o.tag && !o.posted
    let s1 := (s.setHinge p { h with outst := h.outst.filter (fun o => !gone o) }).count (uHinge p) 0x11D
    match outGrant m, outTag m with
    | some _, some t =>
      match h.outst.find? (fun o => o.src == outDst m && o.tag == t) with
      | some o => s1.notice o.homeDev (outDst m) (.dmark t (BitVec.ofNat 6 o.pan) true)
      | none => s1
    | _, _ => s1
  else s.setHinge p { h with egress := h.egress ++ [{ msg := m, src := src, stamp := stamp }] }

/-- An answer that a port makes itself to one of its agents. -/
def State.portSays (s : State) (m : OutMsg) : State := s.toPort m 72 (s.stamp16)

/-- Where the answers with a home tracker tag are queued: the brine queue of its pan, or the receive buffer of the
group-snoop collector, which is held as the queue of a ninth bed (R203, R306). -/
def ansQueue (dst port vc : Nat) : Nat × Nat := if dst = 64 then (8, port * 4 + vc) else (dst / 8, brineQ dst port vc)

/-- The pan that an answer names, 64 for the collector (R306). -/
def ansDst (a : Ans) : Nat := if bitsOf a.htag.toNat 9 8 = 3 then 64 else bitsOf a.htag.toNat 15 10

/-- The channel of an answer within the brine pool (R203). -/
def ansVc (a : Ans) : Nat := match a.kind with | .ackData => 2 | _ => 1

/-- An answer received by port and on its way to its home on this device: to the queue of its pan, or to the collector, which has
a receive buffer of its own (R203, R306). -/
def State.ansPut (s : State) (port : Nat) (a : Ans) (stamp : BitVec 16) : State :=
  if ansDst a = 64 then
    let n := ansQueue 64 port (ansVc a)
    let q := s.queue n.1 n.2
    s.setQueue n.1 n.2 { q with msgs := q.msgs ++ [{ body := .ans a, stamp := stamp }] }
  else s.toQueue port (ansDst a) (ansVc a) (.ans a) stamp

/-- Whether a request is posted (R101). -/
def reqPosted (r : Req) : Bool :=
  match r.opc.toNat with
  | 6 => true
  | 4 | 5 => r.pst
  | 7 | 8 => !r.atom.ret
  | _ => false

/-- What the discarding device does for an undeliverable message (R302). from_ is the link that held it, whose unit detects a posted
fault, the egress crossbar where none did (R149); an answer made for an
agent of another device enters the home's queue of that link, of link 0 where no link held the message (log entry 43). -/
def State.onUndeliverable (s : State) (b : KBody) (from_ : Option Nat) : State :=
  match b with
  | .req r =>
    if reqPosted r then
      s.notice (agDev r.src) r.src (.pfault 3 (BitVec.ofNat 64 s.now)
        (BitVec.ofNat 12 (match from_ with | some l => uKn l | none => uEgress)) (r.addr &&& ~~~(0x7F : BitVec 52)))
    else if agDev r.src = s.me then s.portSays (.targetDown r.src r.tag)
    else s.ksendRaw (.out (.targetDown r.src r.tag))
  | .out (.snp _ d _ hd ht) =>
    let a : Ans := { kind := .notPresent, src := d, hdev := hd, htag := ht }
    if hd.toNat = s.me then s.ansPut (16 + from_.getD 0) a s.stamp16 else s.ksendRaw (.ans a)
  | .note n =>
    match n.body with
    | .gsnp _ ht => s.notice n.sdev.toNat 0 (.gack ht)
    | _ => s
  | _ => s

/-- A message made on this device, by a pan if one is named, for another one: into the egress queue its route names, refused
with TargetClosing when it is a non-posted request for a closing link (R454), or undeliverable (R296, R302). -/
def State.ksend (s : State) (b : KBody) (pan : Option Nat := none) : State :=
  match s.linkFor b s.fab.epoch with
  | some l =>
    match b with
    | .req r =>
      if (s.kn l).link.st == .closing && !reqPosted r && agDev r.src == s.me then s.portSays (.targetClosing r.src r.tag)
      else s.kput l b s.fab.epoch none false pan (s.kStamp b)
    | _ => s.kput l b s.fab.epoch none false pan (s.kStamp b)
  | none => (s.undeliv none).onUndeliverable b none

/-- A message of a pan to an agent, wherever its port is (R127, R296). -/
def State.toAgent (s : State) (m : OutMsg) (pan : Option Nat := none) : State :=
  let s1 := if pan.isSome then s.xbarOut (outBytes m) else s
  if agDev (outDst m) = s.me then s1.toPort m (pan.getD (s.outSrc m)) (s.stamp16) else s1.ksend (.out m) pan

/-- A notice on its way to a port of this device is taken out, if there is one that satisfies f. -/
def State.takeNote (s : State) (f : Notice → Bool) : State :=
  { s with fab := { s.fab with notes := (dropFirst (fun e => f e.1) s.fab.notes).2 } }

/-! ### Ageing (R187 to R189) -/

/-- A stamp has reached an age of 1 ms, and its ancient bit is not yet set (R187). -/
def State.ripens (s : State) (anc : Bool) (stamp : BitVec 16) : Bool := !anc && s.ancient stamp.toNat

/-- A held request whose age has reached 1 ms and whose ancient bit is not yet set. -/
def State.ripe (s : State) (r : Req) : Bool := s.ripens r.anc r.stamp

/-- The request with its ancient bit set when it is due. -/
def State.aged (s : State) (r : Req) : Req := if s.ripe r then { r with anc := true } else r

/-- A Nack whose stamp has reached 1 ms and whose ancient bit is not yet set (R187, R189). -/
def State.ripeOut (s : State) (m : OutMsg) : Bool :=
  match m with | .nack _ _ n => !n.anc && s.ancient n.stamp.toNat | _ => false

/-- A message to an agent with the ancient bit of a Nack set when it is due. -/
def State.agedOut (s : State) (m : OutMsg) : OutMsg :=
  match m with | .nack a t n => if s.ripeOut m then .nack a t { n with anc := true } else m | _ => m

/-- A Knuckle message is due for an ancient bit. -/
def State.ripeK (s : State) (b : KBody) : Bool :=
  match b with | .req r => s.ripe r | .out m => s.ripeOut m | _ => false

/-- The body of a Knuckle message aged. -/
def State.agedK (s : State) (b : KBody) : KBody :=
  match b with | .req r => .req (s.aged r) | .out m => .out (s.agedOut m) | b => b

/-- The ancient bit by which a message to an agent ranks. -/
def outAnc (m : OutMsg) : Bool := match m with | .nack _ _ n => n.anc | _ => false

/-- The ancient bit by which a Knuckle message ranks. -/
def kAnc (b : KBody) : Bool := match b with | .req r => r.anc | .out m => outAnc m | _ => false

/-! ### Transmission on Hinge links (R270, R273) -/

/-- Credit units of a message with n bytes (R270). -/
def unitsOf (n : Nat) : Nat := n / 16

/-- Flits of a message with n bytes. -/
def flitsOf (n : Nat) : Nat := if n ≥ 128 then 3 else 1

/-- Flits in the replay buffer. -/
def Link.occ (l : Link) : Nat := l.replay.foldl (fun a g => a + g.flits) 0

/-- Traffic may be sent on the link. -/
def Link.up (l : Link) : Bool := l.st == .active || l.st == .closing

/-- A group appended to the replay buffer with the next sequence numbers (R273). -/
def Link.push (l : Link) (flits : Nat) (b : GBody) : Link :=
  { l with replay := l.replay ++ [{ seq := l.txNext, flits := flits, body := b }], txNext := (l.txNext + flits) % 4096 }

/-- The link is up and its last message has not been CLOSE_DONE. -/
def Link.open_ (l : Link) : Bool := l.up && !l.closeDoneSent

/-- The peer's credit suffices for a message of n bytes on channel ch (R272). -/
def Link.credit (l : Link) (ch n : Nat) : Bool := decide (unitsOf n ≤ sget l.credTx ch 0)

/-- A message of n bytes on channel ch may be sent: the link is up, the replay buffer has room and the peer's credit
suffices (R272, R273). -/
def Link.canSend (l : Link) (cap ch n : Nat) : Bool :=
  l.open_ && decide (l.occ + flitsOf n ≤ cap) && l.credit ch n

/-- A message of n bytes sent on channel ch. -/
def Link.send (l : Link) (ch n : Nat) (b : GBody) : Link :=
  { l with credTx := sset l.credTx ch (sget l.credTx ch 0 - unitsOf n) 0, stalled := setBits l.stalled ch ch 0 }.push (flitsOf n) b

/-- A message of n bytes sent on channel ch when it may be. -/
def Link.trySend (l : Link) (cap ch n : Nat) (b : GBody) : Option Link := if l.canSend cap ch n then some (l.send ch n b) else none

/-- The control flits that wait pushed as far as the replay buffer has room (R273). The close's timer starts with CLOSE_REQ, and
1 µs after the CLOSE_DONE of a Hinge port the lanes go to electrical idle (R282, R283). -/
def Link.pumpCtl (l : Link) (cap now : Nat) (hinge : Bool) : List Nat → Link
  | [] => { l with ctlQ := [] }
  | c :: t =>
    if l.up && decide (l.occ < cap) then
      let m := l.push 1 (.ctl c 0)
      ({ m with closeAt := if c = 0x10 then now else m.closeAt
                idleAt := if c = 0x12 ∧ hinge = true then some (now + 1000) else m.idleAt } : Link).pumpCtl cap now hinge t
    else { l with ctlQ := c :: t }

/-- The link of agent number a of a port in its mode: 1 for half 1 (R247). -/
def Hinge.half (h : Hinge) (a : Nat) : Bool := h.mode == 2 && decide (2 ≤ a)

/-- Replay-buffer capacity of a port's links (R273). -/
def Hinge.cap (h : Hinge) : Nat := if h.mode = 2 then 512 else 1024

/-- The link that carries agent a. -/
def Hinge.linkOf (h : Hinge) (a : Nat) : Link := if h.half a then h.link1 else h.link0

/-- The link that carries agent a replaced. -/
def Hinge.setLinkOf (h : Hinge) (a : Nat) (l : Link) : Hinge :=
  if h.half a then { h with link1 := l } else { h with link0 := l }

/-- The outstanding requests of a port after a message has left for an agent: the final response of a non-posted request ends
its entry, the Ack of a posted one is noted (R125). -/
def Hinge.answered (h : Hinge) (m : OutMsg) : List Outst :=
  match m, outTag m with
  | .fenceDone .., _ | _, none => h.outst
  | _, some t => h.outst.filterMap (fun o =>
      if o.src == outDst m && o.tag == t && !o.acked then (if o.posted then some { o with acked := true } else none) else some o)

/-- A message transmitted to an agent of port p, if its link takes it: bytes and messages are counted (R418), a Nack leaves with
its ancient bit settled (R189). -/
def State.transmit (s : State) (p : Nat) (m0 : OutMsg) : Option State :=
  let h := s.hinge p
  let m := s.agedOut m0
  let a := agNum (outDst m)
  match (h.linkOf a).trySend h.cap (outChan m) (outBytes m) (.out m) with
  | none => none
  | some l =>
    let h1 := { h.setLinkOf a l with bwOut := h.bwOut + outBytes m, outst := h.answered m }
    let s1 := ((s.setHinge p h1).count (uHinge p) 0x121 (outBytes m)).count (uHinge p) (0x126 + outChan m)
    some (s1.count (uHinge p) 0x003 (b2n (s.ripeOut m0)))

/-- The group of a source of Hinge egress: the pans of each bed, the Knuckle links, the port itself (R196). -/
def hGroup (src : Nat) : Nat := if src < 64 then src / 8 else if src < 72 then 8 else 9

/-- The first element of each key. -/
def headsBy {α : Type} (key : α → Nat) (l : List α) : List α :=
  l.foldl (fun acc x => if acc.any (fun y => key y == key x) then acc else acc ++ [x]) []

/-- The messages of channel ch that may take its next slot: the first of each source for each half (R196). -/
def Hinge.slots (h : Hinge) (ch : Nat) : List HEgress :=
  headsBy (fun e => 2 * e.src + b2n (h.half (agNum (outDst e.msg)))) (h.egress.filter (fun e => outChan e.msg == ch))

/-- The arbiters of port p may grant a source of its egress: neither the port nor a Knuckle link that is the source is quarantined
(R199). -/
def State.hServes (s : State) (p : Nat) (e : HEgress) : Bool :=
  !(s.hinge p).quarantined && !(decide (64 ≤ e.src) && decide (e.src < 72) && (s.kn (e.src - 64)).quarantined)

/-- A message in a Hinge egress queue can leave on its link. -/
def Hinge.ready (h : Hinge) (e : HEgress) : Bool :=
  (h.linkOf (agNum (outDst e.msg))).canSend h.cap (outChan e.msg) (outBytes e.msg)

/-- A waiting message as a requester of the slot of its channel. -/
def State.slotAsker (s : State) (p : Nat) (e : HEgress) : Asker :=
  { s.asker (hpArb p (outChan e.msg - 1)) e.src (hGroup e.src) (outAnc e.msg) e.stamp with
    id := 2 * e.src + b2n ((s.hinge p).half (agNum (outDst e.msg))) }

/-- The message that takes the slot of channel ch of port p among those that can leave, with the requesters and the winner. -/
def State.slotWinner (s : State) (p ch : Nat) : Option (HEgress × List Asker × Asker) :=
  let h := s.hinge p
  let l := (h.slots ch).filter (fun e => h.ready e && s.hServes p e)
  let asks := l.map (s.slotAsker p)
  match s.winner (hpArb p (ch - 1)) asks with
  | none => none
  | some w => (l.find? (fun e => (s.slotAsker p e).id == w.id)).map (fun e => (e, asks, w))

/-- Message e of port p's egress queue sent in the slot of its channel, which grants it among asks. -/
def State.sendSlot (s : State) (p : Nat) (e : HEgress) (asks : List Asker) (w : Asker) : State :=
  let s1 := s.award (hpArb p (outChan e.msg - 1)) asks w
  match (s1.updHinge p (fun h => { h with egress := (dropFirst (· == e) h.egress).2 })).transmit p e.msg with
  | none => s
  | some t => t

/-- The channels of port p with a message that can leave, as requesters of the flit slot. -/
def State.flitAskers (s : State) (p : Nat) : List Asker :=
  [1, 2, 3].filterMap (fun ch => (s.slotWinner p ch).map (fun x =>
    s.asker (hpArb p 3) (ch - 1) (ch - 1) (outAnc x.1.msg) x.1.stamp))

/-- The messages of a port's egress queue that may go now leave one by one, the flit slot choosing the channel and the
channel's slot the message; when the choice falls on a grant of S or M, it waits for GRANT_SENT, which sends it (R98, R196; log
entry 187). n bounds the work. -/
def State.pumpPort (s : State) (p n : Nat) : State :=
  match n with
  | 0 => s
  | k + 1 =>
    let l := s.flitAskers p
    match s.winner (hpArb p 3) l with
    | none => s
    | some c =>
      match s.slotWinner p (c.num + 1) with
      | none => s
      | some x => if (outGrant x.1.msg).isSome then s else ((s.award (hpArb p 3) l c).sendSlot p x.1 x.2.1 x.2.2).pumpPort p k

/-- The channels of a link that start to wait for credit: each is counted once until a message leaves on it (R286, R420; log entry
44). -/
def Link.newStalls (l : Link) (waiting : List (Nat × Nat)) : List Nat :=
  (distinct ((waiting.filter (fun x => l.open_ && !l.credit x.1 x.2)).map (·.1))).filter (fun c => !l.stalled.testBit c)

/-- Bits set in the stall marks of a link. -/
def Link.stall (l : Link) (cs : List Nat) : Link := { l with stalled := cs.foldl (fun a c => setBits a c c 1) l.stalled }

/-- The stalls of port p's links counted. -/
def State.hingeStalls (s : State) (p : Nat) : State :=
  let h := s.hinge p
  let w := fun (half : Bool) => (h.egress.filter (fun e => h.half (agNum (outDst e.msg)) == half)).map (fun e => (outChan e.msg, outBytes e.msg))
  let n0 := h.link0.newStalls (w false)
  let n1 := h.link1.newStalls (w true)
  (n0 ++ n1).foldl (fun t c => t.count (uHinge p) (0x115 + c))
    (s.setHinge p { h with link0 := h.link0.stall n0, link1 := h.link1.stall n1 })

/-! ### Transmission on Knuckle links -/

/-- Bytes of a Knuckle message: slots and payload (R293, R294). -/
def kBytes (b : KBody) : Nat :=
  match b with
  | .req r =>
    match r.opc.toNat with
    | 4 | 6 => 144
    | 5 => 160
    | 7 | 8 => if r.atom.asz = 3 then 160 else if r.atom.aop = 9 then 160 else 48
    | _ => 16
  | .out m => outBytes m
  | .ans a => ansBytes a
  | .note n => match n.body with | .pfault .. => 32 | _ => 16
  | .mgmt _ => 16

/-- The messages at the heads of a Knuckle link's channels that can leave; skip are channels that send nothing (R299, R429); a
quarantined link is granted nothing (R199). -/
def Knuckle.heads (k : Knuckle) (skip : List Nat) : List KEgress :=
  if k.quarantined then [] else (headsBy (fun e => e.msg.kvc.toNat) (k.egress.filter (fun e => !skip.contains e.msg.kvc.toNat))).filter (fun e =>
    !e.partial_ && k.link.canSend 1024 e.msg.kvc.toNat (kBytes e.msg.body))

/-- A head message of a Knuckle link as a requester of its flit slot. -/
def State.knAsker (s : State) (l : Nat) (e : KEgress) : Asker :=
  s.asker (klArb l 1) e.msg.kvc.toNat e.msg.kvc.toNat (kAnc e.msg.body) e.stamp

/-- Message e sent on Knuckle link l, the ancient bit of what it carries settled (R189). -/
def State.sendKn (s : State) (l : Nat) (e : KEgress) : State :=
  let k := s.kn l
  let n := kBytes e.msg.body
  let m : KMsg := { e.msg with body := s.agedK e.msg.body }
  ((s.setKn l { k with egress := (dropFirst (· == e) k.egress).2, link := k.link.send e.msg.kvc.toNat n (.kmsg m), bwOut := k.bwOut + n }).count
    (uKn l) 0x122 n).count (uKn l) 0x003 (b2n (s.ripeK e.msg.body))

/-- The messages of a Knuckle egress queue that may go now leave one by one, as the flit slot grants them (R196, R299). -/
def State.pumpKn (s : State) (l : Nat) (skip : List Nat) (n : Nat) : State :=
  match n with
  | 0 => s
  | m + 1 =>
    let h := (s.kn l).heads skip
    let asks := h.map (s.knAsker l)
    match s.winner (klArb l 1) asks with
    | none => s
    | some w =>
      match h.find? (fun e => e.msg.kvc.toNat == w.num) with
      | none => s
      | some e => ((s.award (klArb l 1) asks w).sendKn l e).pumpKn l skip m

/-- Units of the receive buffer that are free again and due to be returned (R271). -/
def Link.owe (l : Link) (ch n : Nat) : Link := { l with credDue := sset l.credDue ch (sget l.credDue ch 0 + n) 0 }

/-- Units due on the link of a half (R271). -/
def Hinge.owe (h : Hinge) (half : Bool) (ch n : Nat) : Hinge :=
  if half then { h with link1 := h.link1.owe ch n } else { h with link0 := h.link0.owe ch n }

/-- Units of a message due again on a Knuckle link's channel (R290). -/
def State.oweK (s : State) (l ch n : Nat) : State := s.updKn l (fun k => { k with link := k.link.owe ch n })

/-- Units of a message due again at the source that it came by: a Hinge port, or 16 more than a Knuckle link (R271, R290). -/
def State.oweSrc (s : State) (src : Nat) (half : Bool) (ch n : Nat) : State :=
  if src < 16 then s.updHinge src (fun h => h.owe half ch n) else if src < 24 then s.oweK (src - 16) ch n else s

/-- The messages that wait for the write path of a Knuckle egress queue written in the order of their grants, once nobody holds
it (R197); the units that they held are due again (R271, R290). -/
def State.pumpWrite (s : State) (l : Nat) (n : Nat) : State :=
  match n with
  | 0 => s
  | m + 1 =>
    let k := s.kn l
    let h := (headsBy (fun e => e.src) k.wait).filter (fun e => !s.kQuar e.src)
    let asks := h.map (fun e => s.asker (klArb l 0) e.src (kGroup e.src) (kAnc e.msg.body) e.stamp)
    match (if k.graces.isEmpty then s.winner (klArb l 0) asks else none) with
    | none => s
    | some w =>
      match h.find? (fun e => e.src == w.num) with
      | none => s
      | some e =>
        let t := s.setKn l (({ k with wait := (dropFirst (· == e) k.wait).2 } : Knuckle).write { e with units := 0 })
        ((t.award (klArb l 0) asks w).oweSrc e.src e.half e.uch e.units).pumpWrite l m

/-- The stalls of Knuckle link l counted. -/
def State.knStalls (s : State) (l : Nat) : State :=
  let k := s.kn l
  let n := k.link.newStalls (k.egress.map (fun e => (e.msg.kvc.toNat, kBytes e.msg.body)))
  n.foldl (fun t c => t.count (uKn l) (0x115 + c)) (s.setKn l { k with link := k.link.stall n })

/-! ### The ordering of requests at their port (R129, R152, R301) -/

/-- A held WrBackM for the line of request r. -/
def Outst.heldWb (e : Outst) (r : Req) : Bool :=
  match e.rq with
  | some q => q.opc == 6 && q.addr.toNat / 128 == r.addr.toNat / 128
  | none => false

/-- A held request of a port may be forwarded: every earlier request of its agent and OCL is done or goes to the same
pan of the same device, no route change stands between (R152, R301), and no earlier WrBackM of the agent for its line is held,
whatever the OCLs (R129). -/
def State.mayForward (s : State) (h : Hinge) (o : Outst) : Bool :=
  h.outst.all (fun e =>
    if e.src == o.src && decide (e.order < o.order) then
      (match o.rq with | some r => !e.heldWb r | none => true) &&
        (e.ocl != o.ocl ||
          (e.homeDev == o.homeDev && e.pan == o.pan && e.fwd &&
            (o.homeDev == s.me || e.link == bitsOf (s.route o.homeDev) 2 0)))
    else true)

/-- The Knuckle link for whose write path the message of source src, just handed over, waits. -/
def State.waitsAt (s t : State) (src : Nat) : Option Nat :=
  (t.knuckles.map (·.1)).find? (fun l =>
    decide ((s.kn l).wait.length < (t.kn l).wait.length) && ((t.kn l).wait.getLast?.map (·.src)) == some src)

/-- The n units of a message that leaves the receive buffer of source src, on its half and channel, as it has gone from state s to
state t: with the message while it waits for a Knuckle write path, else due again (R271, R290). -/
def State.unitsWith (s t : State) (src : Nat) (half : Bool) (ch n : Nat) : State :=
  match s.waitsAt t src with
  | some l => t.updKn l (fun k =>
      { k with wait := k.wait.dropLast ++ (k.wait.getLast?.map (fun e => { e with units := n, uch := ch, half := half })).toList })
  | none => t.oweSrc src half ch n

/-- A request has left its port: its units are due again, and a posted one is acknowledged (R39, R101). -/
def State.forwarded (s : State) (p : Nat) (o : Outst) : State :=
  let s1 := s.updHinge p (fun h => { h.owe o.half 0 o.units with outst := h.outst.map (fun e =>
    if e.order == o.order then { e with fwd := true, rq := none, at_ := s.now, units := 0, link := bitsOf (s.route o.homeDev) 2 0 } else e) })
  if o.posted then s1.portSays (.ack o.src o.tag 0) else s1

/-- The held requests of port p for homes on other devices put into Knuckle egress queues in order of arrival, as far as they may
be (R39). -/
def State.release (s : State) (p : Nat) : State :=
  ((s.hinge p).outst.filter (fun o => o.rq.isSome && o.homeDev != s.me)).foldl (fun t o =>
    match o.rq with
    | some r =>
      if t.mayForward (t.hinge p) o then
        t.unitsWith (((t.xbarIn (reqBytes r)).ksend (.req r)).forwarded p { o with units := 0 }) p o.half 0 o.units
      else t
    | none => t) s

/-! ### Messages for this device in Knuckle receive buffers (R296, R303) -/

/-- A message for an agent of this device from link l: a final response to a request that is no longer outstanding is discarded
(R303). -/
def State.outArrived (s : State) (l : Nat) (m : OutMsg) (stamp : BitVec 16) : State :=
  match outTag m with
  | none => s.toPort m (64 + l) stamp
  | some t =>
    let mine := fun (o : Outst) => o.src == outDst m && o.tag == t && !o.posted
    if (s.hinge (agPort (outDst m))).outst.any mine then s.toPort m (64 + l) stamp else s

/-- A message for this device that enters no brine queue delivered; none while it must wait (R296, R306). -/
def State.kDeliver (s : State) (l : Nat) (e : RxMsg) : Option State :=
  if e.dst.isSome then none
  else
    match e.msg.body with
    | .req _ => none
    | .out o => some (s.outArrived l o e.stamp)
    | .ans a => some (s.ansPut (16 + l) a e.stamp)
    | .note n =>
      match n.body with
      | .gsnp .. => none
      | .unused _ => some (s.count (uKn l) 0x11D)
      | _ => some (s.noteHere (16 + l) n e.stamp)
    | .mgmt g => some { s with fab := { s.fab with mgmtIn := s.fab.mgmtIn ++ [(l, g, e.stamp)] } }

/-- The messages of link l's receive buffers that enter no brine queue delivered as far as they can be, each channel in order;
nothing of a quarantined link is (R199). -/
def State.drainRx (s : State) (l : Nat) : State :=
  if (s.kn l).quarantined then s
  else
    let r := (s.kn l).rx.foldl (fun (acc : State × List RxMsg) e =>
      if acc.2.any (fun x => x.msg.kvc == e.msg.kvc) then (acc.1, acc.2 ++ [e])
      else
        match acc.1.kDeliver l e with
        | some t => (t.oweK l e.msg.kvc.toNat e.units, acc.2)
        | none => (acc.1, acc.2 ++ [e])) (s, [])
    r.1.updKn l (fun k => { k with rx := r.2 })

/-! ### Into the brine pools (R196, R206, R210) -/

/-- Where a message that asks for a packer is held. -/
inductive CandAt where
  | req (p : Nat) (o : Outst)
  | ans (p : Nat) (e : RxAns)
  | rx (l : Nat) (e : RxMsg)
  | own (m : InMsg)
  deriving DecidableEq, Repr

/-- A message that asks for a packer: its port, its queue, its body and its stamp. -/
structure Cand where
  port : Nat
  pan : Nat
  vc : Nat
  body : BBody
  stamp : BitVec 16
  at_ : CandAt
  deriving DecidableEq, Repr

/-- The body of a Knuckle message as it enters a brine queue. -/
def rxBody (b : KBody) : BBody :=
  match b with
  | .req r => .req r
  | .ans a => .ans a
  | .note n => .note n
  | .out _ | .mgmt _ => .mem 0 false

/-- Whether the claim of a message has failed before. -/
def Cand.refd (c : Cand) : Bool :=
  match c.at_ with | .req _ o => o.refd | .ans _ e => e.refd | .rx _ e => e.refd | .own m => m.refd

/-- The messages of Hinge port p that ask for a packer: held requests, and the first snoop answer of each channel. -/
def State.hingeCands (s : State) (p : Nat) : List Cand :=
  let h := s.hinge p
  h.outst.filterMap (fun o =>
    match o.rq with
    | some r => if o.homeDev == s.me && s.mayForward h o then
        some { port := p, pan := o.pan, vc := 0, body := .req r, stamp := r.stamp, at_ := .req p o } else none
    | none => none) ++
  (headsBy (fun e => ansVc e.ans) h.rxAns).map (fun e =>
    { port := p, pan := ansDst e.ans, vc := ansVc e.ans, body := .ans e.ans, stamp := e.stamp, at_ := .ans p e })

/-- The messages of Knuckle link l that ask for a packer: the first of each channel. -/
def State.knCands (s : State) (l : Nat) : List Cand :=
  (headsBy (fun e => e.msg.kvc.toNat) (s.kn l).rx).filterMap (fun e =>
    e.dst.map (fun d => { port := 16 + l, pan := d.1, vc := d.2, body := rxBody e.msg.body, stamp := e.stamp, at_ := .rx l e }))

/-- The device's own messages that ask for a packer: the first for each queue. -/
def State.ownCands (s : State) : List Cand :=
  (headsBy (fun m => (m.pan * 32 + m.port) * 4 + m.vc) s.fab.inWait).map (fun m =>
    { port := m.port, pan := m.pan, vc := m.vc, body := m.body, stamp := m.stamp, at_ := .own m })

/-- The cells of a message can be claimed, or have been (R210). -/
def State.claimable (s : State) (c : Cand) : Bool :=
  s.finishes (c.pan / 8) (brineQ c.pan c.port c.vc) c.body || (s.claim (c.pan / 8) c.port c.vc (cellsOf (bodyBytes c.body))).isSome

/-- The channel of its port that a message has come by, or, of the device's own, that it is made for. -/
def Cand.lane (c : Cand) : Nat :=
  c.port * 16 + (match c.at_ with | .req .. => 0 | .ans _ e => ansVc e.ans | .own m => 4 + m.vc | .rx _ e => 8 + e.msg.kvc.toNat)

/-- The messages up to the first of each channel of each port whose cells cannot be claimed, that one with them: the port holds it and
what comes after it on the channel (R210). -/
def State.upToRefused (s : State) (l : List Cand) : List Cand :=
  (l.foldl (fun acc c =>
    if acc.2.contains c.lane then acc
    else (acc.1 ++ [c], if s.claimable c then acc.2 else c.lane :: acc.2)) (([], []) : List Cand × List Nat)).1

/-- The messages that ask for a packer of bed b. -/
def State.cands (s : State) (b : Nat) : List Cand :=
  (s.upToRefused ((s.hinges.map (·.1)).flatMap s.hingeCands ++ (s.knuckles.map (·.1)).flatMap s.knCands ++ s.ownCands)).filter
    (fun c => c.pan / 8 == b)

/-- A message marked as refused for want of cells. -/
def State.markRefd (s : State) (c : Cand) : State :=
  match c.at_ with
  | .req p o => s.updHinge p (fun h => { h with outst := h.outst.map (fun x => if x.order == o.order then { x with refd := true } else x) })
  | .ans p e => s.updHinge p (fun h => { h with rxAns := h.rxAns.map (fun x => if x == e then { x with refd := true } else x) })
  | .rx l e => s.updKn l (fun k => { k with rx := k.rx.map (fun x => if x == e then { x with refd := true } else x) })
  | .own m => { s with fab := { s.fab with inWait := s.fab.inWait.map (fun x => if x == m then { x with refd := true } else x) } }

/-- The claims that fail for want of cells counted, once for each message (R210, R420). -/
def State.refusals (s : State) (b : Nat) : State :=
  ((s.cands b).filter (fun c => !c.refd && !s.claimable c)).foldl (fun t c => (t.markRefd c).count (uBrine b) 0x101) s

/-- A message that has entered its queue leaves the place where it was held: its units are due again (R210, R271, R290). -/
def State.candGone (s : State) (c : Cand) : State :=
  match c.at_ with
  | .req p o => s.forwarded p o
  | .ans p e => s.updHinge p (fun h =>
      { h.owe e.half (if ansVc e.ans = 2 then 3 else 2) e.units with rxAns := (dropFirst (· == e) h.rxAns).2 })
  | .rx l e => ((s.updKn l (fun k => { k with rx := (dropFirst (· == e) k.rx).2 })).oweK l e.msg.kvc.toNat e.units).drainRx l
  | .own m => { s with fab := { s.fab with inWait := (dropFirst (· == m) s.fab.inWait).2 } }

/-- A message is the rest of one whose packer its port holds already (R197). -/
def State.candEnds (s : State) (c : Cand) : Bool := s.finishes (c.pan / 8) (brineQ c.pan c.port c.vc) c.body

/-- The messages that could begin to enter bed b now, one of each port (R196, R206). -/
def State.goingIn (s : State) (b : Nat) : List Cand :=
  headsBy (fun c => c.port) ((s.cands b).filter (fun c =>
    !s.candEnds c && s.packerFree b (brineQ c.pan c.port c.vc) c.port c.body && s.claimable c))

/-- A message as a requester of the packers of bed b. -/
def State.packAsker (s : State) (b : Nat) (c : Cand) : Asker :=
  s.asker (bedArb b) c.port (c.port / 8) (match c.body with | .req r => r.anc | _ => false) c.stamp

/-- The message that enters the pool of bed b next: the rest of one that has its packer, or the one that the brine packer arbiter
grants (R196, R197). -/
def State.nextIn (s : State) (b : Nat) : Option (Cand × State) :=
  match (s.cands b).find? (fun c => s.candEnds c && s.packerFree b (brineQ c.pan c.port c.vc) c.port c.body) with
  | some c => some (c, s)
  | none =>
    let l := s.goingIn b
    let asks := l.map (s.packAsker b)
    match s.winner (bedArb b) asks with
    | none => none
    | some w => (l.find? (fun c => c.port == w.num)).map (fun c => (c, s.award (bedArb b) asks w))

/-- The messages held at the ports enter the pool of bed b one by one (R196). -/
def State.ingress (s : State) (b n : Nat) : State :=
  match n with
  | 0 => s
  | k + 1 =>
    match s.nextIn b with
    | none => s
    | some x =>
      match x.2.brinePut x.1.pan x.1.port x.1.vc x.1.body x.1.stamp with
      | none => s
      | some t => (t.candGone x.1).ingress b k

/-- The number of messages that may enter the brine pools. -/
def State.heldIn (s : State) : Nat :=
  (s.hinges.foldl (fun a h => a + h.2.outst.length + h.2.rxAns.length) 0) + (s.knuckles.foldl (fun a k => a + k.2.rx.length) 0)
    + 64 * s.fab.inWait.length

/-- Every bed's pool takes what it can. -/
def State.ingressAll (s : State) : State := if s.heldIn = 0 then s else forUpTo 8 (fun b t => (t.refusals b).ingress b (65 * t.heldIn)) s

/-! ### Credits (R262, R271, R290) -/

/-- Credits that may be returned now on a link: at most cap units of each of the first n channels in one header; request credits
are withheld while withheld says so (R141, R262, R271, R290). -/
def Link.dueNow (l : Link) (withheld : Bool) (cap n : Nat) : List (Nat × Nat) :=
  ((l.credDue.filter (fun c => !(withheld && c.1 == 0) && decide (0 < c.2))).map (fun c => (c.1, min cap c.2))).take n

/-- Credits returned in sequenced headers of their own, up to k of them, each for n channels at most (R263, R271, R290). -/
def Link.payCredits (l : Link) (withheld : Bool) (capRb cap n k : Nat) : Link :=
  match k with
  | 0 => l
  | k + 1 =>
    let due := l.dueNow withheld cap n
    if due.isEmpty || !l.up || decide (capRb ≤ l.occ) then l
    else
      let l1 := due.foldl (fun (l : Link) c =>
        { l with credDue := sset l.credDue c.1 (sget l.credDue c.1 0 - c.2) 0
                 credRx := sset l.credRx c.1 (sget l.credRx c.1 0 + c.2) 0 }) l
      (l1.push 1 (.credit due)).payCredits withheld capRb cap n k

/-- Request credits are withheld: an agent of the port is gone, or the device is in TRAIN (R141, R440). -/
def State.withheld (s : State) (p : Nat) : Bool := (s.hinge p).gone != 0 || s.mode.cur == .train

/-- The credits of a Hinge port's links returned. -/
def State.payHinge (s : State) (p : Nat) : State :=
  let w := s.withheld p
  s.updHinge p (fun h => { h with link0 := h.link0.payCredits w h.cap 63 4 20, link1 := h.link1.payCredits w h.cap 63 4 20 })

/-! ### Requests of the memory ports (R196, R314, R315, R418) -/

/-- Half h of a memory port. -/
def MemPort.half (x : MemPort) (h : Nat) : MHalf := if h = 0 then x.h0 else x.h1

/-- Half h of a memory port has its link up and its device enumerated (R312). -/
def MemPort.ready (x : MemPort) (h : Nat) : Bool := (x.half h).link == 2 && (x.half h).ready

/-- Bytes that a memory port sends, counted for the catalogue and the window (R418). -/
def State.mpSent (s : State) (m n : Nat) : State :=
  (s.updMp m (fun x => { x with bwOut := x.bwOut + n })).count (uMp m) 0x121 n

/-- Bytes that a memory port receives, counted for the catalogue and the window (R418). -/
def State.mpGot (s : State) (m n : Nat) : State :=
  (s.updMp m (fun x => { x with bwIn := x.bwIn + n })).count (uMp m) 0x120 n

/-- A request that meets an error is to be sent once more (R315). -/
def MReq.again (r : MReq) (now : Nat) : MReq := { r with resent := true, at_ := now, sent := false, first := false }

/-- The requests of memory port m that may go now, the oldest of each pan (R196). -/
def MemPort.waiting (x : MemPort) : List MReq :=
  headsBy (fun r => r.pan) (x.reqs.filter (fun r => !r.sent && x.ready r.half))

/-- One CXL.mem request of r sent at machine time now; a line takes two (R314). The time for its completion starts with the second
(R315). -/
def MReq.issue (r : MReq) (now : Nat) : MReq := if r.first then { r with sent := true, at_ := now } else { r with first := true }

/-- One CXL.mem request of port m's request r sent, and counted with its bytes (R314, R418, R420). -/
def State.mpIssue (s : State) (m : Nat) (r : MReq) : State :=
  let s1 := s.updMp m (fun x => { x with reqs := x.reqs.map (fun q => if q == r then q.issue s.now else q) })
  match r.kind with
  | 1 | 3 => ((s1.count (uMp m) 0x101).count (uMp m) 0x102 (b2n r.poison)).mpSent m 64
  | 2 => (s1.count (uMp m) 0x100).count (uMp m) 0x104 (b2n !r.first)
  | _ => s1.count (uMp m) 0x100

/-- The requests of memory port m that may go leave one by one, in the order in which its request arbiter grants them (R196). -/
def State.pumpMp (s : State) (m n : Nat) : State :=
  match n with
  | 0 => s
  | k + 1 =>
    let l := (s.mp m).waiting
    let asks := l.map (fun r => s.asker (mpArb m) r.pan (r.pan / 8) r.anc r.stamp)
    match (if l.isEmpty then none else s.winner (mpArb m) asks) with
    | none => s
    | some w =>
      match l.find? (fun r => r.pan == w.num) with
      | none => s
      | some r => ((s.award (mpArb m) asks w).mpIssue m r).pumpMp m k

/-! ### Closing (R282, R455) -/

/-- The control flits of a Hinge port's links that wait sent. -/
def Hinge.pumpCtl (h : Hinge) (now : Nat) : Hinge :=
  { h with link0 := h.link0.pumpCtl h.cap now true h.link0.ctlQ, link1 := h.link1.pumpCtl h.cap now true h.link1.ctlQ }

/-- The steps of a Knuckle close that need no message of the peer (R455): CLOSE_READY once nothing waits and everything
is acknowledged, CLOSE_DONE after both CLOSE_READYs. -/
def Knuckle.closeStep (k : Knuckle) (now : Nat) : Knuckle :=
  let l := k.link
  if l.st != .closing then k
  else
    let l1 := if l.closeReqSent && l.closeReqSeen && !l.closeReadySent && k.egress.isEmpty && k.wait.isEmpty && l.replay.isEmpty && l.ctlQ.isEmpty then
        { l with ctlQ := [0x11], closeReadySent := true } else l
    let l2 := if l1.closeReadySent && l1.closeReadySeen && !l1.closeDoneSent then
        { l1 with ctlQ := l1.ctlQ ++ [0x12], closeDoneSent := true } else l1
    { k with link := l2.pumpCtl 1024 now false l2.ctlQ }

/-! ### What leaves at once -/

/-- What a Hinge port sends at once: control flits, and the messages of its egress queue. -/
def State.sendHinge (s : State) (p : Nat) : State :=
  let s1 := s.updHinge p (fun h => h.pumpCtl s.now)
  s1.pumpPort p (s1.hinge p).egress.length

/-- What a Knuckle link sends at once: control flits, messages, credits; a message closed with ABORT is removed from its queue
(R299). -/
def State.sendKnuckle (s : State) (l : Nat) : State :=
  let skip := if s.holding then [0, 1, 2, 3, 4, 5] else []
  let s1 := s.updKn l (fun k => { k with link := k.link.pumpCtl 1024 s.now false k.link.ctlQ, egress := k.egress.filter (fun e => !e.abort) })
  let s2 := s1.pumpWrite l (s1.kn l).wait.length
  let s3 := (s2.pumpKn l skip (s2.kn l).egress.length).knStalls l
  s3.updKn l (fun k => { k with link := k.link.payCredits false 1024 511 2 20 }.closeStep s.now)

/-- What leaves the device at once: the egress queues of the Hinge ports and the Knuckle links drained as far as
credits and links allow, held requests released, and the brine pools filled (R152, R210, R272). -/
def State.pump (s : State) : State :=
  let s1 := (s.hinges.map (·.1)).foldl (fun t p => (t.sendHinge p).release p) s
  let s2 := ((s1.knuckles.map (·.1)).foldl State.drainRx s1).ingressAll
  let s3 := (s2.hinges.map (·.1)).foldl (fun t p => ((t.sendHinge p).hingeStalls p).payHinge p) s2
  let s4 := (s3.knuckles.map (·.1)).foldl State.sendKnuckle s3
  (s4.memports.map (·.1)).foldl (fun t m => t.pumpMp m (2 * (t.mp m).reqs.length)) s4

/-- The outcome of a command that goes on: the next state, with everything that leaves at once gone. -/
def next (s : State) : Host.Outcome State Fault Refusal := .next s.pump

end Sys2Proof.Machine
end

