-- ==== Sys2Proof/Machine/StackRead.lean ====
section
/-! DEFINITION. Reading and writing blocks of a stack channel: decoding with its counts, the layer buckets, erasures,
lost sets, and the waking of a resting stack (R146, R221 to R231, R239, R453). -/

namespace Sys2Proof.Machine

/-! ### The layer buckets and erasures (R226 to R231) -/

/-- Bucket j of bed b. -/
def State.bkt (s : State) (b j : Nat) : Nat := s.rf (bedOff b (0xB40 + 8 * (j / 4))) (16 * (j % 4) + 15) (16 * (j % 4))

/-- Bucket j of bed b given the value v. -/
def State.setBkt (s : State) (b j v : Nat) : State :=
  s.setRf (bedOff b (0xB40 + 8 * (j / 4))) (16 * (j % 4) + 15) (16 * (j % 4)) v

/-- THRESH of bed b (R245). -/
def State.eccThresh (s : State) (b : Nat) : Nat := max 1 (s.rf (bedOff b 0xB00) 47 32)

/-- Layer l of channel c of bed b marked erased by the given cause: its bucket is cleared and LAYER_ERASED written (R228,
R229, R246). -/
def State.markErased (s : State) (b c l cause : Nat) : State :=
  ((s.setRf (bedOff b 0xB08) (8 * c + 7) (8 * c) (0x80 + l)).setBkt b (18 * c + l) 0).logD (uBed b) 0 0x0104
    (c + 8 * l + 256 * cause)

/-- The spread of layer l of stack b, erased in SPREAD channels, to the channels that have no erasure (R230). -/
def State.spreadLayer (s : State) (b l : Nat) : State :=
  let spread := s.rf (bedOff b 0xB00) 11 8
  let n := ((List.range 8).filter (fun k => s.erased b k == some l)).length
  if (s.rv (bedOff b 0xB00)).testBit 0 ∧ 1 ≤ spread ∧ spread ≤ 8 ∧ spread ≤ n then
    forUpTo 8 (fun k t => if (t.erased b k).isNone then t.markErased b k l 1 else t) s
  else s

/-- A layer marked erased, and its spread (R228 to R230). -/
def State.eraseLayer (s : State) (b c l cause : Nat) : State := (s.markErased b c l cause).spreadLayer b l

/-- The recent-correction filter of channel c, newest first. -/
def State.filterOf (s : State) (b c : Nat) : List Nat := sget (s.bed b).filter c []

/-- A corrected block counted in the bucket of its layer, unless the filter holds it; the bucket may mark its layer
erased (R226, R228). The rule of R228 is applied at a count and at a write of the bucket; one that stands at or above THRESH when THRESH is
lowered or ERASE_AUTO set acts at the next of these (log entry 196). -/
def State.bucketCount (s : State) (b c l key : Nat) : State :=
  if (s.filterOf b c).contains key then s.count (uBed b) 0x118
  else
    let s1 := s.updBed b (fun x => { x with filter := sset x.filter c ((key :: s.filterOf b c).take 32) [] })
    let s2 := s1.setBkt b (18 * c + l) (satAdd (s1.bkt b (18 * c + l)) 1 65535)
    if s2.eccThresh b ≤ s2.bkt b (18 * c + l) ∧ (s2.rv (bedOff b 0xB00)).testBit 0 ∧ (s2.erased b c).isNone then
      s2.eraseLayer b c l 0
    else s2

/-- The place of a block as the details of R246 give it: channel, layer field, bank, row, block. -/
def placeDetail (c l key : Nat) : Nat :=
  c + 8 * l + 2 ^ 8 * (key / 256 % 16) + 2 ^ 12 * (key / 4096) + 2 ^ 25 * (key % 256)

/-- A correction recorded: at most one STACK_CE per channel per millisecond (R246). -/
def State.recordCe (s : State) (unit b c l key : Nat) : State :=
  let n := satAdd (sget (s.bed b).ceCnt c 0) 1 65535
  let at_ := sget (s.bed b).ceAt c 0
  if at_ = 0 ∨ 1000000 ≤ dt (at_ - 1) s.now then
    (s.updBed b (fun x => { x with ceCnt := sset x.ceCnt c 0 0, ceAt := sset x.ceAt c (s.now + 1) 0 })).logD unit 0 0x0101
      (placeDetail c l key + 2 ^ 33 * n)
  else s.updBed b (fun x => { x with ceCnt := sset x.ceCnt c n 0 })

/-- CHANNEL_EXHAUSTED raised for channel c, once (R229); e is its erased layer. -/
def State.exhaust (s : State) (b c e : Nat) : State :=
  if (s.bed b).exhRaised.testBit c then s
  else
    (s.updBed b (fun x => { x with exhausted := x.exhausted ||| 2 ^ c, exhRaised := x.exhRaised ||| 2 ^ c })).logD (uBed b) 2 0x0105
      (c + 8 * e)

/-- An uncorrectable block counted in the bucket of the channel's erased layer; at THRESH the channel is exhausted,
once (R229). -/
def State.exhaustCount (s : State) (b c : Nat) : State :=
  match s.erased b c with
  | none => s
  | some e =>
    let s1 := s.setBkt b (18 * c + e) (satAdd (s.bkt b (18 * c + e)) 1 65535)
    if s1.eccThresh b ≤ s1.bkt b (18 * c + e) then s1.exhaust b c e else s1

/-- What a decoded block does to the counts, buckets and records of its channel (R219 to R229, R246). unit is the
reader. -/
def State.noteBlock (s : State) (unit p key : Nat) (o : BlockOut) : State :=
  let b := p / 8
  let c := p % 8
  if o.ue then
    ((s.count (uBed b) (0x102 + 3 * c)).count (uBed b) 0x119 (if o.cause = 2 then 1 else 0)).exhaustCount b c
  else
    match o.corr with
    | some l => ((s.count (uBed b) (0x100 + 3 * c)).recordCe unit b c l key).bucketCount b c l key
    | none => if o.recon then s.count (uBed b) (0x101 + 3 * c) else s

/-- DETAIL of STACK_UE and STACK_UE_SUPERSEDED (R246). -/
def State.ueDetail (s : State) (p key : Nat) (o : BlockOut) : Nat :=
  placeDetail (p % 8) ((s.erased (p / 8) (p % 8)).getD 31) key + 2 ^ 33 * o.beats + 2 ^ 41 * o.cause

/-! ### Waking the stack, and reads (R222, R239, R453) -/

/-- A command issued to the stack of bed b at this time (R453). -/
def State.stackUsed (s : State) (b : Nat) : State := s.updBed b (fun x => { x with lastCmd := s.now })

/-- A request that needs a resting stack starts the exit; an entry already begun completes first (R453). After a thermal trip the
stacks stay in self-refresh (R452; log entry 204). -/
def State.wake (s : State) (b : Nat) : State :=
  let x := s.bed b
  if s.mode.tripped then s
  else if x.rest = 2 then s.setBed b { x with rest := 3, restAt := s.now }
  else if x.rest = 1 then s.setBed b { x with wakeReq := true }
  else s

/-- The stack of pan p's bed accepts commands. -/
def State.stackUp (s : State) (p : Nat) : Bool := (s.bed (p / 8)).rest == 0

/-- The block at a key of pan p read and decoded, with the cells disturbed by err first (R222). -/
def State.readBlock (s : State) (p key : Nat) (err : BitVec 1152) : BlockOut × State :=
  let s1 := s.updPan p (fun x => if err = 0 then x.openRow key else (x.setCell key (x.cell key ^^^ err)).openRow key)
  let o := s1.decodeAt p key
  (o, (s1.noteBlock p p key o).stackUsed (p / 8))

/-- The pan's own correction writeback, while DEMAND_WB is 1 (R239). -/
def State.demandWb (s : State) (p key : Nat) (o : BlockOut) : State :=
  if o.corr.isSome ∧ !o.ue ∧ (s.rv (bedOff (p / 8) 0xB00)).testBit 1 then
    (s.updPan p (fun x => x.setCell key (blockEncode o.line))).count p 0x11D
  else s

/-- A line written into a slot of a set. -/
def State.writeLine (s : State) (p psi sl : Nat) (d : BitVec 1024) : State :=
  (s.updPan p (fun x => (x.writeLine psi sl d).openRow (slotKey psi sl))).stackUsed (p / 8)

/-! ### Lost sets (R146, R223, R238) -/

/-- Set psi of pan p is lost: entered in the lost-set table with the given record, and RECOVER is entered; a
seventeenth is fatal (R146). -/
def State.loseSet (s : State) (p psi code detail : Nat) : State :=
  let x := s.pan p
  if x.lost.contains psi then s
  else if 16 ≤ x.lost.length then s.logD p 3 0x0011 psi
  else ((s.setPan p { x with lost := x.lost ++ [psi] }).logD p 2 code detail).containment

/-- Set psi of pan p is lost already. -/
def State.isLost (s : State) (p psi : Nat) : Bool := (s.pan p).lost.contains psi

/-! ### The combining buffer written back (R177, R179, R222) -/

/-- The newest copy of a set's metadata: on the die, or read from the stack and decoded; none when the set is lost or is
found uncorrectable now (R146, R222, R223). -/
def State.mdLook (s : State) (p psi : Nat) : Option (BitVec 1024) × State :=
  if s.isLost p psi then (none, s)
  else
    match (s.pan p).mdHeld psi with
    | some h => (some h.1, s)
    | none =>
      let r := s.readBlock p (slotKey psi 15) 0
      if r.1.ue then (none, r.2.loseSet p psi 0x0010 psi) else (some r.1.line, r.2)

/-- The write-back of an entry needs the stack: for its line's way, or to learn it. -/
def Pan.combNeeds (x : Pan) (e : CombEntry) : Bool :=
  x.dataEn && (match x.mdHeld e.psi with
    | some h => (findWay h.1 e.tag).any (fun a => a.2.v)
    | none => true)

/-- A combining-buffer entry put into the write buffer, counted by its cause; it stays while the buffer cannot take it. -/
def State.combSpill (s : State) (p : Nat) (e : CombEntry) (cause : Nat) : State :=
  match ((s.pan p).combDrop e.psi e.tag).wbPut e.psi e.tag e.data false s.stamp16 with
  | some y => (s.setPan p y).count p cause
  | none => s

/-- A combining-buffer entry written back and released, counted by its cause (R179): into the way of its line, or into the
write buffer while DATA_EN is 0 or when no way holds the line's data, a HELD entry of the line taking the data in either case. It stays
while the stack rests, while the line's entry is SENT and while the write buffer cannot take it (R79; log entry 17). The data of a lost set is discarded (R146). -/
def State.combBack (s : State) (p : Nat) (e : CombEntry) (cause : Nat) : State :=
  let x := s.pan p
  if !x.dataEn then s.combSpill p e cause
  else if x.combNeeds e && !s.stackUp p then s
  else
    let r := s.mdLook p e.psi
    let gone := r.2.updPan p (fun y => y.combDrop e.psi e.tag)
    match r.1 with
    | none => gone.count p cause
    | some b =>
      match findWay b e.tag with
      | some (w, ent) =>
        if !ent.v then r.2.combSpill p e cause
        else if x.wbSent e.psi e.tag then s
        else ((gone.writeLine p e.psi w e.data).updPan p (fun y => y.wbKeep e.psi e.tag e.data false)).count p cause
      | none => r.2.combSpill p e cause

/-- Every entry that is due written back, as far as that can be done now (R179). -/
def State.combDrain (s : State) (p : Nat) : State :=
  if (s.pan p).combDue then
    let s1 := (s.pan p).comb.foldl (fun t e => t.combBack p e 0x159) s
    s1.updPan p (fun x => { x with combDue := !x.comb.isEmpty })
  else s

/-- The stack woken for an entry whose write-back awaits it. -/
def State.combWake (s : State) (p psi tag : Nat) : State :=
  match (s.pan p).combFind psi tag with
  | some e => if (s.pan p).combNeeds e then s.wake (p / 8) else s
  | none => s

/-! ### The rake's schedule (R235, R240) -/

/-- PASS_S of bed b (R245). -/
def State.passS (s : State) (b : Nat) : Nat := min 604800 (max 1200 (s.rf (bedOff b 0xC80) 39 20))

/-- Nanoseconds from the start of a pass of the given length to the visit of index i on channel c (R235). -/
def rakeDue (pass c i : Nat) : Nat := (8 * i + c) * pass * 1000000000 / 524288

/-- At machine time now, n nanoseconds and more have passed since the instant t0, which may lie ahead (R235, R406). -/
def elapsed (t0 n now : Nat) : Bool := reached now t0 && decide (n ≤ dt t0 now)

/-- The rake of bed b is behind by more than one row interval, on any channel whose pass is not over (R240). -/
def State.rakeBehind (s : State) (b : Nat) : Bool :=
  match (s.bed b).rakeT0 with
  | none => false
  | some t0 => (List.range 8).any (fun c =>
      decide (sget (s.bed b).rakePos c 0 < 65536) && elapsed t0 (rakeDue (s.passS b) c (sget (s.bed b).rakePos c 0 + 1) + 1) s.now)

/-- Whether a channel's rake visits its next row now (R235, R240): the mode and the rake on, the stack not at rest, and the
row's time reached; a rake that is behind also waits 2 us after the channel's last visit. -/
def State.rowDue (s : State) (b ch : Nat) : Bool :=
  let x := s.bed b
  let due := match x.rakeT0 with
    | none => false
    | some t0 => elapsed t0 (rakeDue (s.passS b) ch (sget x.rakePos ch 0)) s.now &&
        (!s.rakeBehind b || decide (2000 ≤ dt (sget x.rakeLast ch 0) s.now))
  s.mode.cur.runs && (s.rv (bedOff b 0xC80)).testBit 0 && x.rest == 0 && due && decide (sget x.rakePos ch 0 < 65536)

/-- The row visit of a channel's rake that is due and has not been performed (R184). -/
def State.rowReq (s : State) (b ch : Nat) : Option RowReq := sget (s.bed b).rowReq ch none

/-- The rake of bed b stamps the row visits that have become due (R184). -/
def State.stampRows (s : State) (b : Nat) : State :=
  (List.range 8).foldl (fun t c =>
    if t.rowDue b c && (t.rowReq b c).isNone then
      t.updBed b (fun x => { x with rowReq := sset x.rowReq c (some { stamp := t.stamp16 }) none })
    else t) s

/-! ### Free lines -/

/-- A line whose value the specification leaves open: the free value of the counter (log entry 3). -/
def State.freeLine (s : State) : BitVec 1024 × State :=
  ((Config.freeBlock s.freeIx).setWidth 1024, { s with freeIx := s.freeIx + 1 })

end Sys2Proof.Machine
end

