-- ==== Sys2Proof/Machine/Home.lean ====
section
/-! DEFINITION. Transactions at the home, part 1: what a tracker entry is asked for, snoops and invalidations, the
choice of a victim, fetching metadata, and the pieces that end a transaction (R60 to R83, R97 to R119, R129 to R148). -/

namespace Sys2Proof.Machine

/-! ### What a transaction asks for -/

/-- The request opcode a transaction is performed as: a WrInvPart with all mask bits set is a WrInvFull (R82). -/
def Trk.op (t : Trk) : Nat :=
  if t.rq.opc = 5 ∧ t.rq.mask = BitVec.allOnes 128 then 4 else t.rq.opc.toNat

/-- The request writes no data of its own: an empty byte mask or no enabled lane (R82, R167). -/
def Trk.noData (t : Trk) : Bool :=
  (t.op == 5 && t.rq.mask == 0) || ((t.op == 7 || t.op == 8) && noLane t.rq.atom)

/-- AtomicH or AtomicM. -/
def Trk.isAtomic (t : Trk) : Bool := t.op == 7 || t.op == 8

/-- The request is posted (R101). -/
def Trk.posted (t : Trk) : Bool := reqPosted t.rq

/-- The agents that an S entry names (R105). -/
def Way.sharers (e : Way) : List (BitVec 12) := [e.pta, e.ptb, e.ptc].eraseDups

/-- An Upgrade whose requester is a pointer of the S line, which is answered without data (R113). -/
def Trk.pureUpgrade (t : Trk) : Bool :=
  match t.ent with
  | some e => t.op == 2 && e.ust == 1 && e.sharers.contains t.rq.src
  | none => false

/-- The line was found in M. -/
def Trk.wasM (t : Trk) : Bool := match t.ent with | some e => e.ust == 2 | none => false
/-- The line was found in S. -/
def Trk.wasS (t : Trk) : Bool := match t.ent with | some e => e.ust == 1 | none => false
/-- The line was found in P. -/
def Trk.wasP (t : Trk) : Bool := match t.ent with | some e => e.ust == 3 | none => false

/-- The old data of the line is needed (R64, R113, R167). -/
def Trk.needsOld (t : Trk) : Bool :=
  match t.kind with
  | .prefetch => true
  | .req =>
    match t.op with
    | 0 | 1 | 3 => true
    | 2 => !t.pureUpgrade
    | 5 | 7 | 8 => !t.noData
    | _ => false
  | _ => false

/-- Invalidations of the line are all answered. -/
def Inv.done (i : Inv) : Bool := i.grp.isNone && !i.eng && i.snps.all (fun x => x.st == .done)

/-- A posted WrInvFull or WrInvPart that found the line in S does not wait for its snoops (R103), unless a stack block of
the line is uncorrectable, whose sharers go first (R224). -/
def Trk.detaches (t : Trk) : Bool :=
  t.kind == .req && (t.rq.opc == 4 || t.rq.opc == 5) && t.posted && t.wasS && !t.ueLine

/-! ### Busy lines (R74, R97, R99) -/

/-- The entry's transaction is under way. -/
def Trk.live (t : Trk) : Bool := t.ph != .chained && t.ph != .detached

/-- The tracker entry keeps the line (psi, tag) busy, as its own line or as its victim. -/
def Trk.holds (t : Trk) (psi tag : Nat) : Bool :=
  t.live && t.psi == psi &&
    (t.tag == tag || (match t.vict with | some v => !v.gone && v.ent.tag == tag | none => false))

/-- The line is busy. -/
def Pan.busy (x : Pan) (psi tag : Nat) : Bool := x.trks.any (fun t => t.holds psi tag)

/-- A detached invalidation of the line remains (R103). -/
def Pan.detachedOn (x : Pan) (psi tag : Nat) : Bool :=
  x.trks.any (fun t => t.ph == .detached && t.psi == psi && t.tag == tag)

/-- An entry's transaction has not been applied to the metadata yet: it waits in a chain, for its set's metadata, or for the last cell
of its request (R97, R152). -/
def Trk.unstarted (t : Trk) : Bool := t.ph == .chained || t.ph == .mdWait || t.ph == .mdRead || t.ph == .cut

/-- A request of the same agent and OCL, admitted before order n, has not started (R152). -/
def Pan.earlierWaits (x : Pan) (src : BitVec 12) (ocl : BitVec 4) (n : Nat) : Bool :=
  x.trks.any (fun t => t.unstarted && t.kind == .req && t.rq.src == src && t.rq.ocl == ocl && decide (t.ord < n))

/-- A line is to become P before any other transaction starts on it (R244): its own waits for a tracker entry, or for the line. -/
def Pan.dueP (x : Pan) (psi tag : Nat) : Bool :=
  x.poisWait.contains (psi, tag) || x.trks.any (fun u => u.kind == .rakeUe && u.pois && u.ph == .chained && u.psi == psi && u.tag == tag)

/-- Whether waiter t may start now: its line is free and not about to become P (R244), no detached invalidation holds it back, and no earlier request
of its agent and OCL waits (R97, R103, R152, R193). -/
def Pan.mayStart (x : Pan) (t : Trk) : Bool :=
  !x.busy t.psi t.tag &&
    (t.kind == .rakeUe || !x.dueP t.psi t.tag) &&
    !(t.kind == .req && (t.op == 1 || t.op == 2) && x.detachedOn t.psi t.tag) &&
    !(t.kind == .req && x.earlierWaits t.rq.src t.rq.ocl t.ord)

/-- The modes in which the home runs its protocol, as long as no fatal record stands (R425, R429). -/
def State.homeOpen (s : State) : Bool := s.mode.cur.runs && !s.holding

/-- The pipeline goes on with the transactions under way: those of the home, and in TEST those of the engine's commands (R372). -/
def State.pipeOpen (s : State) : Bool := (s.mode.cur.runs || s.mode.cur == .test) && !s.holding

/-! ### Records of the home (R142, R159) -/

/-- A record that names a line, by its system address, and an agent (log entry 15). -/
def State.lineRec (s : State) (p psi tag cls code : Nat) (agent : Option (BitVec 12)) (detail : Nat) : State :=
  s.logErr { unit := p, cls := cls, code := code, addr := some (false, s.lineSpa p psi tag),
             agent := agent.map (·.toNat), detail := detail }

/-- A poisoning: the record of R142 and the count of its source. -/
def State.poisonRec (s : State) (p psi tag code src : Nat) (agent : Option (BitVec 12)) (detail : Nat) : State :=
  (s.count p (0x137 + src)).lineRec p psi tag 1 code agent detail

/-- The write-done notice of a posted request that pan p has performed (R102). -/
def State.wdone (s : State) (p : Nat) (src : BitVec 12) (tag : BitVec 10) : State := s.notice (agDev src) src (.wdone tag) (some p)

/-- A message of pan p to an agent. -/
def State.say (s : State) (p : Nat) (m : OutMsg) : State := s.toAgent m (some p)

/-! ### Hold windows (R117, R118) -/

/-- The hold window of an agent on a line. -/
def Pan.hold (x : Pan) (psi tag : Nat) (a : BitVec 12) : Option HoldWin :=
  x.holds.find? (fun h => h.psi == psi && h.tag == tag && h.agent == a)

/-- The hold window of an agent on a line ended. -/
def Pan.closeHold (x : Pan) (psi tag : Nat) (a : BitVec 12) : Pan :=
  { x with holds := x.holds.filter (fun h => !(h.psi == psi && h.tag == tag && h.agent == a)) }

/-- The window nearest its end. -/
def nearestEnd (l : List HoldWin) : Option HoldWin :=
  l.foldl (fun acc h => match acc with
    | none => some h
    | some g => if h.until_ < g.until_ then some h else some g) none

/-! ### Snoops (R92, R109, R134, R139) -/

/-- The number of a snoop opcode (R92). -/
def snpNum (o : SnpOp) : Nat := match o with | .inv => 0 | .data => 1 | .invData => 2 | .cur => 3

/-- The home tracker tag of entry k of pan p (R90). -/
def htagOf (p k : Nat) : BitVec 16 := BitVec.ofNat 16 (p * 1024 + k)

/-- A snoop sent (R92, R127). -/
def State.sendSnp (s : State) (p k : Nat) (op : SnpOp) (a : BitVec 12) (spa : Nat) : State :=
  (s.say p (.snp op a (BitVec.ofNat 52 spa) (BitVec.ofNat 6 s.me) (htagOf p k))).count p (0x127 + snpNum op)

/-- The bit of the agent in the pan's gone table (R138). -/
def State.isGone (s : State) (p : Nat) (a : BitVec 12) : Bool := (s.pan p).gone.contains a.toNat

/-- A snoop to an agent about a line: sent at once, or held by the agent's hold window (R117). -/
def State.issue (s : State) (p k psi tag : Nat) (op : SnpOp) (a : BitVec 12) (owner : Bool) : Snp × State :=
  if ((s.pan p).hold psi tag a).isSome then
    ({ tgt := .agent a, op := op, owner := owner, st := .held }, s.count p 0x12C)
  else
    ({ tgt := .agent a, op := op, owner := owner, st := .sent, since := s.now }, s.sendSnp p k op a (s.lineSpa p psi tag))

/-- The snoop of an M owner; the owner's data is lost when it is gone, and only a WrInvFull does without it (R139). -/
def State.invOwner (s : State) (p k psi tag : Nat) (o : BitVec 12) (op : SnpOp) (needData : Bool) : Inv × State :=
  if s.isGone p o then
    let s1 := s.count p 0x136
    if needData then ({ lost := true }, s1.poisonRec p psi tag 0x000B 6 (some o) 0) else ({}, s1)
  else
    let r := s.issue p k psi tag op o true
    ({ snps := [r.1] }, r.2)

/-- SnpInv to the given agents but those that are gone (R139). -/
def State.invEach (s : State) (p k psi tag : Nat) (l : List (BitVec 12)) : List Snp × State :=
  l.foldl (fun (acc : List Snp × State) a =>
    if acc.2.isGone p a then (acc.1, acc.2.count p 0x136)
    else let r := acc.2.issue p k psi tag .inv a false; (acc.1 ++ [r.1], r.2)) ([], s)

/-- The invalidation of an S line: SnpInv to each pointer but skip, or a group invalidation with EXCL when OVF is 1
(R109, R113, R116). -/
def State.invSharers (s : State) (p k psi tag : Nat) (e : Way) (skip : Option (BitVec 12)) (excl : BitVec 12) :
    Inv × State :=
  if e.ovf then ({ grp := some excl }, s)
  else
    let r := s.invEach p k psi tag (e.sharers.filter (fun a => some a != skip))
    ({ snps := r.1 }, r.2)

/-- An agent is non-caching, which the home never snoops (R123); one of another device as that device's image declares it (log entry
16). -/
def State.nonCaching (s : State) (a : BitVec 12) : Bool :=
  if agDev a = s.me then s.agNc (agPort a) (agNum a) else Config.remoteNonCaching a

/-- EXCL of a request's group invalidation: the requester when it is a caching agent, else 0xFFF (R109, R127). -/
def State.exclOf (s : State) (a : BitVec 12) : BitVec 12 := if s.nonCaching a then 0xFFF else a

/-- The invalidation of a tracker entry: of its line, or of its victim. -/
def Trk.getInv (t : Trk) (v : Bool) : Inv := if v then (match t.vict with | some x => x.inv | none => {}) else t.inv

/-- The invalidation of a tracker entry replaced. -/
def Trk.setInv (t : Trk) (v : Bool) (i : Inv) : Trk :=
  if v then { t with vict := t.vict.map (fun x => { x with inv := i }) } else { t with inv := i }

/-- The GROUP_INV event of an invalidation handed to the engine, when its queue has room (R109, R368, R369). -/
def State.stGroup (s : State) (p k : Nat) (v : Bool) : State :=
  match (s.pan p).trk k with
  | none => s
  | some t =>
    let i := t.getInv v
    match i.grp with
    | none => s
    | some ex =>
      let e := if v then (match t.vict with | some x => x.ent | none => {}) else t.ent.getD {}
      let tag := if v then e.tag else t.tag
      let r := s.raiseFg p { typ := 0x01, trk := k, psi := t.psi, tag := tag,
                             agent := ex, addr := BitVec.ofNat 52 (s.lineSpa p t.psi tag),
                             g := BitVec.ofNat 64 (s.groupOf p t.psi tag), pta := e.pta, ptb := e.ptb, ptc := e.ptc,
                             victim := v }
      if r.1 then
        (r.2.updTrk p k (fun t => t.setInv v { i with grp := none, eng := true })).count p 0x126
      else s

/-! ### The directory after a transaction (R105, R106) -/

/-- An upstream state with its pointers. -/
structure Dir where
  ust : Nat := 0
  ovf : Bool := false
  pta : BitVec 12 := 0
  ptb : BitVec 12 := 0
  ptc : BitVec 12 := 0
  deriving DecidableEq, Repr

/-- M with an owner. -/
def Dir.m (a : BitVec 12) : Dir := { ust := 2, pta := a, ptb := a, ptc := a }

/-- S with the given sharers, at most three, or I with none (R105). -/
def Dir.s (l : List (BitVec 12)) : Dir :=
  match l with
  | [] => {}
  | [a] => { ust := 1, pta := a, ptb := a, ptc := a }
  | [a, b] => { ust := 1, pta := a, ptb := b, ptc := a }
  | a :: b :: c :: _ => { ust := 1, pta := a, ptb := b, ptc := c }

/-- P. -/
def Dir.p : Dir := { ust := 3 }

/-- The directory part of an entry. -/
def Way.dir (e : Way) : Dir := { ust := e.ust, ovf := e.ovf, pta := e.pta, ptb := e.ptb, ptc := e.ptc }

/-- The entry with another directory part. -/
def Way.withDir (e : Way) (d : Dir) : Way :=
  { e with ust := d.ust, ovf := d.ovf, pta := d.pta, ptb := d.ptb, ptc := d.ptc }

/-- R106: requester r added to an S entry; the new directory, or none when S is not granted. g is the group. A line with OVF 1 keeps its
pointers, a free one among them, as the row of R113 has it (log entry 189). -/
def addSharer (g : Nat) (e : Way) (r : BitVec 12) : Option Dir :=
  let inG := g.testBit (agDev r)
  if r = e.pta ∨ r = e.ptb ∨ r = e.ptc then some e.dir
  else if e.ovf then (if inG then some e.dir else none)
  else if e.ptb = e.pta then some { e.dir with ptb := r }
  else if e.ptc = e.pta then some { e.dir with ptc := r }
  else if inG then some { e.dir with ovf := true }
  else none

/-! ### Choosing a way (R72, R73) -/

/-- What R73 finds: a free way, a victim, or nothing. -/
inductive Pick where
  | free (w : Nat)
  | victim (w : Nat) (e : Way)
  | empty
  deriving DecidableEq, Repr

/-- The ways of a set that an outstanding fill targets, with the class of the incoming line. -/
def Pan.reservedWays (x : Pan) (psi : Nat) : List (Nat × Nat) :=
  x.trks.filterMap (fun t =>
    if t.live && t.psi == psi && t.alloc then t.way.map (fun w => (w, t.rq.pcls.toNat)) else none)

/-- Whether way a is a better victim than way b: higher RAGE, then D 0, then the lower number (R73). -/
def betterVictim (a b : Nat × Way) : Bool :=
  if a.2.rage ≠ b.2.rage then decide (b.2.rage < a.2.rage)
  else if a.2.d ≠ b.2.d then !a.2.d
  else decide (a.1 < b.1)

/-- The best victim of a list. -/
def bestVictim (l : List (Nat × Way)) : Option (Nat × Way) :=
  l.foldl (fun acc a => match acc with
    | none => some a
    | some b => if betterVictim a b then some a else some b) none

/-- The ways of the first upstream tier, in the order I, S, M, P, that is not empty. -/
def firstTier (l : List (Nat × Way)) : List (Nat × Way) :=
  match [0, 1, 2, 3].find? (fun u => l.any (fun a => a.2.ust == u)) with
  | some u => l.filter (fun a => a.2.ust == u)
  | none => []

/-- R73: the way for an allocation of class c in set psi. -/
def State.pick (s : State) (p psi c : Nat) : Pick :=
  let x := s.pan p
  let ws := mdWays (x.md psi)
  let res := x.reservedWays psi
  let isRes := fun w => res.any (fun r => r.1 == w)
  let cand := ws.filter (fun a => !isRes a.1 && !(!a.2.free && x.busy psi a.2.tag))
  let cnt := fun k => (res.filter (fun r => r.2 == k)).length +
    (ws.filter (fun a => !isRes a.1 && !a.2.free && a.2.pcls == k)).length
  let below := decide (cnt c < s.quota p c)
  match (if below then cand.find? (fun a => a.2.free) else none) with
  | some a => .free a.1
  | none =>
    let pool := if below then cand else cand.filter (fun a => !a.2.free && a.2.pcls == c)
    let t := firstTier pool
    let above := t.filter (fun a => decide (s.quota p a.2.pcls < cnt a.2.pcls))
    match bestVictim (if above.isEmpty then t else above) with
    | some a => .victim a.1 a.2
    | none => .empty

/-- The ageing of a set when a victim of age r is taken (R73). -/
def ageSet (r : Nat) (b : BitVec 1024) : BitVec 1024 :=
  (mdWays b).foldl (fun acc a =>
    if a.2.free then acc else mdSetWord acc a.1 { a.2 with rage := min 7 (a.2.rage + (7 - r)) }.toNat) b

/-- HINT of class c in pan p: 11 acts as 00 (R72). -/
def State.hintOf (s : State) (p c : Nat) : Nat :=
  let h := s.rf (panOff p 0x418) (2 * c + 1) (2 * c)
  if h = 3 then 0 else h

/-- RAGE at insertion (R72). -/
def insertAge (hint : Nat) (prefetch : Bool) : Nat :=
  if prefetch then (if hint = 2 then 7 else 6)
  else match hint with | 1 => 2 | 2 => 7 | _ => 5

/-- RAGE at a demand hit (R72). -/
def promoteAge (hint : Nat) : Nat := if hint = 2 then 3 else 0

/-- A hit of a demand request on a way: RAGE is promoted, but not by a request without data, and a prefetched line becomes
a useful one (R72, R82). -/
def State.demandHit (s : State) (p psi w : Nat) (e : Way) (noData : Bool) : State :=
  (s.putWay p psi w { e with rage := if noData then e.rage else promoteAge e.hint, pf := false }).count p 0x117
    (if e.pf then 1 else 0)

/-- A way taken from its line: free, its stale class kept (R55, R73). -/
def Way.freed (e : Way) : Way := { (e.withDir {}) with v := false, d := false, pf := false }

/-- The displacement of a way begun (R74, R116): the victim record of tracker entry k, with its invalidation. -/
def State.startVictim (s : State) (p k psi w : Nat) (e : Way) : State :=
  let r : Inv × State :=
    if e.ust = 1 then s.invSharers p k psi e.tag e none 0xFFF
    else if e.ust = 2 then s.invOwner p k psi e.tag e.pta .invData true
    else ({}, s)
  ((r.2.updTrk p k (fun t => { t with vict := some { way := w, ent := e, inv := r.1 } })).count p 0x118
    (if e.pf then 1 else 0)).stGroup p k true

/-- The way that R73 picks taken for tracker entry k; false when the allocation must wait. -/
def State.takeWay (s : State) (p k : Nat) (t : Trk) (pk : Pick) : State :=
  match pk with
  | .empty => s.updTrk p k (fun t => { t with allocWait := true })
  | .free w => s.updTrk p k (fun t => { t with alloc := true, allocWait := false, way := some w })
  | .victim w e =>
    ((s.updTrk p k (fun t => { t with alloc := true, allocWait := false, way := some w })).mdChange p t.psi
      (ageSet e.rage)).startVictim p k t.psi w { e with rage := min 7 (e.rage + (7 - e.rage)) }

/-! ### Requests to the memory ports (R78, R313 to R315) -/

/-- The memory port that serves a line, and the half. -/
def State.linePort (s : State) (p psi tag : Nat) : Option (Nat × Nat) := s.mpOf (localOf p psi tag)

/-- The port is retired (R487). -/
def State.mpRetired (s : State) (m : Nat) : Bool := s.img.retireMp.testBit m

/-- The record of a failed memory request (R315). -/
def State.reqFail (s : State) (m half : Nat) (write : Bool) (cause : Nat) : State :=
  (s.count (uMp m) 0x106).logD (uMp m) 2 0x0310 (2 * m + half + 16 * b2n write + 32 * cause)

/-- The retired memory port that serves a line, and the half: a request for it fails at once, as on a link that is down (R487). -/
def State.portGone (s : State) (p psi tag : Nat) : Option (Nat × Nat) := (s.linePort p psi tag).filter (fun x => s.mpRetired x.1)

/-- A request of pan p, with the stamp and the ancient bit given, that waits at the memory port of a line for the port's request
arbiter, and for its target's link while that is down (R196, R315); poison is that of a write's data. An address that no decoder
holds is recorded and gets no request (R313). -/
def State.memReq (s : State) (p k kind psi tag : Nat) (stamp : BitVec 16) (anc : Bool) (poison : Bool := false) : State :=
  match s.linePort p psi tag with
  | none => s.logD (uMp 0) 2 0x0312 0
  | some (m, h) =>
    (s.updMp m (fun x => { x with reqs := x.reqs ++
      [{ pan := p, kind := kind, trk := k, psi := psi, tag := tag, half := h, at_ := s.now, sent := false, poison := poison,
         stamp := stamp, anc := anc }] })).xbarOut (if kind = 1 then 144 else 16)

/-- The outstanding request of a kind for tracker entry k, at any port: the port and the request. -/
def State.findMemReq (s : State) (f : MReq → Bool) : Option (Nat × MReq) :=
  s.memports.findSome? (fun x => (x.2.reqs.find? f).map (fun r => (x.1, r)))

/-- The first outstanding request that satisfies f removed. -/
def State.dropMemReq (s : State) (f : MReq → Bool) : State :=
  match s.findMemReq f with
  | none => s
  | some (m, _) => s.updMp m (fun x => { x with reqs := (dropFirst f x.reqs).2 })

/-- The first outstanding request that satisfies f changed by g. -/
def State.updMemReq (s : State) (f : MReq → Bool) (g : MReq → MReq) : State :=
  match s.findMemReq f with
  | none => s
  | some (m, r) => s.updMp m (fun x => { x with reqs := x.reqs.map (fun q => if q == r then g q else q) })

/-- The read of backing memory for a tracker entry; at a retired port it fails at once, and its data is poisoned (R315, R487). -/
def State.memRead (s : State) (p k : Nat) (t : Trk) : State :=
  match s.portGone p t.psi t.tag with
  | some (m, h) =>
    let f := s.freeLine
    (f.2.updTrk p k (fun t => { t with spec := some (f.1, true, m) })).reqFail m h false 1
  | none =>
  (s.updTrk p k (fun t => { t with mem := true })).memReq p k 0 t.psi t.tag t.rq.stamp t.rq.anc

/-- A read of backing memory sent early under R65 that is not needed: its data is discarded, and counted, when it arrives,
or now when it has arrived already. -/
def State.dropSpec (s : State) (p k : Nat) : State :=
  match (s.pan p).trk k with
  | none => s
  | some t =>
    if t.spec.isSome then (s.updTrk p k (fun t => { t with spec := none })).count p 0x111
    else if t.mem then
      (s.updTrk p k (fun t => { t with mem := false })).updMemReq (fun r => r.pan == p && r.trk == k && r.kind == 0)
        (fun r => { r with kind := 5 })
    else s

/-! ### Answers to the requester -/

/-- The agents whose cleanup is complete on pan p are reported; the last pan of the device tells the agent's port (R141). -/
def State.cleanReport (s : State) (p : Nat) : State :=
  if (s.pan p).trks.any (fun t => t.kind == .clean) then s
  else
    let fin := (s.pan p).cleanLeft.filter (fun c => c.2.2 == 2 ^ 20)
    let s1 := s.updPan p (fun x => { x with cleanLeft := x.cleanLeft.filter (fun c => c.2.2 != 2 ^ 20) })
    fin.foldl (fun t c =>
      let v := setBits (sget t.fab.cleanDone c.1 0) p p 1
      if v = 2 ^ 64 - 1 then
        ({ t with fab := { t.fab with cleanDone := sset t.fab.cleanDone c.1 0 0 } }).notice (c.1 / 64) (BitVec.ofNat 12 c.1) .cleaned (some p)
      else { t with fab := { t.fab with cleanDone := sset t.fab.cleanDone c.1 v 0 } }) s1

/-- A tracker entry returned; the completion of a request is counted, and the last line of a cleanup reports it (R141). -/
def State.endTrk (s : State) (p k : Nat) : State :=
  let kind := ((s.pan p).trk k).map (fun t => t.kind)
  let s1 := (s.updPan p (fun x => x.dropTrk k)).count p 0x10A (if kind = some .req then 1 else 0)
  if kind = some .clean then s1.cleanReport p else s1

/-- The answer of a request whose set is lost (R146), and its end. -/
def State.lostReply (s : State) (p : Nat) (t : Trk) : State :=
  let s1 :=
    match t.kind with
    | .req =>
      if t.posted then s.wdone p t.rq.src t.rq.tag
      else if t.op = 4 ∨ t.op = 5 then s.say p (.ack t.rq.src t.rq.tag 0)
      else s.say p (.poisoned t.rq.src t.rq.tag)
    | _ => s
  (s1.dropSpec p t.id).endTrk p t.id

/-- Nack of a request by pan p, with the stamp that its port took or kept and its ancient bit settled (R91, R120, R121, R187). -/
def State.nackReq (s : State) (p : Nat) (r : Req) (rsn retry : Nat) : State :=
  (s.count p 0x003 (b2n (s.ripe r))).say p (.nack r.src r.tag
    { ncnt := BitVec.ofNat 8 (satAdd r.ncnt.toNat 1 255), stamp := r.stamp,
      anc := r.anc || s.ancient r.stamp.toNat, retry := BitVec.ofNat 12 retry, rsn := BitVec.ofNat 3 rsn })

/-! ### Fetching the metadata (R60 to R65) -/

/-- A block put into way j of its metadata-cache set. -/
def Pan.mdcInstall (x : Pan) (psi j : Nat) (blk : BitVec 1024) (dirty : Bool) : Pan :=
  (x.setMdcWay (psi % 1024) j { valid := true, dirty := dirty, fill := false, tag := psi / 1024, blk := blk }).mdcTouch
    (psi % 1024) j

/-- A way of the metadata-cache set of psi made ready for a new block, the lowest invalid one first (log entry 36): the way, with its dirty block moved to the
write queue; none when every block is pinned (true) or the write queue is full (false). -/
def State.mdcRoom (s : State) (p psi : Nat) : Except Bool (Nat × State) :=
  let x := s.pan p
  let c := psi % 1024
  match (List.range 8).find? (fun j => let w := x.mdcWay c j; !w.valid && !w.fill) with
  | some j => .ok (j, s)
  | none =>
    match plruPick (sget x.plru c 0) (x.mdcEvictable c) with
    | none => .error true
    | some j =>
      let w := x.mdcWay c j
      if w.dirty then
        if x.mdwq.length < 16 then
          .ok (j, s.setPan p { x with mdwq := x.mdwq ++ [{ psi := w.tag * 1024 + c, blk := w.blk, at_ := s.now, stamp := s.stamp16 }] })
        else .error false
      else .ok (j, s)

/-- The pan uses its way predictor (R87). -/
def State.wpEn (s : State) (p : Nat) : Bool := (s.rv (panOff p 0x400)).testBit 1

/-- The metadata-cache access of a tracker entry that is about to run: true when its set's block is in the cache.
Otherwise the entry waits for a way or for the stack (R61, R62, R65); one that joins a read of its set already under way sends no
speculative read of backing memory (log entry 190). Every request that may need its line's old data is sent
ahead to backing memory (log entry 38). -/
def State.mdAccess (s : State) (p k : Nat) (first : Bool) : Bool × State :=
  match (s.pan p).trk k with
  | none => (false, s)
  | some t =>
    let x := s.pan p
    match x.mdcFind t.psi with
    | some j =>
      (true, (s.setPan p ((x.mdcTouch (t.psi % 1024) j).updTrk k (fun t => { t with ph := .run }))).count p 0x10C
        (if first then 1 else 0))
    | none =>
      let s1 := s.count p 0x10D (if first then 1 else 0)
      if (x.mdcFilling t.psi).isSome then (false, s1.updTrk p k (fun t => { t with ph := .mdRead }))
      else
        let wait := fun (pinned : Bool) (s2 : State) =>
          (s2.updTrk p k (fun t => { t with ph := .mdWait, pinWait := pinned })).count p 0x112 (if pinned && !t.pinWait then 1 else 0)
        match x.mdwq.find? (fun e => e.psi == t.psi) with
        | some e =>
          let s2 := s1.setPan p { x with mdwq := x.mdwq.filter (fun q => q.psi != t.psi) }
          match s2.mdcRoom p t.psi with
          | .error pinned => (false, wait pinned s1)
          | .ok (j, s3) =>
            (true, (s3.updPan p (fun y => (y.mdcInstall t.psi j e.blk true).updTrk k (fun t => { t with ph := .run }))).count
              p 0x10E)
        | none =>
          match s1.mdcRoom p t.psi with
          | .error pinned => (false, wait pinned s1)
          | .ok (j, s2) =>
            let s3 := s2.updPan p (fun y => (y.setMdcWay (t.psi % 1024) j { fill := true, tag := t.psi / 1024 }).updTrk k
              (fun t => { t with ph := .mdRead, reads := t.reads ++ [.md] }))
            let s4 := s3.wake (p / 8)
            if t.kind == .req && t.needsOld && s.wpEn p && (s.rv (panOff p 0x400)).testBit 2 &&
                x.predict t.psi t.tag == 15 && (x.wbFind t.psi t.tag).isNone then (false, s4.memRead p k t)
            else (false, s4)

end Sys2Proof.Machine
end

