-- ==== Sys2Proof/Machine/HomeRun.lean ====
section
/-! DEFINITION. Transactions at the home, part 2: the application of a request to the metadata and the stages that
carry a transaction to its end (R70 to R86, R97 to R116, R129 to R145, R174 to R179). -/

namespace Sys2Proof.Machine

/-! ### The victim (R29, R74, R116) -/

/-- The transaction waits for room in the write buffer. -/
def State.wbHold (s : State) (p k : Nat) : State := s.updTrk p k (fun t => { t with wbFull := true })

/-- The write buffer cannot take a line yet: the transaction waits, and where all 64 entries are in use the wait is counted once, when
the data of the fill is there (R29, R420). -/
def State.wbStall (s : State) (p k : Nat) : State :=
  match (s.pan p).trk k with
  | some t =>
    let full := (t.kind == .req || t.kind == .prefetch) && (!t.needsOld || t.old.isSome || t.pois) && !t.wbCnt &&
      decide (64 ≤ (s.pan p).wb.length)
    ((s.wbHold p k).updTrk p k (fun t => { t with wbCnt := t.wbCnt || full })).count p 0x113 (if full then 1 else 0)
  | none => s

/-- The victim's way made free (R74); a WrBackM that the back-invalidation absorbed is performed (R102, R130). -/
def State.freeVictim (s : State) (p k psi : Nat) (v : Victim) (dirty : Bool) : State :=
  let s1 := ((s.putWay p psi v.way v.ent.freed).updTrk p k (fun t =>
    { t with vict := t.vict.map (fun x => { x with gone := true }) })).count p (if dirty then 0x11A else 0x11B)
  match v.inv.absorbed with
  | some (a, g) => s1.wdone p a g
  | none => s1

/-- A dirty or poisoned victim put into the write buffer, and its way and its combining entry freed (R179); it waits while
the buffer cannot take it. -/
def State.spill (s : State) (p k psi : Nat) (v : Victim) (d : BitVec 1024) (poison : Bool) : State :=
  match (s.pan p).wbPut psi v.ent.tag d poison s.stamp16 with
  | none => s.wbStall p k
  | some y =>
    ((s.setPan p (y.combDrop psi v.ent.tag)).count p 0x158 (b2n (y.combFind psi v.ent.tag).isSome)).freeVictim p k psi v true

/-- The victim's stage: once its invalidation is answered, its newest data goes to the write buffer when it is newer
than backing memory or poisoned, and its way becomes free (R74, R179). -/
def State.stVict (s : State) (p k : Nat) : State :=
  match (s.pan p).trk k with
  | none => s
  | some t =>
    match t.vict with
    | none => s
    | some v =>
      if v.gone || !v.inv.done then s
      else
        match v.inv.own with
        | some (d, psn) => s.spill p k t.psi v d (psn || v.poison)
        | none =>
          if v.poison || v.inv.lost || v.ent.ust == 3 then
            let f := s.freeLine
            f.2.spill p k t.psi v f.1 true
          else
            match (s.pan p).combFind t.psi v.ent.tag with
            | some c => s.spill p k t.psi v c.data false
            | none =>
              if v.ent.d then
                match v.data with
                | some d => s.spill p k t.psi v d false
                | none =>
                  if v.reading then s
                  else
                    (s.updTrk p k (fun t =>
                      { t with reads := t.reads ++ [.victim v.way], vict := t.vict.map (fun x => { x with reading := true }) })).wake
                      (p / 8)
              else s.freeVictim p k t.psi v false

/-! ### The old data (R30, R65, R113, R174, R175) -/

/-- Old data found for a tracker entry. -/
def State.gotOld (s : State) (p k : Nat) (d : BitVec 1024) (dirty : Bool) : State :=
  (s.dropSpec p k).updTrk p k (fun t => { t with old := some d, oldDirty := dirty })

/-- The whole line invalidated before it becomes P: every sharer, the requester with them unless it is non-caching (R123, R148,
R224). -/
def State.invAll (s : State) (p k : Nat) (t : Trk) (e : Way) : State :=
  let sent := t.inv.snps.filterMap (fun x => match x.tgt with | .agent a => some a | .dev _ => none)
  let again := t.kind == .req && t.op != 0 && t.op != 3
  if e.ust ≠ 1 then s
  else if e.ovf && !again then s.updTrk p k (fun t => { t with inv := { t.inv with grp := some 0xFFF } })
  else
    let rest := if e.ovf then (if s.nonCaching t.rq.src then [] else [t.rq.src]) else e.sharers.filter (fun a => !sent.contains a)
    let r := s.invEach p k t.psi t.tag rest
    r.2.updTrk p k (fun t => { t with inv := { t.inv with snps := t.inv.snps ++ r.1 } })

/-- The old data comes from a write-buffer entry marked poisoned: the transaction meets a poisoned line, whose sharers go
before it becomes P (R107); a merge over it is recorded (R83, R174). held: the entry was HELD (R77). -/
def State.poisonOld (s : State) (p k : Nat) (t : Trk) (d : BitVec 1024) (held : Bool) : State :=
  let s1 := if t.op = 5 then s.poisonRec p t.psi t.tag 0x000E 3 none 0 else s
  ((s1.dropSpec p k).updTrk p k (fun t => { t with old := some d, oldDirty := held, pois := true })).invAll p k t (t.ent.getD {})

/-- The line of a read of backing memory taken by its transaction; a poisoned one names its port, and the line's sharers go
before it becomes P (R83, R107, R142). -/
def State.useMem (s : State) (p k : Nat) (t : Trk) (line : BitVec 1024) (psn : Bool) (port : Nat) : State :=
  let got := fun (s : State) =>
    s.updTrk p k (fun t => { t with mem := false, spec := none, old := some line, oldDirty := false, pois := t.pois || psn })
  if psn then (got (s.poisonRec p t.psi t.tag 0x000C 0 none port)).invAll p k t (t.ent.getD {}) else got s

/-- Data of backing memory that came ahead of its use taken by its transaction (R65). -/
def State.takeSpec (s : State) (p k : Nat) : State :=
  match (s.pan p).trk k with
  | some t => (match t.spec with | some (d, psn, port) => s.useMem p k t d psn port | none => s)
  | none => s

/-- Backing memory asked for the line's old data; data that came ahead of the metadata is taken (R65). -/
def State.askMem (s : State) (p k : Nat) (t : Trk) : State :=
  if t.spec.isSome then s.takeSpec p k else if t.mem then s else (s.memRead p k t).takeSpec p k

/-- The posted-fault report: record and notice (R147, R148). Causes 1 and 2 are the device's own. -/
def State.faultReport (s : State) (p : Nat) (t : Trk) : State :=
  let spa := s.lineSpa p t.psi t.tag
  let own := decide (t.cause ≤ 2)
  let a : BitVec 12 := if own then BitVec.ofNat 12 (64 * s.me) else t.rq.src
  let d := if own then s.me else agDev t.rq.src
  (((s.count p (0x140 + t.cause)).poisonRec p t.psi t.tag 0x0012 7 (if own then none else some a) t.cause).notice d a
    (.pfault (BitVec.ofNat 16 t.cause) (BitVec.ofNat 64 s.now) (BitVec.ofNat 12 p) (BitVec.ofNat 52 spa)) (some p))

/-- An operation at the atomic stage that ends without a write (R170, R175): a no-return form fails, the other is answered Poisoned. -/
def State.atomFails (s : State) (p k : Nat) (t : Trk) : State :=
  if t.posted then (s.faultReport p { t with cause := 4 }).endTrk p k
  else s.updTrk p k (fun t => { t with atom := false, pois := true, written := true })

/-- The atomic stage of the line's memory port holds 128 operations (R175). -/
def State.stageFull (s : State) (p psi tag : Nat) : Bool :=
  match s.linePort p psi tag with
  | none => false
  | some (m, _) => decide (128 ≤ ((s.mp m).reqs.filter (fun r => r.kind == 2)).length)

/-- The stage that obtains the line's old data: from the owner, the combining buffer, the write buffer, the way or
backing memory, in that order (R30, R174). A write to a way changes a HELD entry of its line with it (R79; log entry 17), so that an
entry is never older than the way. -/
def State.stData (s : State) (p k : Nat) : State :=
  match (s.pan p).trk k with
  | none => s
  | some t =>
    let x := s.pan p
    let busyRead := t.reads.any (fun r => match r with | .victim _ => false | _ => true)
    if t.ph != .run || t.old.isSome || !t.needsOld || t.pois || !(t.inv.done || t.detaches) || t.atom || busyRead then s
    else if t.kind == .prefetch && !t.alloc then s
    else
      match t.inv.own with
      | some (d, _) => s.gotOld p k d true
      | none =>
        match x.combFind t.psi t.tag with
        | some c => s.gotOld p k c.data true
        | none =>
          let port := t.ent.isNone && t.op == 8 && t.kind == .req
          match x.wbFind t.psi t.tag with
          | some b =>
            if port && b.sent then (s.dropSpec p k).updTrk p k (fun t => { t with wbWait := true })
            else if b.poison then s.poisonOld p k t b.data (!b.sent)
            else s.gotOld p k b.data (!b.sent)
          | none =>
            match (if (t.ent.getD {}).v then t.way else none) with
            | some w => ((s.dropSpec p k).updTrk p k (fun t => { t with reads := t.reads ++ [.line w] })).wake (p / 8)
            | none =>
              if !port then s.askMem p k t
              else if (s.portGone p t.psi t.tag).isSome then
                (match s.portGone p t.psi t.tag with | some (m, h) => ((s.dropSpec p k).reqFail m h false 1).atomFails p k t | none => s)
              else if s.stageFull p t.psi t.tag then s.dropSpec p k
              else ((((s.dropSpec p k).updTrk p k (fun t => { t with atom := true, wbWait := false })).memReq p k 2 t.psi t.tag
                t.rq.stamp t.rq.anc).count p 0x15A)

/-! ### The new data (R77, R82, R178) -/

/-- The flags of an atomic ORed into PAN_ATOM_FLAGS (R172). -/
def State.atomFlags (s : State) (p fl : Nat) : State := s.updPan p (fun x => { x with atomFlags := x.atomFlags ||| fl })

/-- A tracker entry has the operands of its atomic ready (R196). -/
def Trk.atomReady (t : Trk) : Bool :=
  t.ph == .run && t.kind == .req && t.isAtomic && !t.noData && !t.pois && t.old.isSome && t.result.isNone

/-- The atomic of an entry computed on its old data (R174). -/
def State.compute (s : State) (p : Nat) (t : Trk) : State :=
  let o := atomRun t.rq.atom t.rq.addr (t.old.getD 0)
  (s.updTrk p t.id (fun t => { t with result := some o.line, resp := o.resp })).atomFlags p o.flags

/-- The atomics of pan p whose operands are ready computed one by one, as the atomic unit's issue slot grants them (R174, R196). -/
def State.issueAtomics (s : State) (p n : Nat) : State :=
  match n with
  | 0 => s
  | m + 1 =>
    let l := (s.pan p).trks.filter Trk.atomReady
    let asks := l.map (fun t => s.asker (panArb p 4) t.id 0 t.rq.anc t.rq.stamp)
    match s.winner (panArb p 4) asks with
    | none => s
    | some w =>
      match l.find? (fun t => t.id == w.num) with
      | none => s
      | some t => ((s.award (panArb p 4) asks w).compute p t).issueAtomics p m

/-- The stage that computes an atomic once its operands are ready. -/
def State.stAtomic (s : State) (p k : Nat) : State :=
  if ((s.pan p).trk k).any Trk.atomReady then s.issueAtomics p (s.pan p).trks.length else s

/-- The data that the transaction writes for the line, and whether it is newer than backing memory (R77, R113). -/
def Trk.target (t : Trk) : Option (BitVec 1024 × Bool) :=
  let owned := t.inv.own.map (fun o => (o.1, true))
  let fill := if t.alloc then t.old.map (fun d => (d, t.oldDirty)) else none
  match t.kind with
  | .prefetch => fill
  | .clear => if t.wasP then some (0, true) else none
  | .fault | .sweep | .rakeUe | .flush | .clean => none
  | .req =>
    if t.pois then
      (if t.isAtomic then none
       else if t.alloc then t.old.map (fun d => (d, t.oldDirty || t.op == 4 || t.op == 5))
       else if t.bypass && (t.op == 4 || t.op == 5) then t.old.map (fun d => (d, true)) else none)
    else
      match t.op with
      | 0 | 1 | 2 => if owned.isSome then owned else fill
      | 3 => if t.inv.absorbed.isSome then owned else fill
      | 4 => some (t.rq.data, true)
      | 5 => if t.noData then owned else t.old.map (fun d => (mergeBytes t.rq.mask d t.rq.data, true))
      | 6 => owned
      | _ => if t.noData then owned else t.result.map (fun d => (d, true))

/-- Everything that the write of the line's data waits for has happened. -/
def Trk.canWrite (t : Trk) : Bool :=
  t.ph == .run && !t.written && (t.inv.done || t.detaches) && !t.allocWait && !t.atom && !t.wbWait && t.reads.isEmpty &&
    (match t.vict with | some v => v.gone | none => true) &&
    (t.pois || !t.needsOld || t.old.isSome) &&
    (t.pois || !(t.kind == .req && t.isAtomic && !t.noData) || t.result.isSome)

/-- A transaction that releases its line's combining-buffer entry: any but an atomic or an engine's work on the line, which
look at the entry themselves (R179). -/
def Trk.releases (t : Trk) : Bool :=
  match t.kind with
  | .req => !t.isAtomic
  | .prefetch | .clear | .fault => true
  | .sweep | .rakeUe | .flush | .clean => false

/-- The stage that releases the combining-buffer entry of the line: the transaction takes the line's data from it, in place
of a stack read, and the entry is written back before the transaction writes (R179). -/
def State.stComb (s : State) (p k : Nat) : State :=
  match (s.pan p).trk k with
  | none => s
  | some t =>
    if t.ph != .run || !t.releases then s
    else
      match (s.pan p).combFind t.psi t.tag with
      | none => s
      | some c =>
        let take : Bool := t.needsOld && t.old.isNone && t.kind == .req
        let s1 := s.updTrk p k (fun t => if take then { t with old := some c.data, oldDirty := true } else t)
        let s2 := s1.combBack p c 0x157
        if ((s2.pan p).combFind t.psi t.tag).isSome then (s2.combWake p t.psi t.tag).wbHold p k else s2

/-- The write of a line's data done. inWay: it lies in the way, with its D. -/
def State.wrote (s : State) (p k : Nat) (inWay : Option Bool) : State :=
  s.updTrk p k (fun t => { t with written := true, inWay := inWay })

/-- While DATA_EN is 0, a line whose newest data now lies outside its way loses V and D, as the flush would have it
(R86, R487). -/
def State.dropV (s : State) (p : Nat) (t : Trk) : State :=
  match (if (s.pan p).dataEn then none else t.way) with
  | none => s
  | some w =>
    let e := mdWay ((s.pan p).md t.psi) w
    if e.v then s.putWay p t.psi w { e with v := false, d := false } else s

/-- The transaction writes nothing but what it has read of its line into the way chosen for it. -/
def Trk.fillOnly (t : Trk) : Bool := t.alloc && t.inv.own.isNone && (t.kind == .prefetch || (t.kind == .req && decide (t.op ≤ 3)))

/-- A line's data written to its way, or to the write buffer when it has none or while DATA_EN is 0 (R77, R80, R85,
R115). With the write to a way a HELD entry of the line takes the data, and with a SENT one the write waits, so that the entry is
never older than the way (R79, R174; log entry 17). Data equal to backing memory needs no place outside a way. -/
def State.writeData (s : State) (p k : Nat) (t : Trk) (d : BitVec 1024) (dirty : Bool) : State :=
  match (if (s.pan p).dataEn && !t.bypass then t.way else none) with
  | some w =>
    if !s.stackUp p then s.wake (p / 8)
    else if !t.fillOnly && (s.pan p).wbSent t.psi t.tag then s.wbHold p k
    else
      (((s.writeLine p t.psi w d).updPan p (fun y => (if t.fillOnly then y else y.wbKeep t.psi t.tag d t.pois).combDrop t.psi t.tag)).wrote p k
        (some dirty)).count p 0x119 (if t.alloc then 1 else 0)
  | none =>
    if !dirty then s.wrote p k none
    else
      match (s.pan p).wbPut t.psi t.tag d t.pois s.stamp16 with
      | none => s.wbStall p k
      | some y => ((s.setPan p (y.combDrop t.psi t.tag)).dropV p t).wrote p k none

/-- The least recently used combining-buffer entry. -/
def lruComb (l : List CombEntry) : Option CombEntry :=
  l.foldl (fun acc e => match acc with
    | none => some e
    | some g => if e.last < g.last then some e else some g) none

/-- The result of an atomic placed in the combining buffer (R177 to R179), or where other data goes while COMB_EN is
0. An AtomicM on a write-buffer entry of an absent line changes that entry (R175). -/
def State.writeAtomic (s : State) (p k : Nat) (t : Trk) (d : BitVec 1024) : State :=
  let x := s.pan p
  let c : CombEntry := { psi := t.psi, tag := t.tag, data := d, last := s.panCycles (p / 8) }
  let inWay := if x.dataEn && t.way.isSome then some true else none
  match x.combFind t.psi t.tag with
  | some _ =>
    (((s.setPan p { x with comb := x.comb.map (fun e => if e.psi == t.psi && e.tag == t.tag then c else e) }).dropV p t).wrote p k
      (if t.ent.isSome then inWay else none)).count p 0x154
  | none =>
    if t.op = 8 ∧ t.ent.isNone then s.writeData p k t d true
    else if !(s.rv (panOff p 0x800)).testBit 0 then s.writeData p k t d true
    else if x.comb.length < 32 then (((s.setPan p { x with comb := x.comb ++ [c] }).dropV p t).wrote p k inWay).count p 0x155
    else
      match lruComb x.comb with
      | none => s
      | some l =>
        let s1 := s.combBack p l 0x15C
        let y := s1.pan p
        if y.comb.length < 32 then (((s1.setPan p { y with comb := y.comb ++ [c] }).dropV p t).wrote p k inWay).count p 0x155
        else (s1.combWake p l.psi l.tag).wbStall p k

/-- The stage that writes the line's data. -/
def State.stWrite (s : State) (p k : Nat) : State :=
  match (s.pan p).trk k with
  | none => s
  | some t =>
    if !t.canWrite || (t.releases && ((s.pan p).combFind t.psi t.tag).isSome) then s
    else
      match t.target with
      | none => s.wrote p k none
      | some (d, dirty) =>
        let s1 := s.count p 0x11C (if t.kind == .req && t.op == 5 && !t.noData && !t.pois then 1 else 0)
        if t.kind == .req && t.isAtomic && !t.noData && !t.pois then s1.writeAtomic p k t d
        else s1.writeData p k t d dirty

/-! ### The response (R113, R143, R151, R169) -/

/-- The state that the transaction grants: 1 S, 2 M (R106, R113). g is the group of the line. -/
def Trk.grants (t : Trk) (g : Nat) : Option Nat :=
  match t.op with
  | 0 =>
    match t.ent with
    | some e => if e.ust = 1 then (if (addSharer g e t.rq.src).isSome then some 1 else none) else some 1
    | none => some 1
  | 1 | 2 => some 2
  | _ => none

/-- The request's response noted as sent. -/
def State.answered (s : State) (p k : Nat) : State := s.updTrk p k (fun t => { t with responded := true })

/-- A read or Upgrade answered with its data and the state granted (R98, R113). -/
def State.grantReply (s : State) (p k : Nat) (t : Trk) : State :=
  let gr := t.grants (s.groupOf p t.psi t.tag)
  let gst := BitVec.ofNat 2 (gr.getD 0)
  let m := if t.pureUpgrade then OutMsg.ack t.rq.src t.rq.tag gst else OutMsg.ackData t.rq.src t.rq.tag gst (t.old.getD 0)
  ((s.updTrk p k (fun t => { t with responded := true, grant := gr, grantAt := s.now })).say p m).count p 0x124
    (if t.op = 0 ∧ gr.isNone then 1 else 0)

/-- The stage that answers the requester. A RdCurrent whose owner's copy is poisoned is answered while the SnpInv that follows is under
way (R144). -/
def State.stRespond (s : State) (p k : Nat) : State :=
  match (s.pan p).trk k with
  | none => s
  | some t =>
    if t.responded || t.kind != .req || t.ph != .run then s
    else if t.posted then s.answered p k
    else if t.op ≤ 3 then
      (if t.pois && t.op == 3 && t.inv.own.isSome then (s.say p (.poisoned t.rq.src t.rq.tag)).answered p k
       else if !t.inv.done then s
       else if t.pois then (s.say p (.poisoned t.rq.src t.rq.tag)).answered p k
       else if t.pureUpgrade || t.old.isSome then s.grantReply p k t
       else s)
    else if t.op ≤ 5 then
      (if t.written && t.inv.done then (s.say p (.ack t.rq.src t.rq.tag 0)).answered p k else s)
    else if t.pois then (if t.inv.done then (s.say p (.poisoned t.rq.src t.rq.tag)).answered p k else s)
    else if t.written then (s.say p (.ackData t.rq.src t.rq.tag 0 t.resp)).answered p k
    else s

/-! ### The end (R97, R102, R117, R140) -/

/-- The directory that the transaction leaves (R113, R130, R140). lost: the grant was lost. -/
def Trk.finalDir (t : Trk) (g : Nat) (lost : Bool) : Dir :=
  if t.pois then .p
  else
    match t.kind with
    | .prefetch | .clear | .sweep | .flush | .clean => {}
    | .fault | .rakeUe => .p
    | .req =>
      let gives := (t.grants g).isSome && !lost
      match t.op with
      | 0 =>
        match t.ent with
        | some e =>
          if e.ust = 2 then
            .s ((if t.inv.absorbed.isSome || e.pta == t.rq.src then [] else [e.pta]) ++ (if gives then [t.rq.src] else []))
          else if e.ust = 1 then (if gives then (addSharer g e t.rq.src).getD e.dir else e.dir)
          else .s (if gives then [t.rq.src] else [])
        | none => .s (if gives then [t.rq.src] else [])
      | 1 | 2 => if lost then {} else .m t.rq.src
      | 3 =>
        match t.ent with
        | some e => if e.ust = 2 ∧ t.inv.absorbed.isSome then {} else e.dir
        | none => {}
      | _ => {}

/-- The entry that an allocation begins with (R72). -/
def State.newEntry (s : State) (p : Nat) (t : Trk) : Way :=
  let c := t.rq.pcls.toNat
  let h := s.hintOf p c
  let pf := t.kind == .prefetch
  { tag := t.tag, pcls := c, hint := h, rage := insertAge h pf, pf := pf }

/-- The transaction brought new data for its line: a write's, or the owner's (R77). -/
def Trk.newData (t : Trk) : Bool := t.kind == .req && (((t.op == 4 || t.op == 5) && !t.noData) || t.inv.own.isSome)

/-- The entry of the line after the transaction (R77, R113). New data that is poisoned makes a line with V 1 dirty without being
written (R77). While DATA_EN is 0 a WrBackM's data lies in the write buffer, and V and D are 0 (R86, R487). -/
def State.finalEntry (s : State) (p : Nat) (t : Trk) (w : Nat) (lost : Bool) : Way :=
  let base := if t.alloc then s.newEntry p t else mdWay ((s.pan p).md t.psi) w
  let e0 := base.withDir (t.finalDir (s.groupOf p t.psi t.tag) lost)
  let e1 := match t.inWay with
    | some d => { e0 with v := true, d := d || (e0.d && !t.alloc) }
    | none => if t.pois && t.newData then { e0 with d := e0.d || e0.v } else e0
  match t.back with
  | some (_, psn, _) => { e1.withDir (if psn then .p else {}) with v := (s.pan p).dataEn, d := (s.pan p).dataEn }
  | none => e1

/-- The metadata entry written: an entry with V 0 and UST I is a free way (R55). -/
def State.writeEntry (s : State) (p : Nat) (t : Trk) (lost : Bool) : State :=
  match t.way with
  | none => s
  | some w =>
    let e := s.finalEntry p t w lost
    let ovf := e.ovf && !(match t.ent with | some o => o.ovf | none => false)
    ((s.putWay p t.psi w (if e.free then e.freed else e)).updPan p (fun x => if t.alloc then x.setPred t.psi t.tag w else x)).count
      p 0x125 (if ovf then 1 else 0)

/-- The snoops of an invalidation that the end of a hold window of agent a lets go (R117). -/
def State.releaseInv (s : State) (p k psi tag : Nat) (a : BitVec 12) (i : Inv) : Inv × State :=
  let out := i.snps.filter (fun x => x.st == .held && x.tgt == .agent a)
  ({ i with snps := i.snps.map (fun x => if x.st == .held && x.tgt == .agent a then { x with st := .sent, since := s.now } else x) },
   out.foldl (fun t x => t.sendSnp p k x.op a (t.lineSpa p psi tag)) s)

/-- The snoops that a hold window of agent a on a line has held, sent (R117, R118). -/
def State.releaseHeld (s : State) (p psi tag : Nat) (a : BitVec 12) : State :=
  (s.pan p).trks.foldl (fun t u =>
    if u.psi ≠ psi then t
    else
      let one := fun (t : State) (v : Bool) =>
        let r := t.releaseInv p u.id psi tag a (u.getInv v)
        r.2.updTrk p u.id (fun u => u.setInv v r.1)
      let t1 := if u.tag = tag then one t false else t
      if u.vict.any (fun v => v.ent.tag == tag) then one t1 true else t1) s

/-- A hold window opened for the new owner (R117, R118). -/
def State.openHold (s : State) (p psi tag : Nat) (a : BitVec 12) : State :=
  let cyc := s.rf (panOff p 0x500) 11 0
  if cyc = 0 then s
  else
    let h : HoldWin := { psi := psi, tag := tag, agent := a, until_ := s.panCycles (p / 8) + cyc }
    let x := s.pan p
    if x.holds.length < 128 then s.setPan p { x with holds := x.holds ++ [h] }
    else
      match nearestEnd x.holds with
      | some n =>
        ((s.setPan p { x with holds := (dropFirst (· == n) x.holds).2 ++ [h] }).count p 0x12D).releaseHeld p n.psi n.tag n.agent
      | none => s

/-- What is reported when a transaction ends: write-done notices, a cleared poison, a posted fault (R102, R145, R148). -/
def State.endNotices (s : State) (p : Nat) (t : Trk) : State :=
  let s1 := match t.inv.absorbed with
    | some (a, g) => s.wdone p a g
    | none => s
  let s2 := match t.back with
    | some (_, _, g) => s1.wdone p t.rq.src g
    | none => s1
  match t.kind with
  | .req =>
    let s3 := if t.op = 4 ∧ t.wasP ∧ !t.pois then (s2.count p 0x140).lineRec p t.psi t.tag 0 0x0013 (some t.rq.src) 0 else s2
    let s4 := if t.isAtomic && t.posted && t.pois then s3.count p 0x15B else s3
    if t.posted && t.inv.done then s4.wdone p t.rq.src t.rq.tag else s4
  | .clear => if t.wasP then (s2.count p 0x140).lineRec p t.psi t.tag 0 0x0013 none 0 else s2
  | .fault => s2.faultReport p t
  | _ => s2

/-- The data of a WrBackM that the new owner sent before the mark of its grant, written (R100, R130); none while it must wait, for the
stack (R453) or for the write buffer (R79). -/
def State.writeBack (s : State) (p : Nat) (t : Trk) : Option State :=
  match t.back with
  | none => some s
  | some (d, psn, _) =>
    match (if (s.pan p).dataEn then t.way else none) with
    | some w =>
      if !s.stackUp p || (s.pan p).wbSent t.psi t.tag then none
      else some (if psn then s else (s.writeLine p t.psi w d).updPan p (fun y => y.wbKeep t.psi t.tag d false))
    | none => ((s.pan p).wbPut t.psi t.tag d psn s.stamp16).map (fun y => s.setPan p y)

/-- The stage that ends the transaction: the metadata is written once everything else has happened, and the tracker
entry is returned, or kept for detached invalidations (R97, R103). -/
def State.stFinish (s : State) (p k : Nat) : State :=
  match (s.pan p).trk k with
  | none => s
  | some t =>
    let ready := t.ph == .run && t.written && (t.responded || t.kind != .req) && (t.grant.isNone || t.mark.isSome) &&
      (t.inv.done || t.detaches) && t.reads.isEmpty && !t.mem
    if !ready then s
    else
      match s.writeBack p t with
      | none => if s.stackUp p then s.wbStall p k else (s.wbHold p k).wake (p / 8)
      | some s0 =>
        let lost := t.mark == some true
        let s1 := (s0.writeEntry p t lost).endNotices p t
        if t.inv.done then s1.endTrk p k else s1.updTrk p k (fun t => { t with ph := .detached })

/-- An owner's data lost makes the line P, but for a WrInvFull (R131, R135, R139). -/
def State.stLost (s : State) (p k : Nat) : State :=
  match (s.pan p).trk k with
  | none => s
  | some t => if t.inv.lost && !t.pois then s.updTrk p k (fun t => { t with pois := true }) else s

/-- A detached tracker entry whose last answer has come: the write counts as performed (R102, R103). -/
def State.stDetached (s : State) (p k : Nat) : State :=
  match (s.pan p).trk k with
  | none => s
  | some t => if t.ph == .detached && t.inv.done then (s.wdone p t.rq.src t.rq.tag).endTrk p k else s

/-! ### One line of the flush and of the dead-agent cleanup (R86, R141) -/

/-- What became of one line of a flush: it must wait, it is done, or it is done and its sharers remain to be invalidated
before it becomes P (R224). -/
inductive Flushed where
  | wait | done | sharers
  deriving DecidableEq, Repr

/-- The line of way w put into the write buffer when D is 1, its V and D cleared (R86). err disturbs the cells that the
read senses. -/
def State.flushWay (s : State) (p psi w : Nat) (e : Way) (err : BitVec 1152) : Flushed × State :=
  let x := s.pan p
  let e' : Way := { e with v := false, d := false }
  let put := fun (s : State) (e : Way) => s.putWay p psi w (if e.free then e.freed else e)
  if !e.v then (.done, s)
  else if !e.d then (.done, put s e')
  else
    match x.wbPut psi e.tag 0 false 0 with
    | none => (.wait, s)
    | some _ =>
      let send := fun (s : State) (d : BitVec 1024) (psn : Bool) =>
        match (s.pan p).wbPut psi e.tag d psn s.stamp16 with
        | some y => s.setPan p (y.combDrop psi e.tag)
        | none => s
      if e.ust = 3 then
        let f := s.freeLine
        (.done, put (send f.2 f.1 true) e')
      else
        match x.combFind psi e.tag with
        | some c => (.done, put (send s c.data false) e')
        | none =>
          if !s.stackUp p then (.wait, s.wake (p / 8))
          else
            let r := s.readBlock p (slotKey psi w) err
            if r.1.ue then
              let s1 := (r.2.count p 0x139).logErr
                { unit := p, cls := 1, code := 0x0102, addr := some (true, localOf p psi e.tag), detail := r.2.ueDetail p (slotKey psi w) r.1 }
              if e.ust = 1 && !s.holding then (.sharers, put (send s1 r.1.line true) e')
              else (.done, put (send s1 r.1.line true) (e'.withDir .p))
            else (.done, put (send r.2 r.1.line false) e')

/-- The directory of way w without its gone agents (R141): an M line becomes P; an S line loses pointers, unless every
pointer of an overflowed one is gone. -/
def State.cleanWay (s : State) (p psi w : Nat) (e : Way) : State :=
  let put := fun (s : State) (e : Way) => s.putWay p psi w (if e.free then e.freed else e)
  if e.ust = 2 then
    (if s.isGone p e.pta then (put s (e.withDir .p)).poisonRec p psi e.tag 0x000B 6 (some e.pta) 0 else s)
  else if e.ust = 1 then
    let l := e.sharers.filter (fun a => !s.isGone p a)
    if l.length = e.sharers.length then s
    else if l.isEmpty then (if e.ovf then s else put s (e.withDir {}))
    else put s (e.withDir { Dir.s l with ovf := e.ovf })
  else s

/-- The flush of a line whose owner's WrBackM it absorbed: the data enters the write buffer, the line has no owner any more,
and the WrBackM is performed (R86, R102, R130). -/
def State.flushOwned (s : State) (p k : Nat) (t : Trk) (w : Nat) (e : Way) (d : BitVec 1024) (psn : Bool) : State :=
  match (s.pan p).wbPut t.psi t.tag d psn s.stamp16 with
  | none => s.wbHold p k
  | some y =>
    let e' : Way := { (e.withDir (if psn then .p else {})) with v := false, d := false }
    let s1 := (s.setPan p (y.combDrop t.psi t.tag)).putWay p t.psi w (if e'.free then e'.freed else e')
    (match t.inv.absorbed with | some (a, g) => s1.wdone p a g | none => s1).endTrk p k

/-- The stage of a line of a flush or of a cleanup that waited for its line (R97). -/
def State.stLine (s : State) (p k : Nat) : State :=
  match (s.pan p).trk k with
  | none => s
  | some t =>
    match (if t.ph == .run then t.way else none) with
    | none => s
    | some w =>
      let e := mdWay ((s.pan p).md t.psi) w
      if t.kind == .clean then (s.cleanWay p t.psi w e).endTrk p k
      else if t.inv.own.isSome then
        (match t.inv.own with | some (d, psn) => s.flushOwned p k t w e d psn | none => s)
      else
        match s.flushWay p t.psi w e 0 with
        | (.wait, s1) => s1.wbHold p k
        | (.done, s1) => s1.endTrk p k
        | (.sharers, s1) =>
          let r := s1.invSharers p k t.psi t.tag e none 0xFFF
          r.2.updTrk p k (fun t => { t with kind := .rakeUe, pois := true, written := true, inv := r.1 })

/-- Everything that a tracker entry can do now, stage after stage; a stage whose conditions are not met does nothing. Once the home has
stopped, its transactions stand where they are (R429). -/
def State.progress (s : State) (p k : Nat) : State :=
  if s.holding then s else
  let line : Bool := match (s.pan p).trk k with
    | some t => t.kind == .flush || t.kind == .clean
    | none => false
  let s0 := if line then s.stLine p k else s
  let still : Bool := match (s0.pan p).trk k with
    | some t => t.kind == .flush || t.kind == .clean
    | none => true
  if still then s0
  else
    let s1 := (((((s0.stGroup p k false).stGroup p k true).stLost p k).stComb p k).stData p k).stVict p k
    let s2 := (((s1.stRespond p k).stAtomic p k).stWrite p k).stRespond p k
    (s2.stFinish p k).stDetached p k

/-! ### Prefetch (R81) -/

/-- The stream entries after a demand miss, the matched or new one first, and that one (R81). -/
def observe (l : List Stream) (psi tag : Nat) : Stream × List Stream :=
  let hit := fun (e : Stream) => e.tag == tag && (e.last + 1 == psi || e.last == psi + 1)
  match l.find? hit with
  | some e =>
    let up := e.last + 1 == psi
    let e' : Stream := { e with last := psi, up := up, conf := min 3 (e.conf + 1), upto := if up == e.up then e.upto else none }
    (e', e' :: (dropFirst hit l).2)
  | none =>
    let e' : Stream := { tag := tag, last := psi }
    (e', (e' :: l).take 16)

/-- The pan sets that a stream asks for: those up to DEPTH ahead that have not been issued (R81). -/
def streamSets (e : Stream) (depth : Nat) : List Nat :=
  if e.conf < 2 then []
  else
    (List.range depth).filterMap (fun i =>
      let n := i + 1
      if e.up then
        (let q := e.last + n
         if q ≤ 0xFFFFF ∧ e.upto.all (fun u => decide (u < q)) then some q else none)
      else
        (if n ≤ e.last ∧ e.upto.all (fun u => decide (e.last - n < u)) then some (e.last - n) else none))

/-- A new tracker entry: its number, if one that the request may use is free (R122). -/
def Pan.newId (x : Pan) (rsv : Bool) : Option Nat :=
  let used := x.trks.map (·.id)
  let k := if rsv then freeId used 736 32 else freeId used 0 736
  if (if rsv then x.rsvOcc < 32 else x.freeOcc < 736) ∧ used.contains k = false then some k else none

/-- A tracker entry added, last in the order of admission. -/
def State.addTrk (s : State) (p : Nat) (t : Trk) : State :=
  s.updPan p (fun x => { x with trks := x.trks ++ [{ t with ord := x.ord }], ord := x.ord + 1 })

/-- Prefetch and bypass are inactive in RECOVER and while DATA_EN is 0 (R85, R430). -/
def State.cacheFull (s : State) (p : Nat) : Bool := (s.pan p).dataEn && s.mode.cur != .recover

/-- Whether a prefetch of a line is dropped, as far as the pan sees without the set's metadata (R81); one that waits is dropped once
prefetch is inactive (R85; log entry 191). -/
def State.prefetchDrop (s : State) (p psi tag c : Nat) : Bool :=
  let x := s.pan p
  let lim := min 768 (s.rf (panOff p 0x428) 23 12)
  !s.cacheFull p || x.busy psi tag || (x.wbFind psi tag).isSome || decide (lim ≤ x.trks.length) || decide (56 < x.wb.length) ||
    !(s.rv (panOff p 0x428)).testBit (24 + c)

/-! ### Applying a transaction to the metadata (R63, R72, R80, R113, R225) -/

/-- The home discards a WrBackM that is not its owner's (R132): the record, and the write counts as performed (R102). No event
of the catalogue counts it (log entry 41). -/
def State.discardWb (s : State) (p psi tag ust : Nat) (r : Req) : State :=
  (s.lineRec p psi tag 2 0x0005 (some r.src) ust).wdone p r.src r.tag

/-- The predictor after a lookup (R63); a lookup that followed a metadata-cache miss counts the prediction. -/
def State.learn (s : State) (p : Nat) (t : Trk) (w : Nat) (missed : Bool) : State :=
  let used := missed && s.wpEn p && t.kind == .req && (t.needsOld || t.op == 2)
  let right := (s.pan p).predict t.psi t.tag == w
  (s.updPan p (fun x => x.setPred t.psi t.tag w)).count p (if right then 0x10F else 0x110) (if used then 1 else 0)

/-- Write data with PSN 1: the record of the source, unless an SRAM error was recorded in its place (R142, R244). -/
def State.agentPoison (s : State) (p : Nat) (t : Trk) (opc : Nat) : State :=
  if t.sramBad then s else s.poisonRec p t.psi t.tag 0x000D 1 (some t.rq.src) opc

/-- Bypass of a request that would have to displace a line (R80). -/
def State.bypasses (s : State) (p : Nat) (t : Trk) (pk : Pick) : Bool :=
  let c := t.rq.pcls.toNat
  let th := min 8 (s.rf (panOff p 0x420) 19 16)
  s.cacheFull p && (t.op == 3 || t.op == 4 || t.op == 5) && (s.rv (panOff p 0x420)).testBit c &&
    (match pk with
     | .free _ => false
     | .victim _ e => decide (e.rage < th)
     | .empty => decide (1 ≤ th))

/-- The allocation of an absent line, or its bypass (R73, R80, R85). A prefetch is dropped once prefetch is inactive (R85; log entry 191);
one that would displace a line with an upstream
copy is dropped; with nothing to displace it waits as any allocation does (R73, R81). -/
def State.allocate (s : State) (p k : Nat) (t : Trk) : State :=
  let pk := s.pick p t.psi t.rq.pcls.toNat
  if t.kind == .req && s.bypasses p t pk then
    (s.updTrk p k (fun t => { t with bypass := true, allocWait := false })).count p 0x114
  else if t.kind == .prefetch && (!s.cacheFull p || match pk with | .victim _ e => e.ust != 0 | _ => false) then (s.count p 0x116).endTrk p k
  else s.takeWay p k t pk

/-- A transaction that finds its line absent (R113). An atomic whose line the combining buffer holds changes no metadata (R178). -/
def State.applyAbsent (s : State) (p : Nat) (t : Trk) : State :=
  let k := t.id
  match t.kind with
  | .req =>
    if t.op = 6 then (s.discardWb p t.psi t.tag 0 t.rq).endTrk p k
    else
      let psn := (t.op == 4 || t.op == 5) && t.rq.psn && !t.noData
      let s1 := if psn then (s.agentPoison p t t.op).updTrk p k (fun t => { t with pois := true, old := some t.rq.data }) else s
      let comb := t.isAtomic && ((s.pan p).combFind t.psi t.tag).isSome
      let s2 := if t.noData || t.op = 8 || comb then s1 else s1.allocate p k t
      s2.progress p k
  | .prefetch =>
    if ((s.pan p).wbFind t.psi t.tag).isSome then (s.count p 0x116).endTrk p k
    else (s.allocate p k t).progress p k
  | .fault => if t.cause = 2 then (s.allocate p k t).progress p k else (s.faultReport p t).endTrk p k
  | _ => s.endTrk p k

/-- The snoops that a request needs for a line found present (R113). -/
def State.applySnoops (s : State) (p : Nat) (t : Trk) (e : Way) : State :=
  let k := t.id
  let r : Inv × State :=
    if e.ust = 2 then
      let op : SnpOp := match t.op with
        | 0 => .data | 3 => .cur | 4 => .inv | _ => .invData
      s.invOwner p k t.psi t.tag e.pta op (t.op != 4)
    else if e.ust = 1 ∧ t.op ≠ 0 ∧ t.op ≠ 3 then
      s.invSharers p k t.psi t.tag e (some t.rq.src) (s.exclOf t.rq.src)
    else ({}, s)
  r.2.updTrk p k (fun t => { t with inv := r.1 })

/-- A transaction that finds its line in way w (R72, R113, R145, R148, R225). A WrBackM is no demand request (log entry 37). -/
def State.applyPresent (s : State) (p : Nat) (t : Trk) (w : Nat) (e : Way) : State :=
  let k := t.id
  let found := (s.dropSpec p k).updTrk p k (fun t => { t with way := some w, ent := some e })
  let t' : Trk := { t with way := some w, ent := some e }
  match t.kind with
  | .req =>
    if t.op = 6 then
      (if e.ust = 2 ∧ e.pta = t.rq.src then
        let s1 := found.updPan p (fun x => x.closeHold t.psi t.tag t.rq.src)
        let s2 := if t.rq.psn then (s1.agentPoison p t 6).updTrk p k (fun t => { t with pois := true }) else s1
        (s2.updTrk p k (fun t => { t with inv := { own := some (t.rq.data, t.rq.psn) } })).progress p k
       else (s.discardWb p t.psi t.tag e.ust t.rq).endTrk p k)
    else
      let comb := ((s.pan p).combFind t.psi t.tag).isSome
      let s1 := if t.isAtomic && comb then found else found.demandHit p t.psi w e t.noData
      let psn := (t.op == 4 || t.op == 5) && t.rq.psn && !t.noData
      if e.ust = 3 then
        (if t.op = 4 ∧ !t.rq.psn then s1.progress p k
         else
          let s2 := if psn then s1.agentPoison p t t.op
            else if t.op = 5 ∧ !t.noData then s1.poisonRec p t.psi t.tag 0x000E 3 (some t.rq.src) 0 else s1
          (s2.updTrk p k (fun t => { t with pois := true, written := true })).progress p k)
      else
        let s2 := if psn then (s1.agentPoison p t t.op).updTrk p k (fun t => { t with pois := true }) else s1
        (s2.applySnoops p t' e).progress p k
  | .prefetch => (s.count p 0x116).endTrk p k
  | .fault =>
    if e.ust = 2 ∨ e.ust = 3 then (s.faultReport p t).endTrk p k
    else ((found.updTrk p k (fun t => { t with pois := true, written := true })).invAll p k t' e).progress p k
  | .clear => if e.ust = 3 then found.progress p k else s.endTrk p k
  | .sweep | .flush | .clean => found.progress p k
  | .rakeUe =>
    if !t.pois || e.ust = 3 then s.endTrk p k
    else ((found.updTrk p k (fun t => { t with written := true })).invAll p k t' e).progress p k

/-- A demand miss seen by the prefetcher: the pan sets it asks for (R81); WrBackM makes none (log entry 37). -/
def State.prefetchAsk (s : State) (p : Nat) (t : Trk) : List Nat × State :=
  if t.kind == .req && t.op != 6 && s.cacheFull p then
    let depth := min 16 (s.rf (panOff p 0x428) 4 0)
    let r := observe (s.pan p).streams t.psi t.tag
    let l := streamSets r.1 depth
    let e := match l.getLast? with
      | some u => { r.1 with upto := some u }
      | none => r.1
    (l, s.updPan p (fun x => { x with streams := e :: r.2.drop 1 }))
  else ([], s)

/-- A tracker entry whose set's block is in the metadata cache applied to it; answers the prefetches that a miss
calls for. missed: the lookup followed a metadata-cache miss. -/
def State.applyTrk (s : State) (p k : Nat) (missed : Bool) : List Nat × State :=
  match (s.pan p).trk k with
  | none => ([], s)
  | some t =>
    match findWay ((s.pan p).md t.psi) t.tag with
    | some (w, e) => ([], ((s.learn p t w missed).applyPresent p t w e))
    | none =>
      let r := (s.learn p t 15 missed).prefetchAsk p t
      (r.1, r.2.applyAbsent p t)

/-- Prefetches of the lines of tag tag in the pan sets of a list, stamped and waiting for the pipeline's slot (R81, R184, R196). -/
def State.prefetches (s : State) (p tag : Nat) (c : BitVec 4) (l : List Nat) : State :=
  s.updPan p (fun x => { x with pfq := x.pfq ++ l.map (fun psi => { psi := psi, tag := tag, pcls := c, stamp := s.stamp16 }) })

/-- A tracker entry applied to the metadata, with the prefetches it calls for; one whose request is not whole waits for its last
cell (R212). -/
def State.apply (s : State) (p k : Nat) (missed : Bool) : State :=
  match (s.pan p).trk k with
  | none => s
  | some t =>
    if t.cut then s.updTrk p k (fun t => { t with ph := .cut, cutMiss := missed })
    else
      let r := s.applyTrk p k missed
      r.2.prefetches p t.tag t.rq.pcls r.1

/-- The end of an entry whose set is lost: its request is answered (R146); one whose request is not whole waits for its last cell
(R212). -/
def State.lostEnd (s : State) (p : Nat) (t : Trk) : State :=
  if t.cut then s.updTrk p t.id (fun t => { t with ph := .cut })
  else if t.kind == .fault then (s.faultReport p t).endTrk p t.id
  else s.lostReply p t

/-- The start of a tracker entry's transaction (R97): a lost set answers at once (R146), else the metadata is looked
up. -/
def State.start (s : State) (p k : Nat) : State :=
  match (s.pan p).trk k with
  | none => s
  | some t =>
    let s1 := (s.updTrk p k (fun t => { t with ph := .run })).count p (0x100 + t.rq.opc.toNat)
      (if t.kind == .req then 1 else 0) |>.count p (0x150 + 2 * (t.op - 7) + b2n t.posted) (if t.kind == .req && t.isAtomic then 1 else 0)
    if s1.isLost p t.psi then s1.lostEnd p t
    else
      let r := s1.mdAccess p k true
      if r.1 then r.2.apply p k false else r.2

/-- The last cell of the request of tracker entry k has been read: the entry takes the whole request, and what waited for it is
done (R207, R212). -/
def State.cutEnd (s : State) (p k : Nat) (r : Req) (bad : Bool) : State :=
  match (s.pan p).trk k with
  | none => s
  | some t =>
    let s1 := s.updTrk p k (fun t => { t with rq := { r with stamp := t.rq.stamp, anc := t.rq.anc }, sramBad := bad, cut := false })
    if t.ph != .cut then s1
    else if s1.isLost p t.psi then s1.lostEnd p { t with rq := r, cut := false }
    else (s1.updTrk p k (fun t => { t with ph := .run })).apply p k t.cutMiss

/-- The request of tracker entry k was aborted before its last cell: the entry is returned, or ends without effect once the
metadata that it has asked for is there (R212). -/
def State.cutAbort (s : State) (p k : Nat) : State :=
  match (s.pan p).trk k with
  | none => s
  | some t =>
    let s1 := s.dropSpec p k
    if t.reads.isEmpty then s1.updPan p (fun x => x.dropTrk k)
    else s1.updTrk p k (fun t => { t with kind := .rakeUe, cut := false })

end Sys2Proof.Machine
end

