-- ==== Sys2Proof/Machine/HomePop.lean ====
section
/-! DEFINITION. The commands by which a pan takes requests from its brine queues and by which waiting transactions go on
(rows RDSHARED to STACK_DATA_STAGED). -/

namespace Sys2Proof.Machine

/-! ### Taking a message from a brine queue (R205, R207, R208, R212) -/

/-- The pans of bed b admit nothing after a clock switch (R449). -/
def State.switching (s : State) (b : Nat) : Bool := match (s.bed b).chg with | some (_, 2, _) => true | _ => false

/-- In a throttled step a pan admits new requests in the first DUTY + 1 of every 64 pan cycles (R444; log entry 53). -/
def State.throttled (s : State) (p : Nat) : Bool := decide (s.sl.duty < s.panCycles (p / 8) % 64)

/-- A read of an empty queue: the last cell delivered is returned and nothing is dequeued, UNDERRUN is set and recorded
(R208). -/
def State.underrun (s : State) (b n : Nat) : State :=
  let q := s.queue b n
  ((s.setQueue b n { q with underrun := true, got := q.last }).count (uBrine b) 0x103).logD (uBrine b) 2 0x0404 n

/-- A broken message discarded by pan p: the read is counted, the tracker entry that its request was admitted to is returned, a bad
tag is recorded (R205, R212). -/
def State.discardMsg (s : State) (p b n : Nat) (m : BMsg) : State :=
  let s0 := match m.taken with | some k => (s.popQueue b n).cutAbort p k | none => s.popQueue b n
  let s1 := (s0.count p 0x145).count (uBrine b) 0x102
  if m.abort then s1 else s1.logD p 2 0x0405 (n + m.vb * 2 ^ 10)

/-! ### Admission (R99, R120 to R122, R141, R152) -/

/-- The local address of a system address homed here; the low bits where the table gives none, which R41 and R42 keep
from every queue. -/
def State.localAddr (s : State) (a : Nat) : Nat :=
  match s.homeOf a with
  | some (_, l, _) => l
  | none => a % 2 ^ 44

/-- The gone bit of an agent cleared, when a request of it arrives (R141). -/
def Pan.clearGone (x : Pan) (a : BitVec 12) : Pan := { x with gone := x.gone.filter (fun g => g != a.toNat) }

/-- LIMIT of PAN_NACK_LIMIT (R128). -/
def State.nackLimit (s : State) (p : Nat) : Nat := max 1 (s.rf (panOff p 0x508) 7 0)

/-- CHAIN_MAX of PAN_NACK_CTL (R128). -/
def State.chainMax (s : State) (p : Nat) : Nat := max 1 (s.rf (panOff p 0x510) 21 16)

/-- The waiters of a line's wait chain. -/
def Pan.chain (x : Pan) (psi tag : Nat) : List Trk :=
  x.trks.filter (fun t => t.ph == .chained && t.psi == psi && t.tag == tag)

/-- Nanoseconds until the stack of bed b accepts commands again, its exit being started now at the latest (R453). -/
def State.restLeft (s : State) (b : Nat) : Nat :=
  let x := s.bed b
  match x.rest with
  | 1 => (100 - min 100 (dt x.restAt s.now)) + 2000
  | 2 => 2000
  | 3 => 2000 - min 2000 (dt x.restAt s.now)
  | _ => 0

/-- A request admitted to a tracker entry; it starts at once when nothing stands before it (R97, R99). cut: its last cell is
still to be read (R207). -/
def State.enter (s : State) (p k src : Nat) (r : Req) (rsv sramBad cut : Bool) (psi tag : Nat) (go : Bool) : State :=
  let s1 := (s.addTrk p { id := k, rq := r, src := src, rsv := rsv, psi := psi, tag := tag, sramBad := sramBad, cut := cut }).count p
    0x123 (if rsv then 1 else 0)
  if go then s1.start p k else s1

/-- What the pan does with a request other than WrBackM at the head of a queue: a Nack with its counter, reason and retry hint, a
tracker entry, which starts at once if `go` says so, or nothing yet. -/
inductive Admit where
  | nack (event rsn retry : Nat)
  | enter (k : Nat) (go : Bool)
  | wait
  deriving DecidableEq, Repr

/-- AtomicH or AtomicM, which wait until the combining-buffer entries that are due have been written back (R179). -/
def reqAtomic (r : Req) : Bool := r.opc == 7 || r.opc == 8

/-- The decision on a request other than WrBackM from port q (R99, R120 to R122, R179, R428). A posted request is never answered
Nack (R101): it joins a full chain (log entry 29); RESTING counts the entries of the request's own kind (log entry 30). -/
def State.admission (s : State) (p q : Nat) (r : Req) : Admit :=
  let l := s.localAddr r.addr.toNat
  let psi := psiOf l
  let tag := tagOf l
  let x := s.pan p
  let posted := reqPosted r
  let rsv := decide (s.nackLimit p ≤ r.ncnt.toNat)
  let t : Trk := { id := 0, rq := r, src := q, rsv := rsv, psi := psi, tag := tag, ord := x.ord }
  let go := x.mayStart t && !(x.chain psi tag).any (fun u => x.mayStart u)
  if s.mode.cur == .drain && !posted then .nack 0x122 2 4095
  else if x.combDue && reqAtomic r then .wait
  else if !go && !rsv && !posted && decide (s.chainMax p ≤ (x.chain psi tag).length) then .nack 0x120 0 (s.rf (panOff p 0x510) 11 0)
  else
    match x.newId rsv with
    | some k => .enter k go
    | none =>
      if (s.bed (p / 8)).rest ≠ 0 ∧ posted = false then .nack 0x121 1 (min 4095 ((s.restLeft (p / 8) + 7) / 8)) else .wait

/-- The state in which a request is decided on: an atomic has the combining-buffer entries that are due written back (R179). -/
def State.readyFor (s : State) (p : Nat) (r : Req) : State := if reqAtomic r then s.combDrain p else s

/-- A whole request other than WrBackM at the head of queue n of the pan's bed (R99, R120 to R122, R428). -/
def State.admitReq (s : State) (p q n : Nat) (r : Req) (bad : Bool) : State :=
  let b := p / 8
  let l := s.localAddr r.addr.toNat
  let c := s.readyFor p r
  let gone := fun (s : State) => (s.updPan p (fun x => x.clearGone r.src)).popQueue b n
  match c.admission p q r with
  | .nack ev rsn retry =>
    let s1 := (gone c).count p ev
    (if rsn = 1 then s1.wake b else s1).nackReq p r rsn retry
  | .enter k go => (gone c).enter p k q r (decide (s.nackLimit p ≤ r.ncnt.toNat)) bad false (psiOf l) (tagOf l) go
  | .wait => c

/-- A request that must wait at the head of its queue: an atomic drives the write-backs that it waits for (R179). -/
def State.waitReq (s : State) (p q : Nat) (r : Req) : State :=
  let c := s.readyFor p r
  if s.throttled p ∨ c.admission p q r ≠ .wait then s
  else if (c.pan p).combDue && reqAtomic r && (c.pan p).dataEn then c.wake (p / 8)
  else c

/-- A request other than WrBackM of which CT_THRESH cells are linked, at the head of queue n, admitted to a tracker entry before its
last cell is (R207, R212). -/
def State.admitCut (s : State) (p q n : Nat) (m : BMsg) (r : Req) : State :=
  let b := p / 8
  let l := s.localAddr r.addr.toNat
  let c := s.readyFor p r
  match c.admission p q r with
  | .enter k go =>
    let s1 := (c.updPan p (fun x => x.clearGone r.src)).popQueue b n
    let q' := s1.queue b n
    let s2 := s1.setQueue b n { q' with msgs := match q'.msgs with | [] => [] | h :: t => { h with taken := some k } :: t }
    s2.enter p k q r (decide (s.nackLimit p ≤ r.ncnt.toNat)) false true (psiOf l) (tagOf l) go
  | _ => c

/-! ### WrBackM (R129 to R132) -/

/-- Whether an invalidation still awaits owner a of entry e: its data, or its answer to the SnpInv of R144. -/
def Inv.wants (i : Inv) (e : Way) (a : BitVec 12) : Bool :=
  e.ust == 2 && e.pta == a && i.absorbed.isNone && !i.lost &&
    (i.own.isNone || i.snps.any (fun x => x.owner && x.op == .inv && x.st != .done))

/-- An invalidation with the WrBackM of its owner absorbed (R130): a snoop that has not left is not sent, and an awaited
one is settled. -/
def Inv.absorb (i : Inv) (r : Req) : Inv :=
  { i with
    own := some (r.data, r.psn)
    absorbed := some (r.src, r.tag)
    snps := i.snps.map (fun x => if x.owner && x.st != .sent then { x with st := .done } else x) }

/-- A WrBackM absorbed by the transaction of entry k, as the owner's data of its line or of its victim (R130). -/
def State.absorbWb (s : State) (p : Nat) (u : Trk) (victim : Bool) (tag : Nat) (r : Req) (bad : Bool) : State :=
  let s1 := (s.updTrk p u.id (fun t => t.setInv victim ((t.getInv victim).absorb r))).count p 0x130
  let poisons := r.psn && !(u.pois && !victim) && (victim || !(u.kind == .req && u.op == 4))
  let s2 :=
    if poisons then
      let s3 := if bad then s1 else s1.poisonRec p u.psi tag 0x000D 1 (some r.src) 6
      if victim then s3.updTrk p u.id (fun t => { t with vict := t.vict.map (fun v => { v with poison := true }) })
      else s3.updTrk p u.id (fun t => { t with pois := true })
    else s1
  s2.progress p u.id

/-- What becomes of a WrBackM that finds its line, or its victim's, busy with tracker entry u: absorbed as the recorded
owner's, kept as the new owner's of a grant under way (R100), or discarded. None: it stays at the head of its queue,
because the transaction has not reached the metadata yet (R129, R130). -/
def State.meetWb (s : State) (p : Nat) (u : Trk) (psi tag : Nat) (r : Req) (bad : Bool) : Option State :=
  if u.ph == .mdWait || u.ph == .mdRead || u.ph == .cut then none
  else
    match u.vict.filter (fun v => !v.gone && v.ent.tag == tag) with
    | some v =>
      if v.inv.wants v.ent r.src then some (s.absorbWb p u true tag r bad)
      else some (s.discardWb p psi tag v.ent.ust r)
    | none =>
      let e := u.ent.getD {}
      if u.kind == .req && u.op == 6 then some (s.discardWb p psi tag 2 r)
      else if u.inv.wants e r.src then some (s.absorbWb p u false tag r bad)
      else if u.responded && u.grant = some 2 && u.mark != some true && u.back.isNone && u.rq.src == r.src then
        some (((s.updTrk p u.id (fun t => { t with back := some (r.data, r.psn, r.tag) })).count p 0x130).progress p u.id)
      else some (s.discardWb p psi tag (if u.pois then 3 else e.ust) r)

/-- A WrBackM at the head of queue n of the pan's bed: it ends its sender's hold window (R118) and starts, is absorbed
or is discarded (R129, R146); none while it must wait. -/
def State.admitWb (s : State) (p q n : Nat) (r : Req) (bad : Bool) : Option State :=
  let b := p / 8
  let l := s.localAddr r.addr.toNat
  let psi := psiOf l
  let tag := tagOf l
  let s0 := s.updPan p (fun x => (x.clearGone r.src).closeHold psi tag r.src)
  let x := s0.pan p
  if x.lost.contains psi then some ((s0.popQueue b n).wdone p r.src r.tag)
  else
    match x.trks.find? (fun u => u.holds psi tag) with
    | some u => (s0.popQueue b n).meetWb p u psi tag r bad
    | none =>
      (x.newId (decide (s.nackLimit p ≤ r.ncnt.toNat))).map (fun k =>
        (s0.popQueue b n).enter p k q r (decide (s.nackLimit p ≤ r.ncnt.toNat)) bad false psi tag true)

/-! ### The pan's admission slot (R196, R207) -/

/-- CT_THRESH cells of a message were linked before its last one, so that the pan may begin to read it (R207). -/
def BMsg.cutReady (m : BMsg) : Bool := m.partial_ && m.taken.isNone && decide (1 ≤ m.ct) && decide (m.ct ≤ m.cells.length)

/-- The request at the head of a message as the pan takes it: one with an uncorrectable SRAM error in its data counts as poisoned
(R244). An atomic has no PSN (R90) and is performed on the operand as it was sent (log entry 192). -/
def BMsg.request (m : BMsg) : Option Req :=
  match m.body with
  | .req r => some (if m.bad then { r with psn := true } else r)
  | _ => none

/-- The pan could take the request at the head of port q's queue now, if its slot were granted. -/
def State.admits (s : State) (p q : Nat) (m : BMsg) (r : Req) : Bool :=
  if s.throttled p then false
  else if m.partial_ then m.cutReady && r.opc != 6 && (match (s.readyFor p r).admission p q r with | .enter .. => true | _ => false)
  else if m.taken.isSome then false
  else if r.opc = 6 then (s.admitWb p q (brineQ p q 0) r m.bad).isSome
  else (s.readyFor p r).admission p q r != .wait

/-- The request queues of pan p that ask for its new-request slot (R196). -/
def State.queueAskers (s : State) (p : Nat) : List Asker :=
  (List.range 24).filterMap (fun q =>
    match (s.queue (p / 8) (brineQ p q 0)).msgs with
    | [] => none
    | m :: _ =>
      match m.request with
      | some r => if !m.broken && s.admits p q m r then some (s.asker (panArb p 0) q (if q < 16 then 0 else 1) r.anc r.stamp) else none
      | none => none)

/-- The requesters of the pan's new-request slot: the request queues, the prefetcher and the pan engine (R196, R372). -/
def State.admAskers (s : State) (p : Nat) : List Asker :=
  let x := s.pan p
  (if s.homeOpen then s.queueAskers p else []) ++
  (match (if s.homeOpen then x.pfq else []) with | e :: _ => [s.asker (panArb p 0) 24 2 e.anc e.stamp] | [] => []) ++
  (match x.cmds with | e :: _ => [s.asker (panArb p 0) 25 3 e.anc e.stamp] | [] => [])

/-- A pan's read of the request queue of port q for a request of the given opcode. An empty queue is an underrun; an
aborted message is discarded whatever it was (R212); a request of another opcode is not this command's. A request that may be
admitted is taken when the queue wins the pan's slot (R196); the further cells of one admitted before its last cell are read as they
are linked (R207). -/
def State.takeReq (s : State) (p q opc : Nat) : State :=
  let b := p / 8
  let n := brineQ p q 0
  if !s.homeOpen || s.switching b then s
  else
    match (s.queue b n).msgs with
    | [] => s.underrun b n
    | m :: _ =>
      if m.broken then s.discardMsg p b n m
      else
        match m.request with
        | none => s
        | some r =>
          if r.opc.toNat ≠ opc then s
          else
            match m.taken with
            | some k => if m.partial_ then s.popQueue b n else (s.popQueue b n).cutEnd p k r m.bad
            | none =>
              match (if s.admits p q m r then s.slot (panArb p 0) (s.admAskers p) q else none) with
              | none => if m.partial_ || opc = 6 then s else s.waitReq p q r
              | some t =>
                if m.partial_ then t.admitCut p q n m r
                else if opc = 6 then (t.admitWb p q n r m.bad).getD t
                else t.admitReq p q n r m.bad

/-- RDSHARED (R113). -/
def execRdshared (p : Fin 64) (q : Fin 32) (s : State) : Host.Outcome State Fault Refusal := next (s.takeReq p q 0)
/-- RDOWN (R113). -/
def execRdown (p : Fin 64) (q : Fin 32) (s : State) : Host.Outcome State Fault Refusal := next (s.takeReq p q 1)
/-- UPGRADE (R113). -/
def execUpgrade (p : Fin 64) (q : Fin 32) (s : State) : Host.Outcome State Fault Refusal := next (s.takeReq p q 2)
/-- RDCURRENT (R113). -/
def execRdcurrent (p : Fin 64) (q : Fin 32) (s : State) : Host.Outcome State Fault Refusal := next (s.takeReq p q 3)
/-- WRINVFULL (R113). -/
def execWrinvfull (p : Fin 64) (q : Fin 32) (s : State) : Host.Outcome State Fault Refusal := next (s.takeReq p q 4)
/-- WRINVPART (R82, R113). -/
def execWrinvpart (p : Fin 64) (q : Fin 32) (s : State) : Host.Outcome State Fault Refusal := next (s.takeReq p q 5)
/-- WRBACKM (R129). -/
def execWrbackm (p : Fin 64) (q : Fin 32) (s : State) : Host.Outcome State Fault Refusal := next (s.takeReq p q 6)
/-- ATOMICH (R174). -/
def execAtomich (p : Fin 64) (q : Fin 32) (s : State) : Host.Outcome State Fault Refusal := next (s.takeReq p q 7)
/-- ATOMICM (R175). -/
def execAtomicm (p : Fin 64) (q : Fin 32) (s : State) : Host.Outcome State Fault Refusal := next (s.takeReq p q 8)

/-! ### The wait chain (R99, R122, R191 to R193) -/

/-- The group of a waiter: Hinge ports, Knuckle links, prefetcher, engine (R196). -/
def Trk.group (t : Trk) : Nat :=
  match t.kind with
  | .req => if t.src < 16 then 0 else 1
  | .prefetch => 2
  | _ => 3

/-- The number of a waiter among the requesters, in the order of the groups (R192). -/
def Trk.number (t : Trk) : Nat :=
  match t.kind with
  | .req => t.src
  | .prefetch => 24
  | _ => 25

/-- A waiter as a requester of its line's arbiter (R193, R196). -/
def Trk.asker (t : Trk) : Asker :=
  { id := t.id, num := t.number, group := t.group, anc := t.rq.anc, stamp := t.rq.stamp, waits := t.losses, rsv := t.rsv }

/-- What an arbitration leaves in a waiter: its wait counter, and its ancient bit when it is due (R187, R193). -/
def State.arbitrated (s : State) (l : List Asker) (w : Asker) (t : Trk) : Trk :=
  if l.any (fun a => a.id == t.id) then
    { t with losses := if t.id = w.id then 0 else t.losses + 1, rq := s.aged t.rq }
  else t

/-- The highest-ranking waiter of a free line started; every other eligible waiter loses once (R99, R193). The line's arbiter is
no more when nobody waits. -/
def State.startChain (s : State) (p psi tag : Nat) : State :=
  let x := s.pan p
  let a := chainArb p psi tag
  let el := (x.chain psi tag).filter (fun t => x.mayStart t)
  let l := el.map Trk.asker
  match s.winner a l with
  | none => s
  | some w =>
    let newly := (el.filter (fun t => s.ripe t.rq)).length
    let s1 := ((s.award a l w).updPan p (fun x => { x with trks := x.trks.map (s.arbitrated l w) })).count p 0x003 newly
    let s2 := if (x.chain psi tag).length = 1 then s1.setArb a {} else s1
    s2.start p w.id

/-- WAIT_CHAIN_START (R99). -/
def execWaitChainStart (p : Fin 64) (psi : BitVec 20) (ltag : BitVec 11) (s : State) : Host.Outcome State Fault Refusal :=
  next (if s.homeOpen then s.startChain p psi.toNat ltag.toNat else s)

/-! ### Transactions that waited (R29, R61, R73) -/

/-- ALLOC_RETRY (R73): a waiting allocation chooses its victim again. -/
def execAllocRetry (p : Fin 64) (trk : Fin 768) (s : State) : Host.Outcome State Fault Refusal :=
  next (match (if s.homeOpen then (s.pan p).trk trk else none) with
    | some t => if t.allocWait then (s.allocate p trk t).progress p trk else s
    | none => s)

/-- MDC_MISS_RESUME (R61, R62). -/
def execMdcMissResume (p : Fin 64) (trk : Fin 768) (s : State) : Host.Outcome State Fault Refusal :=
  next (match (if s.homeOpen then (s.pan p).trk trk else none) with
    | some t =>
      if t.ph == .mdWait then
        let r := s.mdAccess p trk false
        if r.1 then r.2.apply p trk false else r.2
      else s
    | none => s)

/-- FILL_RESUME (R29). -/
def execFillResume (p : Fin 64) (trk : Fin 768) (s : State) : Host.Outcome State Fault Refusal :=
  next (match (if s.homeOpen then (s.pan p).trk trk else none) with
    | some t => if t.wbFull && t.ph == .run then s.progress p trk else s
    | none => s)

/-! ### The stack channel's command slot (R62, R66, R196) -/

/-- An access of the tracker to the row of a pan set is outstanding (R66). -/
def Pan.rowOpen (x : Pan) (psi : Nat) : Bool :=
  x.trks.any (fun t => !t.reads.isEmpty && (setPlace t.psi).1 == (setPlace psi).1 && (setPlace t.psi).2.1 == (setPlace psi).2.1)

/-- Entry ix of the metadata write queue is due: the oldest once eight wait or it is 1 µs old, any whose row is open or has been since it
was queued (R62). -/
def State.mdwqDue (s : State) (p ix : Nat) (e : MdwqEntry) : Bool :=
  (ix == 0 && (decide (8 ≤ (s.pan p).mdwq.length) || decide (1000 ≤ dt e.at_ s.now))) || e.due || (s.pan p).rowOpen e.psi

/-- The requesters of the stack channel's command slot: the pipeline's reads, the metadata write queue and the rake (R196). -/
def State.chanAskers (s : State) (p : Nat) : List Asker :=
  let x := s.pan p
  let a := panArb p 3
  (match x.trks.find? (fun t => !t.reads.isEmpty) with
   | some t => [s.asker a 0 0 t.rq.anc t.rq.stamp]
   | none => []) ++
  (match (x.mdwq.mapIdx (fun i e => (i, e))).find? (fun e => s.mdwqDue p e.1 e.2) with
   | some e => [s.asker a 1 1 e.2.anc e.2.stamp]
   | none => []) ++
  (match (if s.rowDue (p / 8) (p % 8) then some ((s.rowReq (p / 8) (p % 8)).getD { stamp := s.stamp16 }) else none) with
   | some r => [s.asker a 2 2 r.anc r.stamp]
   | none => [])

/-- The channel's command slot granted to requester n of pan p, if it ranks highest. -/
def State.chanSlot (s : State) (p n : Nat) : Option State := s.slot (panArb p 3) (s.chanAskers p) n

/-! ### Blocks staged from the stack (R55, R222 to R224) -/

/-- The corrupt entries of a block (V 0 with D 1) made directory-only entries in P, each with its record (R55). -/
def State.fixCorrupt (s : State) (p psi : Nat) (b : BitVec 1024) : BitVec 1024 × State :=
  (mdWays b).foldl (fun (acc : BitVec 1024 × State) a =>
    if a.2.legal then acc
    else
      let e := { (a.2.withDir .p) with v := false, d := false }
      (mdSetWord acc.1 a.1 e.toNat,
       (acc.2.count p 0x13F).lineRec p psi a.2.tag 2 0x000F none a.1)) (b, s)

/-- The tracker entries that wait for the metadata of a set, in the order of their admission. -/
def Pan.mdWaiters (x : Pan) (psi : Nat) : List Nat :=
  (x.trks.filter (fun t => t.ph == .mdRead && t.psi == psi)).map (fun t => t.id)

/-- The metadata block of a set staged: the cache takes it and every waiting entry goes on; an uncorrectable one loses
the set (R223). -/
def State.stagedMd (s : State) (p k psi : Nat) (err : BitVec 1152) : State :=
  let r := s.readBlock p (slotKey psi 15) err
  let s1 := r.2.updTrk p k (fun t => { t with reads := t.reads.drop 1 })
  let x := s1.pan p
  let ids := x.mdWaiters psi
  if r.1.ue then
    let s2 := match x.mdcFilling psi with
      | some j => s1.setPan p (x.setMdcWay (psi % 1024) j {})
      | none => s1
    let s3 := s2.loseSet p psi 0x0010 psi
    ids.foldl (fun t i => match (t.pan p).trk i with
      | some u => t.lostEnd p u
      | none => t) s3
  else
    match x.mdcFilling psi with
    | none => s1
    | some j =>
      let f := s1.fixCorrupt p psi r.1.line
      let s2 := f.2.updPan p (fun y => y.mdcInstall psi j f.1 (f.1 != r.1.line))
      let s3 := (if f.1 = r.1.line then s2 else s2.mdChange p psi id).demandWb p (slotKey psi 15) r.1
      ids.foldl (fun t i => (t.updTrk p i (fun u => { u with ph := .run })).apply p i true) s3

/-- The transaction will itself write the block that its line, or the way of its victim, lies in (R239). -/
def State.rewrites (s : State) (p : Nat) (t : Trk) : Bool :=
  (s.pan p).dataEn &&
    (match t.kind with
     | .req => (if t.alloc then t.op ≤ 5 else t.op == 5) || (t.isAtomic && !(s.rv (panOff p 0x800)).testBit 0)
     | .prefetch => true
     | _ => false)

/-- The pan's correction writeback of a block read for tracker entry t, but for a block that the transaction writes itself
(R239). -/
def State.demandWbFor (s : State) (p key : Nat) (t : Trk) (o : BlockOut) : State :=
  if s.rewrites p t then s else s.demandWb p key o

/-- An uncorrectable data block of a line: its record (R224). -/
def State.stackUe (s : State) (p psi w tag : Nat) (o : BlockOut) : State :=
  (s.count p 0x139).logErr { unit := p, cls := 1, code := 0x0102, addr := some (true, localOf p psi tag),
                             detail := s.ueDetail p (slotKey psi w) o }

/-- A data block of the transaction's line staged (R222, R224). -/
def State.stagedLine (s : State) (p k : Nat) (t : Trk) (w : Nat) (err : BitVec 1152) : State :=
  let key := slotKey t.psi w
  let r := s.readBlock p key err
  let s1 := r.2.updTrk p k (fun t => { t with reads := t.reads.drop 1 })
  if r.1.ue then
    (((s1.stackUe p t.psi w t.tag r.1).updTrk p k (fun t => { t with pois := true, ueLine := true })).invAll p k t (t.ent.getD {})).progress p k
  else ((s1.updTrk p k (fun t => { t with old := some r.1.line, oldDirty := true })).demandWbFor p key t r.1).progress p k

/-- A data block of the victim staged (R74, R224). -/
def State.stagedVictim (s : State) (p k : Nat) (t : Trk) (w : Nat) (err : BitVec 1152) : State :=
  let key := slotKey t.psi w
  let r := s.readBlock p key err
  let s1 := r.2.updTrk p k (fun t => { t with reads := t.reads.drop 1 })
  let set := fun (f : Victim → Victim) (s : State) =>
    s.updTrk p k (fun t => { t with vict := t.vict.map f })
  if r.1.ue then
    let tag := match t.vict with | some v => v.ent.tag | none => t.tag
    (set (fun v => { v with poison := true, reading := false }) (s1.stackUe p t.psi w tag r.1)).progress p k
  else (set (fun v => { v with data := some r.1.line, reading := false }) (s1.demandWbFor p key t r.1)).progress p k

/-- The block that the oldest outstanding stack read of tracker entry t asked for staged. -/
def State.staged (s : State) (p : Nat) (t : Trk) (err : BitVec 1152) : State :=
  match t.reads with
  | [] => s
  | .md :: _ => s.stagedMd p t.id t.psi err
  | .line w :: _ => s.stagedLine p t.id t w err
  | .victim w :: _ => s.stagedVictim p t.id t w err

/-- STACK_DATA_STAGED (R222): the block that the entry's oldest outstanding stack read asked for arrives, its cells
disturbed by err, when the pipeline has the channel's command slot (R196). -/
def execStackDataStaged (p : Fin 64) (trk : Fin 768) (err : BitVec 1152) (s : State) : Host.Outcome State Fault Refusal :=
  next (match (if s.pipeOpen && s.stackUp p then (s.pan p).trk trk else none) with
    | none => s
    | some t =>
      if t.reads.isEmpty then s
      else
        match s.chanSlot p 0 with
        | none => s
        | some u => u.staged p t err)

/-! ### Prefetches admitted (R81, R196) -/

/-- The prefetch of a line admitted to a tracker entry, or dropped (R81); one that finds all 736 entries that it may use taken is dropped
and counted as well (log entry 193). -/
def State.prefetchNow (s : State) (p : Nat) (f : PfReq) : State :=
  let psi := f.psi
  if s.prefetchDrop p psi f.tag f.pcls.toNat then s.count p 0x116
  else
    match (s.pan p).newId false with
    | none => s.count p 0x116
    | some k =>
      let a := (s.addTrk p { id := k, kind := .prefetch, psi := psi, tag := f.tag, ph := .run,
                             rq := { pcls := f.pcls, stamp := f.stamp, anc := f.anc } }).count p 0x115
      let r := a.mdAccess p k true
      if r.1 then (r.2.applyTrk p k false).2 else r.2

/-- The first waiting prefetch of pan p admitted, when the prefetcher wins the pipeline's slot. -/
def State.prefetchNext (s : State) (p : Nat) : State :=
  match (s.pan p).pfq, (if s.homeOpen && !s.switching (p / 8) then s.slot (panArb p 0) (s.admAskers p) 24 else none) with
  | f :: l, some t => (t.updPan p (fun x => { x with pfq := l })).prefetchNow p f
  | _, _ => s

end Sys2Proof.Machine
end

