-- ==== Sys2Proof/Machine/HomeMsg.lean ====
section
/-! DEFINITION. What reaches the home from the memory ports, the agents and the timers: write-buffer traffic, read data,
completions, snoop answers, delivery marks, timeouts and gone agents (rows MDWQ_WRITE to COMB_IDLE_WRITEBACK). -/

namespace Sys2Proof.Machine

/-! ### Metadata write queue and write buffer (R62, R78, R147) -/

/-- MDWQ_WRITE (R57, R62): an entry of the metadata write queue that is due is written to slot 15 of its set, its generation
one higher, when the queue has the channel's command slot (R196). -/
def execMdwqWrite (p : Fin 64) (ix : Fin 16) (s : State) : Host.Outcome State Fault Refusal :=
  let x := s.pan p
  .next (match x.mdwq[ix.val]? with
    | none => s
    | some e =>
      match (if s.stackUp p && s.mdwqDue p ix e then s.chanSlot p 1 else none) with
      | some t =>
        (t.updPan p (fun x => ({ x with mdwq := x.mdwq.eraseIdx ix.val }.setCell (slotKey e.psi 15) (blockEncode (mdBump e.blk))).openRow
          (slotKey e.psi 15))).stackUsed (p.val / 8)
      | none => s)

/-- The pan's first HELD write-buffer entry. -/
def Pan.oldestHeld (x : Pan) : Option WbEntry := x.wb.find? (fun e => !e.sent)

/-- The transactions that waited for the completion of a line's write go on (R175). -/
def State.wakeWb (s : State) (p psi tag : Nat) : State :=
  ((s.pan p).trks.filter (fun t => t.wbWait && t.psi == psi && t.tag == tag)).foldl (fun t u =>
    (t.updTrk p u.id (fun u => { u with wbWait := false })).progress p u.id) s

/-- A posted write that failed on the far side: the pan runs the transaction of R148 on the line, in a tracker entry of
its own; none while the tracker is full. Once the home has stopped, the report alone is made (R429). -/
def State.faultTrk (s : State) (p psi tag cause : Nat) : Option State :=
  let t : Trk := { id := 0, kind := .fault, psi := psi, tag := tag, cause := cause, rq := { stamp := s.stamp16 } }
  if !s.homeOpen then some (s.faultReport p t)
  else
    match (s.pan p).newId false with
    | none => none
    | some k =>
      let x := s.pan p
      let t' : Trk := { t with id := k, ord := x.ord }
      let s1 := s.addTrk p t'
      some (if x.mayStart t' then s1.start p k else s1)

/-- A write-buffer entry sent to its memory port (R78, R314). At a retired port the write fails at once, and so does its resend (R147,
R315, R487); the entry stays while no tracker entry is free for the failure. -/
def State.wbSend (s : State) (p : Nat) (e : WbEntry) : State :=
  match s.portGone p e.psi e.tag with
  | some (m, h) =>
    (match (s.updPan p (fun x => x.wbDrop e.psi e.tag)).faultTrk p e.psi e.tag 2 with
     | some t => ((t.count (uMp m) 0x105).reqFail m h true 1).wakeWb p e.psi e.tag
     | none => s)
  | none => (s.updPan p (fun x => x.wbUpd e.psi e.tag (fun e => { e with sent := true }))).memReq p 0 1 e.psi e.tag e.stamp e.anc e.poison

/-- WB_SEND (R78, R429): the oldest HELD entry leaves; once a fatal record stands, for the flush alone, until the entry to HOLD is
complete. -/
def execWbSend (p : Fin 64) (s : State) : Host.Outcome State Fault Refusal :=
  next (if s.homeOpen || (s.pan p).flushing || (s.mode.busy && s.mode.target == .hold) then
      (match (s.pan p).oldestHeld with
       | some e => s.wbSend p e
       | none => s)
    else s)

/-- The completion of a write-buffer entry's write (R30, R147). A write that no decoder took has failed (R313). -/
def State.wbDone (s : State) (p psi tag : Nat) (e : WbEntry) (st : MemSt) : State :=
  let mine := fun (r : MReq) => r.pan == p && r.kind == 1 && r.psi == psi && r.tag == tag
  let free := fun (s : State) => ((s.dropMemReq mine).updPan p (fun x => x.wbDrop psi tag)).combDrain p
  let again := fun (cause : Nat) (f : State → State) =>
    match (free s).faultTrk p psi tag cause with
    | some s1 => (f s1).wakeWb p psi tag
    | none => s
  match s.findMemReq mine with
  | none => again 2 id
  | some (m, r) =>
    match st with
    | .ok => (free s).wakeWb p psi tag
    | .poison => again 1 id
    | _ =>
      if !e.resent then
        ((s.updPan p (fun x => x.wbUpd psi tag (fun e => { e with resent := true }))).updMemReq mine
          (fun r => r.again s.now)).count (uMp m) 0x105
      else again 2 (fun s1 => s1.reqFail m r.half true 3)

/-! ### Messages of the memory ports in the pan's brine queues (R203, R210, R212) -/

/-- The response and data queues of pan p whose head may be read, as requesters of its answer slot (R196). -/
def State.ansAskers (s : State) (p : Nat) : List Asker :=
  (List.range 32).flatMap (fun q => [1, 2].filterMap (fun vc =>
    match (s.queue (p / 8) (brineQ p q vc)).msgs with
    | [] => none
    | m :: _ => if m.partial_ || m.broken then none
      else some (s.asker (panArb p 1) (2 * q + vc - 1) (if q < 16 then 0 else if q < 24 then 1 else 2) false m.stamp)))

/-- The pan's answer slot granted to the queue of a port and channel, if it ranks highest. -/
def State.ansSlot (s : State) (p q vc : Nat) : Option State := s.slot (panArb p 1) (s.ansAskers p) (2 * q + vc - 1)

/-- What memory port m returns for tracker entry k of pan p passes through the port's queue of channel vc, an aborted message ahead
of it being discarded; none while its cells cannot be claimed, its port is quarantined, another port is granted a packer or another queue has the pan's answer slot
(R196, R199, R210). -/
def State.fromMem (s : State) (p m vc k : Nat) (data : Bool) : Option State :=
  let b := p / 8
  let n := brineQ p (24 + m) vc
  let s0 := match (s.queue b n).msgs with
    | x :: _ => if x.broken then s.discardMsg p b n x else s
    | [] => s
  let a := s0.asker (bedArb b) (24 + m) 3 false s.stamp16
  let got := if s0.finishes b n (.mem k data) then some s0
    else if (s0.claim b (24 + m) vc (cellsOf (bodyBytes (.mem k data)))).isNone then none
    else s0.slot (bedArb b) (a :: (s0.goingIn b).map (s0.packAsker b)) (24 + m)
  match got.bind (fun t => t.brinePut p (24 + m) vc (.mem k data) s.stamp16) with
  | none => none
  | some t => (t.ansSlot p (24 + m) vc).map (fun u => u.popQueue b n)

/-- The state after a message of memory port m that carries one line back, or none, has reached pan p and had the effect f; the
message waits at its port otherwise. -/
def State.memSays (s : State) (p m vc k : Nat) (data : Bool) (f : State → State) : State :=
  match s.fromMem p m vc k data with
  | some t => f t
  | none => s

/-- An S2M message that no memory port accepts, for a line, discarded and counted at the line's port (R311); where no decoder maps the
line, and where the tracker entry named stands for none, at port 0 (log entry 92). -/
def State.s2mOther (s : State) (p : Nat) (line : Option (Nat × Nat)) : State :=
  s.count (uMp (match line.bind (fun l => s.linePort p l.1 l.2) with | some x => x.1 | none => 0)) 0x107

/-- The line of a tracker entry. -/
def State.trkLine (s : State) (p k : Nat) : Option (Nat × Nat) := ((s.pan p).trk k).map (fun t => (t.psi, t.tag))

/-- CMP (R30): a memory port's completion of a SENT entry's write; none comes before the write has been sent. An aborted message is no
completion of a write: the failures of a write are an error completion, MP_LINK_DOWN and MP_COMPLETION_TIMEOUT (R147, R315). A message
that is no completion is discarded and counted (R311). -/
def execCmp (p : Fin 64) (psi : BitVec 20) (ltag : BitVec 11) (st : MemSt) (s : State) : Host.Outcome State Fault Refusal :=
  let mine := fun (r : MReq) => r.pan == p.val && r.kind == 1 && r.psi == psi.toNat && r.tag == ltag.toNat
  next (if st = .other then s.s2mOther p (some (psi.toNat, ltag.toNat))
    else
    match (s.pan p).wbFind psi.toNat ltag.toNat with
    | none => s
    | some e =>
      if !e.sent then s
      else
        match s.findMemReq mine with
        | none => s.wbDone p psi.toNat ltag.toNat e st
        | some (m, r) =>
          if !r.sent || st = .failed then s
          else s.memSays p m 1 0 false (fun t => t.wbDone p psi.toNat ltag.toNat e st))

/-! ### Read data (R65, R142, R314, R315) -/

/-- The line of a read delivered to its transaction; port names the port of a poisoned one (R83, R142). Data that comes before
the set's metadata waits for it (R65). -/
def State.deliver (s : State) (p k : Nat) (line : BitVec 1024) (psn : Bool) (port : Nat) : State :=
  match (s.pan p).trk k with
  | none => s
  | some t =>
    if !t.mem then s
    else if t.ph != .run then s.updTrk p k (fun t => { t with mem := false, spec := some (line, psn, port) })
    else (s.useMem p k t line psn port).progress p k

/-- The end of a read's request at its port: the latency is added (R420). -/
def State.readDone (s : State) (m : Nat) (r : MReq) (mine : MReq → Bool) : State :=
  (s.dropMemReq mine).count (uMp m) 0x109 (2 * min 4095 (dt r.at_ s.now))

/-- The effect of an answer to read r of port m for tracker entry k (R65, R315). -/
def State.readEnds (s : State) (p k m : Nat) (r : MReq) (mine : MReq → Bool) (line : BitVec 1024) (psn : Bool) (st : MemSt) : State :=
  let fin := fun (s : State) (bad : Bool) => if r.kind = 5 then s.count p 0x111 else s.deliver p k line bad m
  match st with
  | .ok | .poison =>
    let bad := psn || st == .poison
    fin (((s.readDone m r mine).mpGot m 128).count (uMp m) 0x103 (b2n bad)) bad
  | .error =>
    if r.resent then fin ((s.readDone m r mine).reqFail m r.half false 3) true
    else s.updMemReq mine (fun r => r.again s.now)
  | .failed | .other => fin ((s.readDone m r mine).reqFail m r.half false 2) true

/-- MEMDATA (R314, R315): the answer to the oldest read of a tracker entry. An error completion has the read sent once
more; a read that fails is delivered as poisoned data; a speculative read that is not needed is discarded. A message that is no
answer is discarded and counted (R311). -/
def execMemdata (p : Fin 64) (trk : Fin 768) (line : BitVec 1024) (psn : Bool) (st : MemSt) (s : State) :
    Host.Outcome State Fault Refusal :=
  let mine := fun (r : MReq) => r.pan == p.val && r.trk == trk.val && (r.kind == 0 || r.kind == 5)
  next (if st = .other then s.s2mOther p (s.trkLine p trk)
    else if !s.homeOpen then s
    else
      match s.findMemReq mine with
      | none => s.deliver p trk line true 0
      | some (m, r) =>
        if !r.sent then s
        else if st = .ok ∨ st = .poison then s.memSays p m 2 trk true (fun t => t.readEnds p trk m r mine line psn st)
        else s.memSays p m 1 trk false (fun t => t.readEnds p trk m r mine line psn st))

/-- The atomics that found the stage full go on (R175). -/
def State.wakeStage (s : State) : State :=
  s.pans.foldl (fun t x => (x.2.trks.filter (fun u => u.ph == .run && u.op == 8 && !u.atom)).foldl
    (fun t u => t.progress x.1 u.id) t) s

/-- The end of an operation at the atomic stage (R169, R170, R175). -/
def State.atomDone (s : State) (p k m half : Nat) (t : Trk) (line : BitVec 1024) (st : MemSt) : State :=
  match st with
  | .ok =>
    let o := atomRun t.rq.atom t.rq.addr line
    ((((s.updTrk p k (fun t => { t with atom := false, old := some line, result := some o.line, resp := o.resp, written := true })).atomFlags
      p o.flags).mpGot m 128).mpSent m 128).progress p k
  | _ =>
    let s0 := if st == .poison then (s.mpGot m 128).count (uMp m) 0x103 else s
    let s1 := if st == .error then s0.reqFail m half false 3 else s0
    let s2 := if st == .poison && !t.posted then s1.poisonRec p t.psi t.tag 0x000C 0 none m else s1
    (s2.atomFails p k t).progress p k

/-- ATOMIC_RESULT (R175): the atomic stage of a memory port has read the line given, computed and written it back, or
has met poison or an error. -/
def execAtomicResult (p : Fin 64) (trk : Fin 768) (line : BitVec 1024) (st : MemSt) (s : State) :
    Host.Outcome State Fault Refusal :=
  let mine := fun (r : MReq) => r.pan == p.val && r.trk == trk.val && r.kind == 2
  next (if st = .other then s.s2mOther p (s.trkLine p trk)
    else
    match (if s.homeOpen then (s.pan p).trk trk else none) with
    | none => s
    | some t =>
      if !t.atom then s
      else
        match s.findMemReq mine with
        | some (m, r) =>
          if !r.sent then s
          else s.memSays p m 2 trk true (fun u =>
            let v := u.dropMemReq mine
            let w := match st with
              | .ok => (v.grant2 (mpArb m) p (p / 8) r.stamp).count (uMp m) 0x101 2
              | .failed => v.reqFail m r.half false 2
              | _ => v
            (w.atomDone p trk m r.half t line st).wakeStage)
        | none => s.atomDone p trk 0 0 t line .failed)

/-! ### Snoop answers (R94, R107, R130, R131, R133, R139, R144) -/

/-- The first snoop of a list that satisfies f changed by g. -/
def updSnp (f : Snp → Bool) (g : Snp → Snp) (l : List Snp) : List Snp :=
  match l with
  | [] => []
  | x :: t => if f x then g x :: t else x :: updSnp f g t

/-- What the owner's answer does to its transaction or victim (R113, R130, R131, R144). v: the victim's owner; bad: an SRAM
error in its data has been recorded instead (R244). The answer to
the SnpInv that follows a poisoned SnpCur brings nothing new: the line is poisoned already. After NotPresent or Ack a WrInvFull of
another agent too waits for the owner's WrBackM (log entry 40). -/
def State.ownerAnswer (s : State) (p : Nat) (t : Trk) (v : Bool) (a : Ans) (bad : Bool) : State :=
  let i := t.getInv v
  let mine := fun (x : Snp) => x.owner && x.st == .sent && x.tgt == .agent a.src
  let put := fun (s : State) (st : SnpSt) (f : Inv → Inv) =>
    s.updTrk p t.id (fun t => t.setInv v (f { i with snps := updSnp mine (fun x => { x with st := st }) i.snps }))
  let full := !v && t.kind == .req && t.op == 4
  let tag := if v then (match t.vict with | some x => x.ent.tag | none => t.tag) else t.tag
  if i.absorbed.isSome || (t.pois && i.own.isSome && (i.snps.any (fun x => mine x && x.op == .inv)) && a.kind == .ackData) then
    put s .done id
  else
    match a.kind with
    | .ackData =>
      let s1 := put s .done (fun i => { i with own := some (a.data, a.psn) })
      if a.psn && !full then
        let s2 := if bad || (t.pois && !v) then s1 else s1.poisonRec p t.psi tag 0x000D 1 (some a.src) 0
        if v then s2.updTrk p t.id (fun t => { t with vict := t.vict.map (fun x => { x with poison := true }) })
        else
          let s3 := s2.updTrk p t.id (fun t => { t with pois := true })
          if t.op = 3 ∧ t.kind = .req then
            let r := s3.issue p t.id t.psi t.tag .inv a.src true
            r.2.updTrk p t.id (fun t => { t with inv := { t.inv with snps := t.inv.snps ++ [r.1] } })
          else s3
      else s1
    | _ =>
      if !v && t.kind == .req && t.rq.src == a.src then
        if full || t.pois then put s .done id
        else (put s .done (fun i => { i with lost := true })).poisonRec p t.psi t.tag 0x0014 5 (some a.src) 0
      else (put s .waitWb id).count p 0x131

/-- The answer of an agent that a pointer named (R107, R133). -/
def State.sharerAnswer (s : State) (p : Nat) (t : Trk) (v : Bool) (a : Ans) : State :=
  let i := t.getInv v
  let mine := fun (x : Snp) => !x.owner && x.st == .sent && x.tgt == .agent a.src
  let s1 := s.updTrk p t.id (fun t => t.setInv v { i with snps := updSnp mine (fun x => { x with st := .done }) i.snps })
  match a.kind with
  | .ackData => s1.logErr { unit := p, cls := 2, code := 0x0006, agent := some a.src.toNat, detail := a.htag.toNat }
  | _ => s1

/-- An outstanding snoop to an agent. -/
def Inv.awaits (i : Inv) (a : BitVec 12) : Option Snp := i.snps.find? (fun x => x.st == .sent && x.tgt == .agent a)

/-- An answer that matches no outstanding snoop of pan p: late, or a protocol error (R133). -/
def State.strayAnswer (s : State) (p : Nat) (a : Ans) : State :=
  let key := fun (e : Nat × SnpTgt) => e.1 == a.htag.toNat % 1024 && e.2 == .agent a.src
  let x := s.pan p
  if x.late.any key then (s.setPan p { x with late := (dropFirst key x.late).2 }).count p 0x132
  else (s.count p 0x133).logErr { unit := p, cls := 2, code := 0x0006, agent := some a.src.toNat, detail := a.htag.toNat }

/-- A snoop answer matched at pan p (R133). -/
def State.panAnswer (s : State) (p : Nat) (a : Ans) (bad : Bool) : State :=
  let k := a.htag.toNat % 1024
  let s0 := match a.kind with | .notPresent => s.count p 0x12B | _ => s
  match (if a.hdev.toNat = s.me then (s.pan p).trk k else none) with
  | none => s0.strayAnswer p a
  | some t =>
    match t.inv.awaits a.src with
    | some x => ((if x.owner then s0.ownerAnswer p t false a bad else s0.sharerAnswer p t false a)).progress p k
    | none =>
      match (t.getInv true).awaits a.src with
      | some x => ((if x.owner then s0.ownerAnswer p t true a bad else s0.sharerAnswer p t true a)).progress p k
      | none => s0.strayAnswer p a

/-- Entry k of the collector. -/
def State.collEntry (s : State) (k : Nat) : Option Collect := sget s.fab.coll k none

/-- Entry k of the collector replaced. -/
def State.setColl (s : State) (k : Nat) (c : Option Collect) : State := { s with fab := { s.fab with coll := sset s.fab.coll k c none } }

/-- A collector entry whose SnpInvs are all settled: GACK leaves, with a record when one expired (R306). -/
def State.collDone (s : State) (k : Nat) : State :=
  match s.collEntry k with
  | none => s
  | some c =>
    if c.snps.all (fun x => x.st == .done) then
      let s1 := (s.setColl k none).notice c.home 0 (.gack (BitVec.ofNat 16 c.htag))
      if c.expired then s1.logD uIngress 0 0x030C c.home else s1
    else s

/-- A snoop answer matched at the collector, which sent the HTAG 0x0300 + k with the snoops of entry k (R306). Unit 0x121 has no event
for late and discarded answers, so none is counted (R133, R420; log entry 188). -/
def State.collAnswer (s : State) (a : Ans) : State :=
  let k := a.htag.toNat % 256
  let ours := a.htag.toNat / 256 == 3
  let mine := fun (x : Snp) => ours && x.st == .sent && x.tgt == .agent a.src
  let key := fun (e : Nat × BitVec 12) => ours && e.1 == k && e.2 == a.src
  let stray :=
    if s.fab.late.any key then { s with fab := { s.fab with late := (dropFirst key s.fab.late).2 } }
    else s.logErr { unit := uIngress, cls := 2, code := 0x0006, agent := some a.src.toNat, detail := a.htag.toNat }
  match s.collEntry k with
  | none => stray
  | some c =>
    if c.snps.any mine then
      let s1 := (s.setColl k (some { c with snps := updSnp mine (fun x => { x with st := .done }) c.snps })).collDone k
      match a.kind with
      | .ackData => s1.logErr { unit := uIngress, cls := 2, code := 0x0006, agent := some a.src.toNat, detail := a.htag.toNat }
      | _ => s1
    else stray

/-- The next answer of port q for pan dst, or for the collector (64), taken when it is of the given kind; at a pan its queue must
win the answer slot (R196). -/
def State.takeAns (s : State) (dst q : Nat) (kind : AnsKind) : State :=
  let n := ansQueue dst q (ansVc { kind := kind })
  if !s.homeOpen then s
  else
    match (s.queue n.1 n.2).msgs with
    | [] => if dst = 64 then s else s.underrun n.1 n.2
    | m :: _ =>
      if m.broken && dst != 64 then s.discardMsg dst n.1 n.2 m
      else
        match m.body with
        | .ans a =>
          let a' : Ans := if m.bad then { a with psn := true } else a
          if a.kind ≠ kind || m.partial_ then s
          else if dst = 64 then (s.popQueue n.1 n.2).collAnswer a'
          else
            match s.ansSlot dst q (ansVc { kind := kind }) with
            | some t => (t.popQueue n.1 n.2).panAnswer dst a' m.bad
            | none => s
        | _ => s

/-- ACK (R133). -/
def execAck (dst : Fin 65) (q : Fin 32) (s : State) : Host.Outcome State Fault Refusal := next (s.takeAns dst q .ack)
/-- NOT_PRESENT (R131). -/
def execNotPresent (dst : Fin 65) (q : Fin 32) (s : State) : Host.Outcome State Fault Refusal := next (s.takeAns dst q .notPresent)
/-- ACKDATA (R133). -/
def execAckdata (dst : Fin 65) (q : Fin 32) (s : State) : Host.Outcome State Fault Refusal := next (s.takeAns dst q .ackData)

/-! ### Notices in the response queues (R203) -/

/-- A brine message is a notice that satisfies f. -/
def BBody.isNote (b : BBody) (f : Notice → Bool) : Bool := match b with | .note n => f n | _ => false

/-- A notice for pan p that satisfies f waits at a port for cells of its queue. -/
def State.noteWaits (s : State) (p : Nat) (f : Notice → Bool) : Bool :=
  s.fab.inWait.any (fun m => m.pan == p && m.body.isNote f) ||
    s.knuckles.any (fun k => k.2.rx.any (fun e => e.dst == some (p, 1) && (rxBody e.msg.body).isNote f))

/-- A notice for pan p that satisfies f read from the response queue at whose head it lies, when that queue has the pan's answer
slot. None: it has not entered its queue, or it stands behind other messages (R17, R203). -/
def State.takePanNote (s : State) (p : Nat) (f : Notice → Bool) : Option State :=
  if s.noteWaits p f then none
  else
    match (List.range 32).find? (fun q => (s.queue (p / 8) (brineQ p q 1)).msgs.any (fun m => m.body.isNote f)) with
    | none => none
    | some q =>
      match (s.queue (p / 8) (brineQ p q 1)).msgs with
      | m :: _ => if m.body.isNote f then (s.ansSlot p q 1).map (fun t => t.popQueue (p / 8) (brineQ p q 1)) else none
      | [] => none

/-! ### Delivery marks and hold windows (R98, R117, R140) -/

/-- DMARK (R98, R117, R140): the mark of a grant ends its transaction, and that of M opens the owner's hold window; one that
comes too late is counted (R303). -/
def execDmark (p : Fin 64) (agent : BitVec 12) (tag : BitVec 10) (lost : Bool) (s : State) : Host.Outcome State Fault Refusal :=
  next (match s.takePanNote p (fun n => n.agent == agent && n.body == .dmark tag (BitVec.ofNat 6 p) lost) with
    | none => s
    | some s1 =>
      if !s.homeOpen then s1
      else
        match (s.pan p).trks.find? (fun t => t.grant.isSome && t.mark.isNone && t.rq.src == agent && t.rq.tag == tag) with
        | none => s1.count p 0x146
        | some t =>
          let s2 := s1.updTrk p t.id (fun t => { t with mark := some lost })
          (if t.grant = some 2 ∧ !lost ∧ t.back.isNone then s2.openHold p t.psi t.tag agent else s2).progress p t.id)

/-- HOLD_WINDOW_END (R117): the windows of the line whose time is over end, and the snoops they held leave. -/
def execHoldWindowEnd (p : Fin 64) (psi : BitVec 20) (ltag : BitVec 11) (s : State) : Host.Outcome State Fault Refusal :=
  let ended := (s.pan p).holds.filter (fun h =>
    h.psi == psi.toNat && h.tag == ltag.toNat && decide (h.until_ ≤ s.panCycles (p.val / 8)))
  next (if !s.homeOpen then s
    else ended.foldl (fun t h => (t.updPan p (fun x => x.closeHold h.psi h.tag h.agent)).releaseHeld p h.psi h.tag h.agent) s)

/-! ### Snoop timeouts (R134 to R136) -/

/-- TMO_US in nanoseconds (R163). -/
def State.tmoNs (s : State) : Nat := 1000 * min 1000000 (max 10 (s.rf 0x200 19 0))

/-- A snoop that counts as acknowledged on expiry: the record SNP_LATE (R135). -/
def State.snpLate (s : State) (p psi tag : Nat) (tgt : SnpTgt) : State :=
  let s1 := s.count p 0x134
  match tgt with
  | .agent a => s1.lineRec p psi tag 0 0x0007 (some a) 0
  | .dev d => s1.lineRec p psi tag 0 0x0007 none d.toNat

/-- The expiry of snoop x of a tracker entry (R135, R136). -/
def State.expire (s : State) (p : Nat) (t : Trk) (v : Bool) (x : Snp) : State :=
  let i := t.getInv v
  let tag := if v then (match t.vict with | some y => y.ent.tag | none => t.tag) else t.tag
  let s1 := s.updTrk p t.id (fun t => t.setInv v { i with snps := updSnp (· == x) (fun x => { x with st := .done }) i.snps })
  let s2 :=
    if x.st == SnpSt.sent then
      let s3 := s1.updPan p (fun y => { y with late := y.late ++ [(t.id, x.tgt)] })
      match x.tgt with
      | .agent a => s3.notice (agDev a) a .tmo (some p)
      | .dev _ => s3
    else s1
  let full := !v && t.kind == .req && t.op == 4
  if x.owner && i.absorbed.isNone && !full then
    ((s2.updTrk p t.id (fun t => t.setInv v { (t.getInv v) with lost := true })).count p 0x135).poisonRec p t.psi tag 0x0008 4
      (match x.tgt with | .agent a => some a | .dev _ => none) 0
  else s2.snpLate p t.psi tag x.tgt

/-- A snoop whose timer has run out (R134). -/
def State.overdue (s : State) (tgt : SnpTgt) (x : Snp) : Bool :=
  let lim := match tgt with | .agent _ => s.tmoNs | .dev _ => 2 * s.tmoNs
  x.tgt == tgt && (x.st == .sent || x.st == .waitWb) && decide (lim ≤ dt x.since s.now)

/-- The expiry of a SnpInv of the collector (R135, R306). -/
def State.collExpire (s : State) (k : Nat) (tgt : SnpTgt) : State :=
  match s.collEntry k with
  | none => s
  | some c =>
    match c.snps.find? (s.overdue tgt), tgt with
    | some x, .agent a =>
      let s1 := s.setColl k (some { c with snps := updSnp (· == x) (fun x => { x with st := .done }) c.snps, expired := true })
      let s2 := { s1 with fab := { s1.fab with late := s1.fab.late ++ [(k, a)] } }
      ((s2.notice (agDev a) a .tmo).logErr { unit := uIngress, cls := 0, code := 0x0007, agent := some a.toNat }).collDone k
    | _, _ => s

/-- SNOOP_TIMEOUT (R134, R135): the timer of a snoop of pan dst's tracker entry, or of the collector's entry (64),
expires; nothing happens while it has not. -/
def execSnoopTimeout (dst : Fin 65) (ix : Fin 768) (tgt : SnpTgt) (s : State) : Host.Outcome State Fault Refusal :=
  next (if !s.homeOpen then s
    else if dst.val = 64 then s.collExpire ix tgt
    else
      match (s.pan dst).trk ix with
      | none => s
      | some t =>
        match t.inv.snps.find? (s.overdue tgt) with
        | some x => (s.expire dst t false x).progress dst ix
        | none =>
          match (t.getInv true).snps.find? (s.overdue tgt) with
          | some x => (s.expire dst t true x).progress dst ix
          | none => s)

/-! ### Gone agents at a pan (R138 to R141) -/

/-- The snoops of an invalidation to a gone agent settled (R139): needData when the line's data is wanted. Answers whether
the owner's data is lost. -/
def Inv.settleGone (i : Inv) (a : BitVec 12) (needData : Bool) : Bool × Inv :=
  let mine := fun (x : Snp) => x.tgt == .agent a && x.st != .done
  let lost := needData && i.own.isNone && i.snps.any (fun x => x.owner && mine x)
  (lost, { i with snps := i.snps.map (fun x => if mine x then { x with st := .done } else x), lost := i.lost || lost })

/-- The snoops of a tracker entry to a gone agent settled at once (R139). -/
def State.settleTrk (s : State) (p : Nat) (a : BitVec 12) (t : Trk) : State :=
  let full := t.kind == .req && t.op == 4
  let r := t.inv.settleGone a (!full)
  let w := (t.getInv true).settleGone a true
  let s1 := s.updTrk p t.id (fun t => (t.setInv false r.2).setInv true w.2)
  let s2 := if r.1 then s1.poisonRec p t.psi t.tag 0x000B 6 (some a) 0 else s1
  if w.1 then s2.poisonRec p t.psi (match t.vict with | some y => y.ent.tag | none => t.tag) 0x000B 6 (some a) 0 else s2

/-- The gone bit of an agent set at pan p, its hold windows ended and counted as early closes (log entry 39), its snoops settled and
the cleanup routine called (R138, R139, R141). -/
def State.goneAt (s0 : State) (p : Nat) (agent : BitVec 12) : State :=
  let x := s0.pan p
  let closed := (x.holds.filter (fun h => h.agent == agent)).length
  let x' : Pan :=
    { x with
      gone := if x.gone.contains agent.toNat then x.gone else (x.gone.filter (· < agent.toNat)) ++ [agent.toNat] ++ (x.gone.filter (agent.toNat < ·))
      holds := x.holds.filter (fun h => h.agent != agent)
      cleanLeft := x.cleanLeft.filter (fun c => c.1 != agent.toNat) ++ [(agent.toNat, 0, 0)] }
  let s1 := (s0.setPan p x').count p 0x12D closed
  let s2 := x.trks.foldl (fun t u => t.settleTrk p agent u) s1
  let s3 := ({ s2 with fab := { s2.fab with cleanDone := supd s2.fab.cleanDone agent.toNat 0 (fun v => setBits v p p 0) } }).raiseBg p 0x04
  if s0.homeOpen then x.trks.foldl (fun t u => t.progress p u.id) s3 else s3

/-- GONE (R138, R139, R141): the notice that an agent is gone reaches a pan. -/
def execGone (p : Fin 64) (agent : BitVec 12) (s : State) : Host.Outcome State Fault Refusal :=
  next (match s.takePanNote p (fun n => n.agent == agent && (match n.body with | .gone _ => true | _ => false)) with
    | some t => t.goneAt p agent
    | none => s)

/-- UNGONE (R141): the gone bit is cleared. -/
def execUngone (p : Fin 64) (agent : BitVec 12) (s : State) : Host.Outcome State Fault Refusal :=
  next (match s.takePanNote p (fun n => n.agent == agent && n.body == .ungone) with
    | some t => t.updPan p (fun x => x.clearGone agent)
    | none => s)

/-! ### The combining buffer's idle entries (R179) -/

/-- COMB_IDLE in pan cycles (R183). -/
def State.combIdle (s : State) (p : Nat) : Nat := max 16 (s.rf (panOff p 0x800) 31 16)

/-- A combining-buffer entry that has been idle for COMB_IDLE pan cycles written back; it waits while its stack rests, which
it does not wake (R453), or the write buffer is full. -/
def State.combIdleBack (s : State) (p : Nat) (e : CombEntry) : State :=
  if s.combIdle p ≤ s.panCycles (p / 8) - e.last then s.combBack p e 0x156 else s

/-- COMB_IDLE_WRITEBACK (R179). -/
def execCombIdleWriteback (p : Fin 64) (psi : BitVec 20) (ltag : BitVec 11) (s : State) : Host.Outcome State Fault Refusal :=
  .next (match (if s.homeOpen then (s.pan p).combFind psi.toNat ltag.toNat else none) with
    | some e => s.combIdleBack p e
    | none => s)

end Sys2Proof.Machine
end

