-- ==== Sys2Proof/Machine/Ingress.lean ====
section
/-! DEFINITION. What a Hinge port does with the messages of its agents, Fences, grants on their way out, and the notices
that reach an agent's port (R39 to R42, R91 to R93, R123, R125, R136 to R141, R149, R150, R168, R278). -/

namespace Sys2Proof.Machine

/-! ### Posted-fault log (R147 to R150) -/

/-- Fields of a stored posted-fault record (R149). -/
def pfSeqOf (w : List (BitVec 64)) : Nat := bitsOf (w.headD 0).toNat 63 32
def pfOrig (w : List (BitVec 64)) : Nat := bitsOf (w.headD 0).toNat 15 4
def pfDev (w : List (BitVec 64)) : Bool := (w.headD 0).toNat.testBit 3
def pfSeen (w : List (BitVec 64)) : Bool := (w.headD 0).toNat.testBit 2

/-- The record marked seen. -/
def pfMark (w : List (BitVec 64)) : List (BitVec 64) :=
  match w with
  | [] => []
  | h :: t => BitVec.ofNat 64 (setBits h.toNat 2 2 1) :: t

/-- The four words of a posted-fault record (R149). -/
def pfWords (seq cause orig : Nat) (dev : Bool) (time spa unit : Nat) : List (BitVec 64) :=
  [ BitVec.ofNat 64 (seq % 2 ^ 32 * 2 ^ 32 + cause % 65536 * 2 ^ 16 + orig % 4096 * 16 + b2n dev * 8),
    BitVec.ofNat 64 time, BitVec.ofNat 64 (spa % 2 ^ 52), BitVec.ofNat 64 (unit % 4096 * 2 ^ 52) ]

/-- A record placed in the posted-fault log of 1,024 (R149): the log, and whether the new record was dropped. -/
def pfPlace (log : List (List (BitVec 64))) (w : List (BitVec 64)) : List (List (BitVec 64)) × Bool :=
  if log.length < 1024 then (log ++ [w], false)
  else
    let r0 := dropFirst pfSeen log
    if r0.1 then (r0.2 ++ [w], false)
    else
      let r1 := dropFirst pfDev log
      if r1.1 then (r1.2 ++ [w], false) else (log, true)

/-- A posted-fault record written, and vector POSTED_FAULT raised (R149). -/
def State.pfWrite (s : State) (orig : BitVec 12) (dev : Bool) (cause time spa unit : Nat) : State :=
  let e := s.err
  let r := pfPlace e.pf (pfWords e.pfSeq cause orig.toNat dev time spa unit)
  let first := r.2 && !e.pfOvf
  let e' : ErrUnit :=
    { e with
      pf := r.1
      pfSeq := (e.pfSeq + 1) % 2 ^ 32
      pfOvf := e.pfOvf || r.2
      pfDropped := satAdd e.pfDropped (b2n r.2) 2047
      marks := if r.2 && !dev && sget e.marks orig.toNat 0 == 0 then sset e.marks orig.toNat (e.pfSeq + 1) 0 else e.marks }
  ({ s with err := e' } : State).raise (4 :: (if first then [6] else []))

/-- The older of two sequence numbers modulo 2^32 (R150). -/
def olderSeq (a b : Nat) : Nat := if (b + 2 ^ 32 - a) % 2 ^ 32 < 2 ^ 31 then a else b

/-- PF and PFSEQ of a FenceDone for an agent (R150). -/
def ErrUnit.fenceStat (e : ErrUnit) (a : BitVec 12) : Option Nat :=
  let rec_ := (e.pf.find? (fun w => pfOrig w == a.toNat && !pfDev w && !pfSeen w)).map pfSeqOf
  let mark := match sget e.marks a.toNat 0 with | 0 => none | n + 1 => some n
  match rec_, mark with
  | some x, some y => some (olderSeq x y)
  | some x, none => some x
  | none, y => y

/-- The agent's records marked seen and its drop mark cleared, as a FenceDone leaves (R150). -/
def ErrUnit.fenceSeen (e : ErrUnit) (a : BitVec 12) : ErrUnit :=
  { e with pf := e.pf.map (fun w => if pfOrig w == a.toNat && !pfDev w then pfMark w else w)
           marks := sset e.marks a.toNat 0 0 }

/-! ### Reception of requests (R39, R41, R91, R92, R123, R168, R278, R282, R425, R428) -/

/-- A port's own answer put into its egress queue. -/
def State.answer (s : State) (m : OutMsg) : State := s.portSays m

/-- The port nacks a request (R120, R425, R428). -/
def State.portNack (s : State) (r : Req) (rsn retry : Nat) : State :=
  s.answer (.nack r.src r.tag
    { ncnt := BitVec.ofNat 8 (satAdd r.ncnt.toNat 1 255), stamp := r.stamp, anc := r.anc, retry := BitVec.ofNat 12 retry,
      rsn := BitVec.ofNat 3 rsn })

/-- A record of a Hinge port. -/
def State.hingeRec (s : State) (p code : Nat) (agent : BitVec 12) (detail : Nat) : State :=
  s.logErr { unit := uHinge p, cls := 2, code := code, agent := some agent.toNat, detail := detail }

/-- The request as the port takes it: its stamp and ancient bit under R91 and R187, its class under R249. -/
def State.stamped (s : State) (p : Nat) (r : Req) : Req :=
  let st : BitVec 16 := if r.ncnt = 0 then s.stamp16 else r.stamp
  { r with stamp := st, anc := (r.ncnt != 0 && r.anc) || s.ancient st.toNat, pcls := BitVec.ofNat 4 (s.agClass p (agNum r.src)) }

/-- The answers of R41 for a request that goes no further: Poisoned, or Ack when it writes. -/
def mapMissAnswer (r : Req) : OutMsg :=
  let reads := r.opc.toNat ≤ 3 || ((r.opc = 7 || r.opc = 8) && r.atom.ret)
  if reads then .poisoned r.src r.tag else .ack r.src r.tag 0

/-- A map miss counted, recorded at most once per microsecond, and answered (R41). -/
def State.mapMiss (s : State) (p : Nat) (r : Req) : State :=
  let s1 := s.count (uHinge p) 0x11B
  let h := s1.hinge p
  let s2 := if h.missAt = 0 ∨ 1000 ≤ dt (h.missAt - 1) s1.now then
      (s1.setHinge p { h with missAt := s1.now + 1 }).logErr
        { unit := uHinge p, cls := 2, code := 0x0001, addr := some (false, r.addr.toNat), agent := some r.src.toNat }
    else s1
  s2.answer (mapMissAnswer r)

/-- A Fence at its port: held, or refused when 16 Fences of the agent are outstanding (R125). -/
def State.takeFence (s : State) (p : Nat) (r : Req) : State :=
  let h := s.hinge p
  if 16 ≤ (h.fences.filter (fun f => f.src == r.src)).length then
    ((s.count (uHinge p) 0x11F).hingeRec p 0x0017 r.src r.tag.toNat).answer
      (.nack r.src r.tag { ncnt := 1, stamp := r.stamp, anc := r.anc, retry := 64, rsn := 0 })
  else s.setHinge p { h with fences := h.fences ++ [{ src := r.src, tag := r.tag, order := h.order }], order := h.order + 1 }

/-- A request with a home: it becomes outstanding at the port and is forwarded as soon as R152 and R301 allow. -/
def State.outstanding (s : State) (p : Nat) (r : Req) (dev l units : Nat) : State :=
  let h := s.hinge p
  let o : Outst :=
    { src := r.src, tag := r.tag, ocl := r.ocl, posted := reqPosted r, homeDev := dev, pan := panOf l, fwd := false,
      rq := some { r with homeDev := BitVec.ofNat 6 dev }, at_ := s.now, order := h.order, addr := r.addr, units := units,
      half := h.half (agNum r.src) }
  s.setHinge p { h with outst := h.outst ++ [o], order := h.order + 1 }

/-- The units of a message that the port disposes of itself, due again at once. -/
def State.oweReq (s : State) (p : Nat) (r : Req) (units : Nat) : State :=
  s.updHinge p (fun h => h.owe (h.half (agNum r.src)) 0 units)

/-- Whether a source is an agent present on port p and on the given half of it, if one is given (R278). -/
def State.srcOk (s : State) (p : Nat) (src : BitVec 12) (half : Option Bool) : Bool :=
  decide (agDev src = s.me) && decide (agPort src = p) && s.agPresent p (agNum src) &&
    (match half with | none => true | some x => (s.hinge p).half (agNum src) == x)

/-- Bytes and a message received by a Hinge port (R418, R420). -/
def State.hingeGot (s : State) (p ch n : Nat) : State :=
  ((s.updHinge p (fun h => { h with bwIn := h.bwIn + n })).count (uHinge p) 0x120 n).count (uHinge p) (0x122 + ch)

/-- The request channel of a port, after the source check: what the port answers itself and what it takes (R39 to R42,
R92, R123, R125, R168, R282, R425, R428). The rules are applied in this order, the map miss last (log entry 35). -/
def State.portRequest (s : State) (p : Nat) (r0 : Req) (units : Nat) : State :=
  let h := s.hinge p
  let r := s.stamped p r0
  let opc := r.opc.toNat
  let own := (s.oweReq p r units).count (uHinge p) 0x003 (b2n (r.anc && !r0.anc))
  if 10 ≤ opc then (own.hingeRec p 0x0003 r.src opc).answer (.poisoned r.src r.tag)
  else if h.closing ∧ opc ≠ 6 ∧ opc ≠ 9 then (own.count (uHinge p) 0x11A).answer (.targetClosing r.src r.tag)
  else if s.holding || s.mode.cur == .test then own.portNack r 2 4095
  else if s.mode.cur == .drain ∧ opc ≠ 6 ∧ opc ≠ 9 then own.portNack r 2 4095
  else if opc = 9 then own.takeFence p r
  else if s.agNc p (agNum r.src) ∧ (opc ≤ 2 ∨ opc = 6) then
    (own.hingeRec p 0x0004 r.src opc).answer (if opc = 6 then .ack r.src r.tag 0 else .poisoned r.src r.tag)
  else if (opc = 7 ∨ opc = 8) ∧ malformed r.atom r.addr = true then
    ((own.count (uHinge p) 0x11C).hingeRec p 0x0003 r.src opc).answer
      (if r.atom.ret then .poisoned r.src r.tag else .ack r.src r.tag 0)
  else
    match s.homeOf r.addr.toNat with
    | none => own.mapMiss p r
    | some (d, l, _) => (s.count (uHinge p) 0x003 (b2n (r.anc && !r0.anc))).outstanding p r d l units

/-- The modes in which a Hinge port's links can carry messages (R425). -/
def State.portsRun (s : State) : Bool :=
  s.mode.cur.runs || s.mode.cur == .test || s.mode.cur == .hold

/-- Bytes of a received message: 16 for each of the units that its slots and its line take, or those of its kind when no flit gave
units (R270, R418). -/
def gotBytes (units n : Nat) : Nat := if units = 0 then n else 16 * units

/-- A whole request received by port p, on the given half if known: it is counted, its source checked, and handled; the
messages of a dead or gone agent are discarded (R137, R138, R278). -/
def State.hingeRequest (s : State) (p : Nat) (r : Req) (half : Option Bool) (units : Nat) : State :=
  let s1 := s.hingeGot p 0 (gotBytes units (reqBytes r))
  let own := s1.oweReq p r units
  if !s1.srcOk p r.src half then (own.count (uHinge p) 0x11D).hingeRec p 0x0205 r.src r.src.toNat
  else if (s1.hinge p).dead.testBit (agNum r.src) || (s1.hinge p).gone.testBit (agNum r.src) then own.count (uHinge p) 0x11D
  else s1.portRequest p r units

/-- HINGE_REQUEST_RECEIVED (R39): a request reaches a port whose link to the agent is up. -/
def execHingeRequestReceived (port : Fin 16) (r : Req) (s : State) : Host.Outcome State Fault Refusal :=
  next (if s.portsRun && ((s.hinge port).linkOf (agNum r.src)).up then s.hingeRequest port r none 0 else s)

/-! ### Responses and data from agents (R93) -/

/-- The answer that a message is, when it is one. -/
def agentAns (m : AgentMsg) : Option Ans :=
  let a := fun (k : AnsKind) => ({ kind := k, src := m.src, hdev := m.hdev, htag := m.htag, psn := m.psn, data := m.data } : Ans)
  if m.isData then (if m.opc = 0 then some (a .ackData) else none)
  else if m.opc = 0 then some (a .ack)
  else if m.opc = 1 then some (a .notPresent)
  else none

/-- A snoop answer sent to its home: to the pan's brine queue, to the collector, or across the fabric. -/
def State.sendAns (s : State) (p : Nat) (a : Ans) (units : Nat) (half : Bool) : State :=
  let ch := if ansVc a = 2 then 3 else 2
  if a.hdev.toNat = s.me then
    (if ansDst a = 64 then (s.ansPut p a s.stamp16).updHinge p (fun h => h.owe half ch units)
     else s.updHinge p (fun h => { h with rxAns := h.rxAns ++ [{ ans := a, units := units, half := half, stamp := s.stamp16 }] }))
  else s.unitsWith ((s.xbarIn (ansBytes a)).ksend (.ans a)) p half ch units

/-- A response or data message received by port p (R93, R137, R278). -/
def State.hingeAnswer (s : State) (p : Nat) (m : AgentMsg) (half : Option Bool) (units : Nat) : State :=
  let ch := if m.isData then 3 else 2
  let n := if m.isData && m.opc == 0 then 144 else 16
  let s1 := s.hingeGot p ch (gotBytes units n)
  let hf := (s1.hinge p).half (agNum m.src)
  let own := s1.updHinge p (fun h => h.owe (half.getD hf) ch units)
  if !s1.srcOk p m.src half then (own.count (uHinge p) 0x11D).hingeRec p 0x0205 m.src m.src.toNat
  else if (s1.hinge p).dead.testBit (agNum m.src) || (s1.hinge p).gone.testBit (agNum m.src) then own.count (uHinge p) 0x11D
  else
    match agentAns m with
    | some a => s1.sendAns p a units hf
    | none => (own.count (uHinge p) 0x11E).hingeRec p 0x0003 m.src (m.opc.toNat + 16 * ch)

/-- AGENT_RESPONSE_RECEIVED (R93). -/
def execAgentResponseReceived (port : Fin 16) (m : AgentMsg) (s : State) : Host.Outcome State Fault Refusal :=
  next (if s.portsRun && ((s.hinge port).linkOf (agNum m.src)).up then s.hingeAnswer port m none 0 else s)

/-! ### Fence (R125, R150) -/

/-- FENCE (R18, R91, R125): a Fence reaches the port, a retried one with the count, the stamp and the ancient bit of its Nack. -/
def execFence (port : Fin 16) (src : BitVec 12) (tag : FenceTag) (s : State) :
    Host.Outcome State Fault Refusal :=
  next (if s.portsRun && ((s.hinge port).linkOf (agNum src)).up then
      s.hingeRequest port { opc := 9, src := src, tag := tag.tag, ncnt := tag.ncnt, stamp := tag.stamp, anc := tag.anc } none 0
    else s)

/-! ### A message sent by a command of its own (R98, R125, R196) -/

/-- Message e of port p's egress queue sent, if it takes the slot of its channel and its channel the flit slot. -/
def State.sendNow (s : State) (p : Nat) (e : HEgress) : Option State :=
  let ch := outChan e.msg
  match s.slotWinner p ch, s.slot (hpArb p 3) (s.flitAskers p) (ch - 1) with
  | some x, some t => if x.1 = e then some (t.sendSlot p e x.2.1 x.2.2) else none
  | _, _ => none

/-- The oldest Fence of an agent may complete: no earlier request of the agent is outstanding (R125). -/
def Hinge.fenceReady (h : Hinge) (src : BitVec 12) : Option FenceH :=
  match h.fences.find? (fun f => f.src == src) with
  | some f => if h.outst.any (fun o => o.src == src && decide (o.order < f.order)) then none else some f
  | none => none

/-- FENCE_DONE (R125, R150): FenceDone leaves when the agent's oldest Fence may complete and the message takes its slots. -/
def execFenceDone (port : Fin 16) (src : BitVec 12) (s : State) : Host.Outcome State Fault Refusal :=
  next (match (s.hinge port).fenceReady src with
    | none => s
    | some f =>
      let st := s.err.fenceStat src
      let e : HEgress := { msg := .fenceDone src f.tag st.isSome (BitVec.ofNat 32 (st.getD 0)), stamp := s.stamp16 }
      match (s.updHinge port (fun h => { h with egress := h.egress ++ [e] })).sendNow port e with
      | none => s
      | some t => { t with err := t.err.fenceSeen src }.updHinge port (fun h => { h with fences := (dropFirst (· == f) h.fences).2 }))

/-! ### Grants leave (R98) -/

/-- GRANT_SENT (R98): a grant that waits in the port's egress queue leaves when it takes its slots, and the delivery mark returns to its home. -/
def execGrantSent (port : Fin 16) (dst : BitVec 12) (tag : BitVec 10) (s : State) : Host.Outcome State Fault Refusal :=
  let h := s.hinge port
  let mine := fun (e : HEgress) => (outGrant e.msg).isSome && outDst e.msg == dst && outTag e.msg == some tag
  next (match h.egress.find? mine with
    | none => s
    | some e =>
      match s.sendNow port e with
      | none => s
      | some t =>
        match h.outst.find? (fun o => o.src == dst && o.tag == tag && !o.posted) with
        | some o => t.notice o.homeDev dst (.dmark tag (BitVec.ofNat 6 o.pan) false)
        | none => t)

/-! ### Notices that reach an agent's port (R102, R136, R141, R149) -/

/-- WDONE (R102): the oldest posted request of the agent with the tag has been performed; a second notice is discarded
(R303). -/
def execWdone (agent : BitVec 12) (tag : BitVec 10) (s : State) : Host.Outcome State Fault Refusal :=
  let s1 := s.takeNote (fun n => n.agent == agent && n.body == .wdone tag)
  next (if agDev agent ≠ s.me then s1
    else s1.updHinge (agPort agent) (fun h => { h with outst := (dropFirst (fun o => o.src == agent && o.tag == tag && o.posted && o.fwd) h.outst).2 }))

/-- A notice to every pan of this device and to every device with a valid route (R138, R141, R294). -/
def State.broadcast (s : State) (agent : BitVec 12) (b : NoteBody) : State :=
  (List.range 64).foldl (fun t d => if d = s.me || (t.route d).testBit 15 then t.notice d agent b else t) s

/-- The devices that are to report an agent's cleanup: this one and those with a valid route. -/
def State.reporters (s : State) : List Nat := (List.range 64).filter (fun d => d = s.me || (s.route d).testBit 15)

/-- The snoops of the collector to a gone agent settled (R139). -/
def State.collGone (s : State) (a : BitVec 12) : State :=
  s.fab.coll.foldl (fun t e => match e.2 with
    | none => t
    | some c =>
      if c.snps.any (fun x => x.tgt == .agent a && x.st != .done) then
        (t.setColl e.1 (some { c with snps := c.snps.map (fun x => if x.tgt == .agent a then { x with st := .done } else x) })).collDone e.1
      else t) s

/-- The grants that a port holds for an agent, returned as lost marks (R140). -/
def State.lostMarks (s : State) (p : Nat) (a : BitVec 12) : State :=
  let h := s.hinge p
  (h.egress.filter (fun e => outDst e.msg == a && (outGrant e.msg).isSome)).foldl (fun t e =>
    match outTag e.msg with
    | some g =>
      match h.outst.find? (fun o => o.src == a && o.tag == g && !o.posted) with
      | some o => t.notice o.homeDev a (.dmark g (BitVec.ofNat 6 o.pan) true)
      | none => t
    | none => t) s

/-- The units of the messages that the port holds for an agent's home and discards, due again (R138, R271). -/
def Hinge.oweAgent (h : Hinge) (id : BitVec 12) : Hinge :=
  (h.rxAns.filter (fun e => e.ans.src == id)).foldl (fun h e => h.owe e.half (if ansVc e.ans = 2 then 3 else 2) e.units)
    ((h.outst.filter (fun o => o.src == id && o.rq.isSome)).foldl (fun h o => h.owe o.half 0 o.units) h)

/-- An agent made gone (R138): what the port holds for it is discarded, GONE leaves, and a declared agent is recorded.
cause: 0 port reset, 1 dead, 2 powered down. -/
def State.makeGone (s : State) (p cause a : Nat) : State :=
  let id := mkAgent s.me p a
  let s1 := s.lostMarks p id
  let h := s1.hinge p
  let grants := h.egress.filter (fun e => outDst e.msg == id && (outGrant e.msg).isSome)
  let held := (h.egress.filter (fun e => outDst e.msg == id)).length
  let h' : Hinge :=
    { h.oweAgent id with
      egress := h.egress.filter (fun e => outDst e.msg != id)
      outst := h.outst.filter (fun o => !(o.src == id && (o.rq.isSome || grants.any (fun e => outTag e.msg == some o.tag && !o.posted))))
      fences := h.fences.filter (fun f => f.src != id)
      rxAns := h.rxAns.filter (fun e => e.ans.src != id)
      gone := h.gone ||| 2 ^ a
      clean := sset h.clean a (s.reporters, s.now) ([], 0) }
  let s2 := (((s1.setHinge p h').count (uHinge p) 0x11D held).collGone id).broadcast id (.gone (BitVec.ofNat 2 cause))
  if s.agPresent p a then s2.hingeRec p 0x000A id cause else s2

/-- An agent declared dead (R137). -/
def State.declareDead (s : State) (p a cnt : Nat) : State :=
  ((s.updHinge p (fun h => { h with dead := h.dead ||| 2 ^ a })).hingeRec p 0x0009 (mkAgent s.me p a) cnt).makeGone p 1 a

/-- TMO (R136): the agent's timeout count rises, and the agent is declared dead at LIMIT. -/
def execTmo (agent : BitVec 12) (s : State) : Host.Outcome State Fault Refusal :=
  let s1 := s.takeNote (fun n => n.agent == agent && n.body == .tmo)
  let p := agPort agent
  let a := agNum agent
  next (if agDev agent ≠ s.me then s1
    else
      let c := satAdd (s1.rf (hpOff p 0x700) (8 * a + 7) (8 * a)) 1 255
      let s2 := s1.setRf (hpOff p 0x700) (8 * a + 7) (8 * a) c
      if max 1 (s2.rf (hpOff p 0x700) 39 32) ≤ c ∧ (s2.hinge p).dead.testBit a = false then s2.declareDead p a c else s2)

/-- A device counted as having reported an agent's cleanup, a late report being discarded and counted (log entry 31); when every device has, the agent is gone no more and UNGONE
leaves (R141). -/
def State.reported (s : State) (agent : BitVec 12) (dev : Nat) : State :=
  let p := agPort agent
  let a := agNum agent
  let h := s.hinge p
  let c := sget h.clean a ([], 0)
  let left := c.1.filter (· != dev)
  if !c.1.contains dev then s.count (uHinge p) 0x11D
  else if left ≠ [] then s.setHinge p { h with clean := sset h.clean a (left, c.2) ([], 0) }
  else
    let h' : Hinge :=
      { h with clean := sset h.clean a ([], 0) ([], 0), gone := h.gone - (h.gone &&& 2 ^ a),
               outst := h.outst.filter (fun o => o.src != agent) }
    ((s.setHinge p h').broadcast agent .ungone).raise [5]

/-- CLEANED (R141): a device reports that its pans have completed the agent's cleanup. -/
def execCleaned (dev : BitVec 6) (agent : BitVec 12) (s : State) : Host.Outcome State Fault Refusal :=
  let s1 := s.takeNote (fun n => n.agent == agent && n.sdev == dev && n.body == .cleaned)
  next (if agDev agent ≠ s.me then s1 else s1.reported agent dev.toNat)

/-- CLEANUP_TMO (R141): a device that has not reported 200 ms plus twice the snoop timeout after the GONE notice is
recorded and counted as reported. -/
def execCleanupTmo (agent : BitVec 12) (dev : BitVec 6) (s : State) : Host.Outcome State Fault Refusal :=
  let c := sget (s.hinge (agPort agent)).clean (agNum agent) ([], 0)
  next (if agDev agent = s.me ∧ c.1.contains dev.toNat = true ∧ 200000000 + 2 * s.tmoNs ≤ dt c.2 s.now then
      (s.hingeRec (agPort agent) 0x0016 agent dev.toNat).reported agent dev.toNat
    else s)

/-- PFAULT (R148, R149): a posted-fault notice is recorded. One for an agent's request settles it at the port, and a
second one for a settled request is discarded (R150, R303). -/
def execPfault (sdev : BitVec 6) (agent : BitVec 12) (cause : BitVec 16) (time : BitVec 64) (unit : BitVec 12) (addr : BitVec 52)
    (s : State) : Host.Outcome State Fault Refusal :=
  let s1 := s.takeNote (fun n => n.agent == agent && n.sdev == sdev && n.body == .pfault cause time unit addr)
  let dev := decide (cause.toNat ≤ 2)
  let mine := fun (o : Outst) => o.src == agent && o.posted && o.addr.toNat / 128 == addr.toNat / 128
  let h := s1.hinge (agPort agent)
  next (if agDev agent ≠ s.me then s1
    else if dev then s1.pfWrite agent true cause.toNat time.toNat addr.toNat unit.toNat
    else if h.outst.any mine then
      (s1.setHinge (agPort agent) { h with outst := (dropFirst mine h.outst).2 }).pfWrite agent false cause.toNat time.toNat
        addr.toNat unit.toNat
    else s1)

/-- LOG_FULL (R160): once the log has room again after drops, the record of the drops is written. -/
def execLogFull (s : State) : Host.Outcome State Fault Refusal :=
  .next (if 0 < s.err.sinceFull ∧ s.err.log.length < 4096 then
      { s with err := { s.err with sinceFull := 0 } }.logErr
        { unit := uLogs, cls := 0, code := 0x0015, detail := min s.err.sinceFull 0xFFFFFFFF }
    else s)

end Sys2Proof.Machine
end

