-- ==== Sys2Proof/Machine/Fabric.lean ====
section
/-! DEFINITION. Messages that arrive on Knuckle links, the group-snoop collector, and the timers of the fabric (R40, R42,
R109, R296 to R306, R429, R441). -/

namespace Sys2Proof.Machine

/-! ### Routing of arrived messages (R296, R297, R300, R302, R455) -/

/-- The source device of a message, as KN_EPOCH gives it; 0 for a message that names none. -/
def kSrcDev (b : KBody) : Nat :=
  match b with
  | .req r => agDev r.src
  | .ans a => agDev a.src
  | .note n => n.sdev.toNat
  | .mgmt m => m.sdev.toNat
  | .out (.snp _ _ _ h _) => h.toNat
  | .out _ => 0

/-- A message whose epoch differs from the device's is counted; once the previous table is gone it is recorded too, at most once per
millisecond (R300). -/
def State.epochNote (s : State) (l : Nat) (m : KMsg) : State :=
  if m.re == s.fab.epoch then s
  else
    let s1 := s.count (uKn l) 0x11F
    let k := s1.kn l
    if !s1.fab.prevValid && (k.epochAt == 0 || decide (1000000 ≤ dt (k.epochAt - 1) s.now)) then
      (s1.setKn l { k with epochAt := s.now + 1 }).logD (uKn l) 0 0x0308 (kSrcDev m.body)
    else s1

/-- A message discarded on arrival, counted under R302 (R429, R441). -/
def State.knDiscard (s : State) (l : Nat) : State := s.undeliv (some l)

/-- A message for another device: into the egress queue that its route names; refused with TargetClosing when it is a
non-posted request for a closing link (R454), undeliverable without a route (R302). -/
def State.kForward (s : State) (l : Nat) (m : KMsg) : State :=
  let s0 := s.epochNote l m
  match s0.linkFor m.body m.re with
  | none => (s0.knDiscard l).onUndeliverable m.body (some l)
  | some l2 =>
    match m.body with
    | .req r =>
      if (s0.kn l2).link.st == .closing && !reqPosted r then s0.toAgent (.targetClosing r.src r.tag)
      else (s0.kput l2 m.body m.re (some l) (m.kvc == 4 || m.kvc == 5) none (s0.kStamp m.body)).count (uKn l2) 0x123
    | _ => (s0.kput l2 m.body m.re (some l) (m.kvc == 4 || m.kvc == 5) none (s0.kStamp m.body)).count (uKn l2) 0x123

/-- A request whose home this device is not, or whose address its table does not hold, answered as R41 prescribes; a
posted one, which its port has acknowledged, counts as performed (R38, R42, R102). The record's source is the link that the
request came by (log entry 34); the device named is a free value where the table names none. -/
def State.mapConflict (s : State) (l : Nat) (r : Req) (named : Option Nat) : State :=
  let d : Nat × State := match named with
    | some d => (d, s)
    | none => (s.free.1.toNat % 64, s.free.2)
  let s1 := d.2.logErr { unit := uKn l, cls := 2, code := 0x0002, addr := some (false, r.addr.toNat), agent := some r.src.toNat,
                         detail := d.1 }
  if reqPosted r then s1.notice (agDev r.src) r.src (.wdone r.tag) else s1.toAgent (mapMissAnswer r)

/-- Where a message for this device is queued (R203): a request at its home pan, an answer or a notice to a pan at that pan; the
others enter no brine queue. -/
def State.kDst (s : State) (b : KBody) : Option (Nat × Nat) :=
  match b with
  | .req r =>
    match s.homeOf r.addr.toNat with
    | some (_, a, _) => some (panOf a, 0)
    | none => none
  | .ans a => if ansDst a = 64 then none else some (ansDst a, ansVc a)
  | .note n =>
    match n.body with
    | .dmark _ p _ => some (p.toNat, 1)
    | .gack h => some (h.toNat / 1024, 1)
    | _ => none
  | _ => none

/-- A message for this device put into the receive buffer of its channel, with its stamp (R185, R290); a request that is not this
device's, or that its table does not hold, is answered at once (R42). -/
def State.kArrive (s : State) (l : Nat) (m : KMsg) (units : Nat) : State :=
  let put := s.updKn l (fun k => { k with rx := k.rx ++ [{ msg := m, units := units, stamp := s.kStamp m.body, dst := s.kDst m.body }] })
  match m.body with
  | .req r =>
    match s.homeOf r.addr.toNat with
    | some (d, _, _) => if d = s.me then put else (s.mapConflict l r (some d)).oweK l m.kvc.toNat units
    | none => (s.mapConflict l r none).oweK l m.kvc.toNat units
  | _ => put

/-- Whether a message that has arrived on link l is taken at all in the mode in force (R429, R441). -/
def State.kTakes (s : State) (m : KMsg) : Bool :=
  match m.body with
  | .mgmt g => s.img.inForce || s.mode.cur.runs || s.mode.cur == .train || s.mode.cur == .test || g.ddev.toNat == s.me
  | _ => !s.holding && !(s.mode.cur == .blank || s.mode.cur == .load)

/-- A message that has arrived on link l: discarded, forwarded, or kept in the receive buffer of its channel, which it leaves as soon
as it can (R296); a request or a Nack whose stamp is old enough gets its ancient bit (R187). -/
def State.knuckleMessage (s0 : State) (l : Nat) (m0 : KMsg) (units : Nat) : State :=
  let m : KMsg := { m0 with body := s0.agedK m0.body }
  let s := s0.count (uKn l) 0x003 (b2n (s0.ripeK m0.body))
  let owe := fun (t : State) => t.oweK l m.kvc.toNat units
  if !s.kTakes m then owe (s.knDiscard l)
  else if kDev m.body ≠ s.me then s.unitsWith (s.kForward l m) (16 + l) false m.kvc.toNat units
  else s.kArrive l m units

/-- KNUCKLE_MESSAGE (R296): a whole message arrives on a link that is up. -/
def execKnuckleMessage (l : Fin 8) (m : KMsg) (s : State) : Host.Outcome State Fault Refusal :=
  next (if (s.kn l).link.up then
      (s.updKn l (fun k => { k with bwIn := k.bwIn + kBytes m.body })).count (uKn l) 0x121 (kBytes m.body) |>.knuckleMessage l m 0
    else s)

/-! ### Group snoops (R109, R306) -/

/-- The first free entry of the collector. -/
def State.collFree (s : State) : Option Nat := (List.range 256).find? (fun k => (s.collEntry k).isNone)

/-- The caching agents of this device that a group snoop reaches: all declared present, caching and not gone, but EXCL
(R109, R139); EXCL 0xFFF spares the agent of that ID, on the device that has it (log entry 8). -/
def State.groupAgents (s : State) (excl : BitVec 12) : List (BitVec 12) :=
  (List.range 64).filterMap (fun i =>
    let p := i / 4
    let a := i % 4
    let id := mkAgent s.me p a
    if s.agPresent p a && !s.agNc p a && !(s.hinge p).gone.testBit a && id != excl then some id else none)

/-- A group snoop taken by the collector (R306). -/
def State.takeGroup (s : State) (k : Nat) (sdev : BitVec 6) (excl : BitVec 12) (addr : BitVec 52) (htag : BitVec 16) : State :=
  let l := s.groupAgents excl
  let c : Collect := { home := sdev.toNat, htag := htag.toNat, snps := l.map (fun a => { tgt := .agent a, since := s.now }) }
  (l.foldl (fun t a => t.portSays (.snp .inv a addr (BitVec.ofNat 6 s.me) (BitVec.ofNat 16 (0x300 + k)))) (s.setColl k (some c))).collDone k

/-- A group snoop taken out of the receive buffer of a Knuckle link, if it waits in one. -/
def State.takeRxNote (s : State) (f : Notice → Bool) : State :=
  let is := fun (m : RxMsg) => match m.msg.body with | .note n => f n | _ => false
  match s.knuckles.find? (fun e => e.2.rx.any is) with
  | none => s
  | some (l, k) =>
    match k.rx.find? is with
    | some m => (s.setKn l { k with rx := (dropFirst is k.rx).2 }).oweK l m.msg.kvc.toNat m.units
    | none => s

/-- GROUP_SNOOP (R306): a group snoop takes a collector entry; it waits while all 256 are in use. -/
def execGroupSnoop (sdev : BitVec 6) (excl : BitVec 12) (addr : BitVec 52) (htag : BitVec 16) (s : State) :
    Host.Outcome State Fault Refusal :=
  let is := fun (n : Notice) => n.sdev == sdev && n.agent == excl && n.body == .gsnp addr htag
  next (match (if s.homeOpen then s.collFree else none) with
    | none => s
    | some k => (((s.takeNote is).takeRxNote is).takeGroup k sdev excl addr htag))

/-- A combined Ack that matches no outstanding group snoop of pan p's entry k: late, or a protocol error (R133, R373). -/
def State.strayGack (s : State) (p k : Nat) (sdev : BitVec 6) (htag : BitVec 16) : State :=
  let key := fun (e : Nat × SnpTgt) => e.1 == k && e.2 == .dev sdev
  let x := s.pan p
  if x.late.any key then (s.setPan p { x with late := (dropFirst key x.late).2 }).count p 0x132
  else (s.count p 0x133).logErr { unit := p, cls := 2, code := 0x0006, detail := htag.toNat }

/-- GACK (R109): the combined Ack of a device settles the group snoop sent to it. -/
def execGack (sdev : BitVec 6) (htag : BitVec 16) (s : State) : Host.Outcome State Fault Refusal :=
  let p := htag.toNat / 1024
  let k := htag.toNat % 1024
  let mine := fun (x : Snp) => x.tgt == .dev sdev && x.st == .sent
  let settle := fun (s : State) (t : Trk) (v : Bool) =>
    (s.updTrk p k (fun t => t.setInv v { (t.getInv v) with snps := updSnp mine (fun x => { x with st := .done }) (t.getInv v).snps })).progress
      p t.id
  next (match s.takePanNote p (fun n => n.sdev == sdev && n.body == .gack htag) with
    | none => s
    | some s1 =>
      if !s.homeOpen then s1
      else
        match (s1.pan p).trk k with
        | none => s1.strayGack p k sdev htag
        | some t =>
          if t.inv.snps.any mine then settle s1 t false
          else if (t.getInv true).snps.any mine then settle s1 t true
          else s1.strayGack p k sdev htag)

/-! ### The fabric's timers (R303) -/

/-- KN_MARK_TMO (R303): a grant to an agent of another device whose mark has not come within the snoop timeout counts
as delivered. -/
def execKnMarkTmo (p : Fin 64) (trk : Fin 768) (s : State) : Host.Outcome State Fault Refusal :=
  next (match (if s.homeOpen then (s.pan p).trk trk else none) with
    | none => s
    | some t =>
      if t.grant.isSome ∧ t.mark.isNone = true ∧ agDev t.rq.src ≠ s.me ∧ s.tmoNs ≤ dt t.grantAt s.now then
        ((s.logErr { unit := p, cls := 2, code := 0x0309, agent := some t.rq.src.toNat, detail := t.rq.tag.toNat + p.val * 1024 }).updTrk p
          trk (fun t => { t with mark := some false })).progress p trk
      else s)

/-- The final response to a request waits in its port's egress queue. -/
def Hinge.responded (h : Hinge) (o : Outst) : Bool :=
  h.egress.any (fun e => outDst e.msg == o.src && outTag e.msg == some o.tag && !(match e.msg with | .fenceDone .. => true | _ => false))

/-- A request of an agent that has been with another device for twice the snoop timeout without its final response having come
(R303). -/
def State.overdueReq (s : State) (port : Nat) (src : BitVec 12) (tag : BitVec 10) (posted : Bool) : Option Outst :=
  (s.hinge port).outst.find? (fun o => o.src == src && o.tag == tag && o.posted == posted && o.fwd && o.homeDev != s.me &&
    !(!posted && (s.hinge port).responded o) && decide (2 * s.tmoNs ≤ dt o.at_ s.now))

/-- KN_REQ_TMO (R303): a forwarded non-posted request without a final response is answered TargetDown. -/
def execKnReqTmo (port : Fin 16) (src : BitVec 12) (tag : BitVec 10) (s : State) : Host.Outcome State Fault Refusal :=
  next (match s.overdueReq port src tag false with
    | none => s
    | some o =>
      (((s.updHinge port (fun h => { h with outst := (dropFirst (· == o) h.outst).2 })).logErr
        { unit := uHinge port, cls := 2, code := 0x030A, agent := some src.toNat, detail := tag.toNat + o.homeDev * 1024 }).portSays
          (.targetDown src tag)))

/-- POSTED_REQUEST_TMO (R303): a forwarded posted request with neither WDONE nor PFAULT gets a posted-fault record. -/
def execPostedRequestTmo (port : Fin 16) (src : BitVec 12) (tag : BitVec 10) (s : State) : Host.Outcome State Fault Refusal :=
  next (match s.overdueReq port src tag true with
    | none => s
    | some o =>
      (s.updHinge port (fun h => { h with outst := (dropFirst (· == o) h.outst).2 })).pfWrite src false 3 s.now o.addr.toNat
        (uHinge port))

end Sys2Proof.Machine
end

