-- ==== Sys2Proof/Machine/Link.lean ====
section
/-! DEFINITION. The links of the Hinge ports and of the Knuckle: training, configuration, sequencing and replay, resets
and closing (R250 to R290, R295, R302, R305, R441, R455). -/

namespace Sys2Proof.Machine

/-! ### The links -/

/-- The code of a link state (R259). -/
def LState.code (x : LState) : Nat :=
  match x with
  | .disabled => 0 | .closed => 1 | .detect => 2 | .align => 3 | .codeword => 4 | .config => 5
  | .active => 6 | .retrain => 7 | .closing => 8 | .reset => 9

/-- The unit of a link (R20). -/
def linkUnit (l : LinkRef) : Nat :=
  match l with
  | .hp p _ => uHinge p
  | .kl l => uKn l

/-- A Hinge link's record carries its half. -/
def linkHalf (l : LinkRef) : Nat :=
  match l with
  | .hp _ h => b2n h
  | .kl _ => 0

/-- The link named by l. -/
def State.lk (s : State) (l : LinkRef) : Link :=
  match l with
  | .hp p h => if h then (s.hinge p).link1 else (s.hinge p).link0
  | .kl l => (s.kn l).link

/-- The link named by l replaced. -/
def State.setLk (s : State) (l : LinkRef) (x : Link) : State :=
  match l with
  | .hp p h => s.updHinge p (fun g => if h then { g with link1 := x } else { g with link0 := x })
  | .kl l => s.updKn l (fun k => { k with link := x })

/-- The link named by l changed by f. -/
def State.updLk (s : State) (l : LinkRef) (f : Link → Link) : State := s.setLk l (f (s.lk l))

/-- Lanes of a link: 16 of an x16 link, 8 of an x8 link or a half-port (R247, R287). -/
def State.lkWidth (s : State) (l : LinkRef) : Nat :=
  match l with
  | .hp p _ => if (s.hinge p).mode = 1 then 16 else 8
  | .kl _ => 16

/-- The equaliser that a preset sets, as −c−1, c0 and −c1 in hundredths (R252). -/
def presetEq (n : Nat) : Nat × Nat × Nat :=
  let c := match n with
    | 1 => (5, 0) | 2 => (10, 0) | 3 => (10, 5) | 4 => (15, 5) | 5 => (15, 10) | 6 => (20, 10) | 7 => (5, 5)
    | _ => (0, 0)
  (c.1, 100 - c.1 - c.2, c.2)

/-- The equaliser of every lane that a register of presets sets: w lanes from lane k on (R252). -/
def eqOf (v k w : Nat) : List (Nat × Nat × Nat) := (List.range w).map (fun j => presetEq (bitsOf v (4 * (k + j) + 3) (4 * (k + j))))

/-- The equaliser that a link's register of presets gives its lanes (R252). -/
def State.lkEq (s : State) (l : LinkRef) : List (Nat × Nat × Nat) :=
  match l with
  | .hp p h => eqOf (s.rv (hpOff p 8)) (8 * b2n h) (s.lkWidth l)
  | .kl n => eqOf (s.rv (klOff n 8)) 0 (s.lkWidth l)

/-- Field hi..lo of HP_LINK_CTL or KL_LINK_CTL. -/
def State.lkCtl (s : State) (l : LinkRef) (hi lo : Nat) : Nat :=
  match l with
  | .hp p _ => s.rf (hpOff p 0x10) hi lo
  | .kl l => s.rf (klOff l 0x10) hi lo

/-- A record of a link: a Hinge link's code, a Knuckle link's. -/
def State.lkRec (s : State) (l : LinkRef) (cls hinge kn detail : Nat) : State :=
  match l with
  | .hp _ _ => s.logD (linkUnit l) cls hinge detail
  | .kl _ => s.logD (linkUnit l) cls kn detail

/-- An event that the catalogue gives the two kinds of link under two numbers (R420). -/
def State.lkCount (s : State) (l : LinkRef) (hinge kn n : Nat) : State :=
  match l with
  | .hp _ _ => s.count (linkUnit l) hinge n
  | .kl _ => s.count (linkUnit l) kn n

/-- The vector of a link (R161, R286, R322). -/
def linkVec (l : LinkRef) : Nat :=
  match l with
  | .hp _ _ => 16
  | .kl _ => 17

/-! ### States of a link (R259) -/

/-- The lanes of a link are in electrical idle (R259). -/
def Link.quiet (k : Link) : Bool := k.st == .disabled || k.st == .closed

/-- The transmitter of a link as training begins: out of electrical idle it starts with a lane block; else the block or codeword in
progress is sent to its end, and PRBS13 goes on from where it stood (R257). -/
def Link.txStart (k : Link) : Link :=
  if k.quiet then { k with tsSent := 0, cwSent := 0, tsid := 1, txBits := 0, wire := [] } else k

/-- The link as it enters DETECT (R252, R259). -/
def Link.detect (k : Link) (now : Nat) (eq : List (Nat × Nat × Nat)) : Link :=
  { k.txStart with
    st := .detect, since := now, subAt := now, txEq := eq, blks := 0, ts2 := 0, cwGood := 0, cwBad := 0,
    syncBad := 0, pause := none, cfgSeen := false, detectAt := none, idleAt := none, closeReqSent := false,
    closeReqSeen := false, closeReadySent := false, closeReadySeen := false, closeDoneSent := false, ctlQ := [],
    stalled := 0, aligned := false, rstLeft := 0, rrqLeft := 0 }

/-- Entry into DETECT. -/
def State.toDetect (s : State) (l : LinkRef) : State := s.updLk l (fun k => k.detect s.now (s.lkEq l))

/-- The training phase of a link: its state, or the phase that RETRAIN runs again (R259). -/
def Link.phase (k : Link) : LState :=
  if k.st == .retrain then (if k.blks < 8 then .detect else if k.ts2 < 8 then .align else .codeword) else k.st

/-- A failed attempt at ALIGN, CODEWORD or CONFIG recorded, at most once per second and link (R259). -/
def State.trainRec (s : State) (l : LinkRef) : State :=
  let k := s.lk l
  if k.failAt = 0 ∨ 1000000000 ≤ dt (k.failAt - 1) s.now then
    (s.setLk l { k with failAt := s.now + 1 }).lkRec l 2 0x0201 0x0301 (k.phase.code + 16 * linkHalf l)
  else s

/-- A failed attempt: recorded, and the link seeks block lock again; within RETRAIN it stays in RETRAIN (R259). -/
def State.trainFail (s : State) (l : LinkRef) : State :=
  let s1 := s.trainRec l
  if (s1.lk l).st == .retrain then
    s1.updLk l (fun k => { k with blks := 0, ts2 := 0, cwGood := 0, subAt := s.now, aligned := false })
  else s1.toDetect l

/-- Entry into RETRAIN from ACTIVE: sequence, replay and credit state are kept (R256, R275 to R277). cause: 0 out of
sync, 1 replay limit, 2 a bad RSEQ or ACKSEQ. -/
def State.retrain (s : State) (l : LinkRef) (cause : Nat) : State :=
  if (s.lk l).st != .active then s
  else
    let s1 := s.updLk l (fun k =>
      { k with st := .retrain, since := s.now, subAt := s.now, blks := 0, ts2 := 0, cwGood := 0, cwBad := 0, syncBad := 0,
               asking := none, rrqLeft := 0, aligned := false })
    let s2 := match l with
      | .hp p _ => s1.updHinge p (fun h => { h with retrains := satAdd h.retrains 1 255 })
      | .kl l => s1.updKn l (fun k => { k with retrains := satAdd k.retrains 1 255 })
    s2.lkRec l 0 0x0202 0x0302 (cause + 4 * linkHalf l)

/-! ### Resets (R211, R279, R280, R302, R305) -/

/-- The partial message of a port in a Knuckle egress queue closed with ABORT, and the write path released (R198). -/
def Knuckle.closePartial (k : Knuckle) (port : Nat) : Knuckle :=
  { k with
    graces := k.graces.filter (fun g => g.port != port)
    egress := k.egress.map (fun e => if e.partial_ && e.src == port then { e with partial_ := false, abort := true } else e) }

/-- Every partial message of a port closed with ABORT (R198, R211). -/
def State.closePartials (s : State) (port : Nat) : State :=
  let s1 := (s.beds.map (·.1)).foldl (fun t b => t.updBed b (fun x => x.closePartial port)) s
  (s1.knuckles.map (·.1)).foldl (fun t l => t.updKn l (fun k => k.closePartial port)) s1

/-- A link's sequence state, replay buffer and credits cleared, as it waits for DETECT 1 µs later; it sends eight PORT_RESET flits
unless the peer started the reset (R280, R305). -/
def Link.toReset (k : Link) (now : Nat) (own : Bool) : Link :=
  { k with
    st := .reset, since := now, subAt := now, txNext := 0, txAck := 0xFFF, rxExpect := 0, replay := [], asking := none,
    credTx := [], credAdv := [], credRx := [], credDue := [], detectAt := some (now + 1000), idleAt := none, pause := none,
    closeReqSent := false, closeReqSeen := false, closeReadySent := false, closeReadySeen := false, closeDoneSent := false,
    ctlQ := [], stalled := 0, rstLeft := if own then 8 else 0, rrqLeft := 0, txPos := 0, txBack := none }

/-- The links of a port that its MODE gives it take f (R247). -/
def Hinge.links (h : Hinge) (f : Link → Link) : Hinge :=
  { h with link0 := if h.mode = 0 then h.link0 else f h.link0, link1 := if h.mode = 2 then f h.link1 else h.link1 }

/-- A port adopts a changed MODE: links that it lacks are DISABLED, those that it gains enter DETECT by f (R259, R285). -/
def Hinge.adopt (h : Hinge) (mode : Nat) (f : Link → Link) : Hinge :=
  { h with
    mode := mode
    link0 := if mode = 0 then {} else if h.mode = 0 then f h.link0 else h.link0
    link1 := if mode ≠ 2 then {} else if h.mode = 2 then h.link1 else f h.link1 }

/-- Port p adopts the MODE of HP_PORT_CFG (R285). -/
def State.adoptMode (s : State) (p : Nat) : State :=
  let mode := s.rf (hpOff p 0) 33 32
  let w := if mode = 1 then 16 else 8
  s.updHinge p (fun h =>
    let a := h.adopt mode (fun k => k)
    { a with
      link0 := if mode ≠ 0 ∧ h.mode = 0 then h.link0.detect s.now (eqOf (s.rv (hpOff p 8)) 0 w) else a.link0
      link1 := if mode = 2 ∧ h.mode ≠ 2 then h.link1.detect s.now (eqOf (s.rv (hpOff p 8)) 8 w) else a.link1 })

/-- The messages of a source that wait for Knuckle write paths hold no units any more (R271, R280, R305). -/
def State.noUnits (s : State) (src : Nat) : State :=
  (s.knuckles.map (·.1)).foldl (fun t l => t.updKn l (fun k =>
    { k with wait := k.wait.map (fun e => if e.src = src then { e with units := 0 } else e) })) s

/-- A port reset (R280). cause: 0 the agent's PORT_RESET, 1 register, 2 quarantine, 3 RETRAIN limit, 4 format, 5
credit overflow. Its links send the PORT_RESET flits as the MODE in force has them, and a changed MODE is adopted as they enter
DETECT; in DISABLED the reset only applies a changed MODE (R285). -/
def State.portReset (s : State) (p cause : Nat) : State :=
  if (s.hinge p).mode = 0 then s.adoptMode p
  else
    let s1 := (List.range 4).foldl (fun t a => t.makeGone p 0 a) s
    let s2 := (s1.closePartials p).noUnits p
    let s3 := s2.updHinge p (fun h =>
      { h.links (fun k => k.toReset s.now (cause != 0)) with
        dead := 0, closing := false, readyAgents := 0, resets := satAdd h.resets 1 255, rxAns := [],
        outst := h.outst.map (fun o => { o with units := 0 }) })
    (s3.setRf (hpOff p 0x700) 31 0 0).logD (uHinge p) 2 0x0208 cause

/-- The messages that a Knuckle link holds queued or unacknowledged, discarded as undeliverable (R302). -/
def State.dropLink (s : State) (l : Nat) : State :=
  let k := s.kn l
  let sent := k.link.replay.filterMap (fun g => match g.body with | .kmsg m => some m.body | _ => none)
  let held := (k.egress.filter (fun e => !e.abort && !e.partial_) ++ k.wait).map (fun e => e.msg.body)
  let t := s.setKn l { k with egress := k.egress.filter (fun e => e.partial_), wait := [], link := { k.link with replay := [] } }
  (sent ++ held).foldl (fun t b => (t.undeliv (some l)).onUndeliverable b (some l))
    (k.wait.foldl (fun t e => t.oweSrc e.src e.half e.uch e.units) t)

/-- A Knuckle link reset (R305); without effect in DISABLED (R285). -/
def State.klReset (s : State) (l cause : Nat) : State :=
  if (s.kn l).link.st == .disabled then s
  else
    let s1 := ((s.closePartials (16 + l)).dropLink l).noUnits (16 + l)
    (s1.updKn l (fun k =>
      { k with link := k.link.toReset s.now (cause != 0), resets := satAdd k.resets 1 255,
               rx := k.rx.map (fun e => { e with units := 0 }) })).logD
        (uKn l) 2 0x0306 cause

/-- The reset of a link's port or of the link itself. -/
def State.linkReset (s : State) (l : LinkRef) (cause : Nat) : State :=
  match l with
  | .hp p _ => s.portReset p cause
  | .kl l => s.klReset l cause

/-! ### Training (R256 to R259) -/

/-- What a lane's SYNC field says: upright, inverted, or not a SYNC (R257, R258). -/
def laneSync (b : LaneBlk) : Option Bool :=
  if b.sync = 0x960F3CA5C3 then some false else if b.sync = ~~~(0x960F3CA5C3 : BitVec 40) then some true else none

/-- The lane block with its inversion undone. -/
def laneTrue (b : LaneBlk) : LaneBlk :=
  if laneSync b = some true then { sync := ~~~b.sync, lane := ~~~b.lane, tsid := ~~~b.tsid } else b

/-- One bit per lane: its receiver is inverted. -/
def polOf (l : List LaneBlk) : Nat := l.foldr (fun b acc => 2 * acc + b2n (laneSync b == some true)) 0

/-- Codewords to ALIGN, ALIGN to CODEWORD: the link moves on within training; in RETRAIN its state stays. -/
def Link.phaseTo (k : Link) (st : LState) (now : Nat) : Link :=
  if k.st == .retrain then { k with subAt := now } else { k with st := st, since := now, subAt := now }

/-- LANE_BLOCK (R257 to R259): one lane block is received on every lane. blks gives what each physical lane receives,
skew the spread between lanes in nanoseconds. -/
def execLaneBlock (l : LinkRef) (blks : List LaneBlk) (skew : BitVec 8) (s : State) : Host.Outcome State Fault Refusal :=
  let k := s.lk l
  let w := s.lkWidth l
  let whole := decide (blks.length = w) && blks.all (fun b => (laneSync b).isSome)
  let lanes := blks.map (fun b => (laneTrue b).lane.toNat)
  let tsids := blks.map (fun b => (laneTrue b).tsid)
  let plain := decide (lanes = List.range w)
  let turned := decide (lanes = (List.range w).reverse)
  next (match k.phase with
    | .detect =>
      if !whole then s.setLk l { k with blks := 0 }
      else if tsids.any (fun t => t = 0 || t = 3) then s
      else
        let k1 := { k with blks := k.blks + 1, polinv := polOf blks }
        s.setLk l (if 8 ≤ k1.blks then k1.phaseTo .align s.now else k1)
    | .align =>
      if !whole || tsids.any (fun t => t = 0 || t = 3) then s
      else if !(plain || turned) || decide (20 < skew.toNat) then s.trainFail l
      else
        let k1 := { k with rev := turned, aligned := true, ts2 := if tsids.all (fun t => t = 2) then k.ts2 + 1 else k.ts2 }
        s.setLk l (if 8 ≤ k1.ts2 then { k1.phaseTo .codeword s.now with cwGood := 0 } else k1)
    | _ => s)

/-- The physical lane of symbol j of a codeword (R255, R258). -/
def symLane (l : LinkRef) (w : Nat) (rev : Bool) (j : Nat) : Nat :=
  (if rev then w - 1 - j % w else j % w) + 8 * linkHalf l

/-- A REPLAY_REQ for RX_EXPECT sent, unless one is being waited on (R274, R275). -/
def State.askReplay (s : State) (l : LinkRef) : State :=
  let k := s.lk l
  if k.asking.isSome then s
  else (s.setLk l { k with asking := some (k.rxExpect, 1, s.now), rrqLeft := k.rrqLeft + 1 }).count (linkUnit l) 0x112

/-- CODEWORD (R256, R259): a codeword is decoded. sync is its SYNC after correction, errs the symbols in error, seqd
says that a lost codeword held part of a sequenced group. -/
def execCodeword (l : LinkRef) (sync : BitVec 4) (errs : List (Fin 544)) (seqd : Bool) (s : State) : Host.Outcome State Fault Refusal :=
  let k := s.lk l
  let e := distinct (errs.map (·.val))
  let w := s.lkWidth l
  let bad := decide (15 < e.length)
  let s1 := if bad then s.count (linkUnit l) 0x110
    else e.foldl (fun t j => t.count (linkUnit l) (0x100 + symLane l w k.rev j)) s
  let k1 : Link :=
    if bad then { k with cwGood := 0, cwBad := k.cwBad + 1, syncBad := 0 }
    else if sync ≠ 0xB then { k with cwGood := 0, cwBad := 0, syncBad := k.syncBad + 1 }
    else { k with cwGood := min 64 (k.cwGood + 1), cwBad := 0, syncBad := 0 }
  next (match k.phase with
    | .codeword =>
      let s2 := s1.setLk l k1
      if 64 ≤ k1.cwGood ∧ k.st = .codeword then s2.updLk l (fun k => { k.phaseTo .config s.now with cfgSeen := false }) else s2
    | .config => s1.setLk l k1
    | .active | .closing =>
      let s2 := s1.setLk l k1
      if k.st = .active ∧ (4 ≤ k1.cwBad ∨ 4 ≤ k1.syncBad) then s2.retrain l 0
      else if bad && seqd then s2.askReplay l else s2
    | _ => s)

/-- LINK_STATE_TIMEOUT (R259): ALIGN, CODEWORD or CONFIG has lasted 2 ms. -/
def execLinkStateTimeout (l : LinkRef) (s : State) : Host.Outcome State Fault Refusal :=
  let k := s.lk l
  let timed := k.phase == .align || k.phase == .codeword || (k.phase == .config && k.pause.isNone)
  next (if timed && decide (2000000 ≤ dt k.subAt s.now) then s.trainFail l else s)

/-- CONFIG_PAUSE_END (R260): 100 ms after a mismatch the link enters DETECT. -/
def execConfigPauseEnd (l : LinkRef) (s : State) : Host.Outcome State Fault Refusal :=
  let k := s.lk l
  next (match k.pause with
    | some t => if k.st = .config ∧ reached s.now t = true then s.toDetect l else s
    | none => s)

/-- CLOSED_SIGNAL_DETECT (R259): signal on logical lane 0 for 1 µs moves a CLOSED link to DETECT. -/
def execClosedSignalDetect (l : LinkRef) (s : State) : Host.Outcome State Fault Refusal :=
  next (if (s.lk l).st = .closed then s.toDetect l else s)

/-! ### CONFIG (R260, R288, R441) -/

/-- CODE of the control flit's slot 0 (R269). -/
def ctlCode (f : BitVec 512) : Nat := bitsOf (flSlot f 0) 127 120

/-- An unsequenced control flit with a given code, as CONFIG exchanges them. -/
def cfgFlit (f : BitVec 512) (code : Nat) : Bool := hcrcOk f && flKind f == 4 && ctlCode f == code

/-- A control flit has one slot and no payload; another is malformed (R268, R269; log entry 45). -/
def ctlShape (f : BitVec 512) : Bool := flSlv f == 1 && flPlf f == 0

/-- A malformed header: recorded, and the link is reset (R268, R295). -/
def State.malformedFlit (s : State) (l : LinkRef) (f : BitVec 512) : State :=
  (s.lkRec l 2 0x0203 0x0303 (flKind f + 16 * flSlv f + 128 * linkHalf l)).linkReset l 4

/-- The PRESENT bits that HP_PORT_CFG declares for the agents of a link (R260). -/
def State.declared (s : State) (p : Nat) (half : Bool) : Nat :=
  (List.range 4).foldl (fun acc a => if s.agPresent p a && (s.hinge p).half a == half then acc + 2 ^ a else acc) 0

/-- A configuration that does not agree: recorded, and a pause of 100 ms, in which the link sends CFG_ACK (R259, R260, R288). -/
def State.mismatch (s : State) (l : LinkRef) (hinge kn : Nat) : State :=
  let s1 := match l with
    | .hp _ _ => s.logD (linkUnit l) 2 0x0206 hinge
    | .kl _ => s.logD (linkUnit l) 2 0x0305 kn
  (s1.trainRec l).updLk l (fun k => { k with pause := some (s.now + 100000000), cfgSeen := true })

/-- The link of a Knuckle link in boot mode accepts any peer (R441). -/
def State.bootMode (s : State) : Bool := s.mode.cur == .blank || s.mode.cur == .load

/-- CFG (R260, R288): the peer's CFG is checked and its credits are taken. -/
def execCfg (l : LinkRef) (flit : BitVec 512) (s : State) : Host.Outcome State Fault Refusal :=
  let k := s.lk l
  let m := flSlot flit 0
  next (if k.st ≠ .config ∨ k.pause.isSome = true ∨ cfgFlit flit 1 = false then s
    else if ctlShape flit = false then s.malformedFlit l flit
    else
      match l with
      | .hp p h =>
        let rec_ := bitsOf m 119 116
        let decl := s.declared p h
        let cred := [(1, bitsOf m 95 80), (2, bitsOf m 79 64), (3, bitsOf m 63 48)]
        if rec_ = decl ∧ cred.all (fun c => decide (16 ≤ c.2)) = true then
          s.setLk l { k with cfgSeen := true, credTx := cred, credAdv := cred }
        else s.mismatch l (rec_ + 16 * decl + 256 * b2n h) 0
      | .kl n =>
        let dev := bitsOf m 119 114
        let lnk := bitsOf m 113 111
        let cred := (List.range 7).map (fun c => (c, bitsOf m (95 - 12 * c) (84 - 12 * c)))
        let s1 := s.updKn n (fun x => { x with peerDev := dev, peerLink := lnk })
        let nbr := dev == s.rf (klOff n 0) 23 18 && lnk == s.rf (klOff n 0) 17 15
        if (nbr || s.bootMode) && cred.all (fun c => decide (16 ≤ c.2)) then
          s1.updLk l (fun k => { k with cfgSeen := true, credTx := cred, credAdv := cred })
        else s1.mismatch l 0 (dev + 64 * lnk))

/-- Units that the device advertises, by channel (R271, R289). -/
def State.advertised (s : State) (l : LinkRef) : List (Nat × Nat) :=
  match l with
  | .hp p _ => if (s.hinge p).mode = 2 then [(0, 256), (2, 128), (3, 512)] else [(0, 512), (2, 256), (3, 1024)]
  | .kl _ => [(0, 512), (1, 256), (2, 512), (3, 1024), (4, 256), (5, 512), (6, 64)]

/-- The link as it enters ACTIVE: sequences at 0, credits as advertised, request credits withheld under R141 (R260). -/
def Link.activate (k : Link) (now : Nat) (adv : List (Nat × Nat)) (withheld : Bool) : Link :=
  { k with
    st := .active, since := now, subAt := now, txNext := 0, txAck := 0xFFF, rxExpect := 0, replay := [], asking := none,
    rrqLeft := 0, txPos := 0, txBack := none, stalled := 0, cwBad := 0, syncBad := 0
    credRx := if withheld then adv.filter (fun c => c.1 != 0) else adv
    credDue := if withheld then adv.filter (fun c => c.1 == 0) else [] }

/-- CFG_ACK (R260): the link enters ACTIVE. -/
def execCfgAck (l : LinkRef) (flit : BitVec 512) (s : State) : Host.Outcome State Fault Refusal :=
  let k := s.lk l
  let w := match l with | .hp p _ => s.withheld p | .kl _ => false
  next (if k.st ≠ .config ∨ k.pause.isSome = true ∨ cfgFlit flit 2 = false then s
    else if ctlShape flit = false then s.malformedFlit l flit
    else if k.cfgSeen then
      (s.setLk l (k.activate s.now (s.advertised l) w)).raise [linkVec l]
    else s)

/-! ### Sequenced reception (R268, R272 to R276, R295) -/

/-- Whole groups dropped from the front of the replay buffer until at most d flits remain. -/
def keepLast (l : List Group) (occ d : Nat) : List Group :=
  match l with
  | [] => []
  | g :: t => if d + g.flits ≤ occ then keepLast t (occ - g.flits) d else g :: t

/-- The effect of an ACKSEQ (R276). -/
def State.takeAck (s : State) (l : LinkRef) (f : BitVec 512) : State :=
  let k := s.lk l
  if !flAckv f then s
  else
    let d := (k.txNext + 8192 - 1 - flAck f) % 4096
    if d < k.occ then s.setLk l { k with replay := keepLast k.replay k.occ d, txAck := flAck f }
    else if d < 2048 then s
    else s.retrain l 2

/-- The credits of a sequenced header taken (R262, R290). -/
def State.takeCredits (s : State) (l : LinkRef) (f : BitVec 512) : State :=
  let c := match l with | .hp _ _ => hingeCredits f | .kl _ => (kCredits f).getD []
  s.updLk l (fun k => { k with credTx := c.foldl (fun t x => sset t x.1 (sget t x.1 0 + x.2) 0) k.credTx })

/-- The sequence number of a sound group of n payload flits: accepted in order, a duplicate, or behind a loss (R274). True: it is
accepted. -/
def State.inOrder (s : State) (l : LinkRef) (f : BitVec 512) (n : Nat) : Bool × State :=
  let k := s.lk l
  let d := (flSeq f + 4096 - k.rxExpect) % 4096
  if d = 0 then
    (true, (s.setLk l { k with rxExpect := (k.rxExpect + 1 + n) % 4096, asking := none }).takeCredits l f)
  else if 2048 ≤ d then (false, s)
  else (false, s.askReplay l)

/-- A sequenced group received on a link that is up: its checksums, ACK and sequence number (R274, R276). True: it is
accepted in order. -/
def State.sequence (s : State) (l : LinkRef) (f : BitVec 512) (pay : List (BitVec 512)) : Bool × State :=
  let n := (flPay f).getD 0
  let unused := flKind f == 0 || decide (6 ≤ flKind f)
  if !hcrcOk f || unused then (false, (s.count (linkUnit l) 0x111).askReplay l)
  else
    let s1 := s.takeAck l f
    if !(s1.lk l).up then (false, s1)
    else if pay.length ≠ n ∨ ((flPay f).isSome = true ∧ pcrcOk f pay = false) then (false, (s1.count (linkUnit l) 0x111).askReplay l)
    else s1.inOrder l f n

/-- A message beyond the peer's credit: recorded, and the link is reset (R272). -/
def State.overflow (s : State) (l : LinkRef) (ch : Nat) : State :=
  let d := match l with | .hp _ h => ch + 4 * b2n h | .kl _ => ch
  (s.lkRec l 2 0x0204 0x0304 d).linkReset l 5

/-- The units of a message taken from the peer's credit; none when it has too few. -/
def State.spend (s : State) (l : LinkRef) (ch units : Nat) : Option State :=
  let k := s.lk l
  let c := sget k.credRx ch 0
  if units ≤ c then some (s.setLk l { k with credRx := sset k.credRx ch (c - units) 0 }) else none

/-- The messages of a Hinge header, in order. -/
def State.hingeMsgs (s : State) (p : Fin 16) (h : Bool) (ms : List HMsg) : State :=
  ms.foldl (fun t m =>
    if !(t.lk (.hp p h)).up then t
    else
      match m with
      | .req r u =>
        match t.spend (.hp p h) 0 u with
        | none => t.overflow (.hp p h) 0
        | some t1 => t1.hingeRequest p r (some h) u
      | .resp a u =>
        let ch := if a.isData then 3 else 2
        match t.spend (.hp p h) ch u with
        | none => t.overflow (.hp p h) ch
        | some t1 => t1.hingeAnswer p a (some h) u) s

/-- The messages of a Knuckle header, in order; one with an unused opcode is dropped and its units are due again. -/
def State.knMsgs (s : State) (l : Fin 8) (ms : List (Nat × Option KMsg × Nat)) : State :=
  ms.foldl (fun t m =>
    if !(t.lk (.kl l)).up then t
    else
      match t.spend (.kl l) m.1 m.2.2 with
      | none => t.overflow (.kl l) m.1
      | some t1 =>
        let t2 := (t1.updKn l (fun k => { k with bwIn := k.bwIn + 16 * m.2.2 })).count (uKn l) 0x121 (16 * m.2.2)
        match m.2.1 with
        | none => t2.oweK l m.1 m.2.2
        | some b => t2.knuckleMessage l b m.2.2) s

/-- MSG (R263 to R268, R272, R274): a sequenced header flit with its payload. -/
def execMsg (l : LinkRef) (flit : BitVec 512) (pay : List (BitVec 512)) (s : State) : Host.Outcome State Fault Refusal :=
  next (if !(s.lk l).up || (hcrcOk flit && 2 ≤ flKind flit && flKind flit ≤ 5) then s
    else
      let r := s.sequence l flit pay
      if !r.1 then r.2
      else
        match l with
        | .hp p h =>
          match hingeParse flit pay with
          | none => r.2.malformedFlit l flit
          | some ms => r.2.hingeMsgs p h ms
        | .kl n =>
          match kParse flit pay with
          | none => r.2.malformedFlit l flit
          | some ms => r.2.knMsgs n ms)

/-- IDLE (R263): an unsequenced flit that carries its ACK alone. -/
def execIdle (l : LinkRef) (flit : BitVec 512) (s : State) : Host.Outcome State Fault Refusal :=
  next (if !(s.lk l).up then s
    else if !hcrcOk flit then (s.count (linkUnit l) 0x111).askReplay l
    else if flKind flit = 2 then s.takeAck l flit
    else s)

/-- The next flit to be sent is that with number n, once the group in the middle of which the link stands has ended (R265, R275). -/
def Link.goBack (k : Link) (n : Nat) : Link :=
  if k.replay.any (fun g => k.txPos != g.seq && decide ((k.txPos + 4096 - g.seq) % 4096 < g.flits)) then { k with txBack := some n }
  else { k with txPos := n }

/-- A REPLAY_REQ of the peer for RSEQ (R275). -/
def State.replayFrom (s : State) (l : LinkRef) (rseq : Nat) : State :=
  let k := s.lk l
  let d := (k.txNext + 4096 - rseq % 4096) % 4096
  if d = 0 ∨ 2048 ≤ d then s
  else if d ≤ k.occ then
    let kept := keepLast k.replay k.occ d
    (s.setLk l ({ k with replay := kept, txAck := (rseq + 4095) % 4096 }.goBack (rseq % 4096))).count (linkUnit l) 0x114
      (kept.foldl (fun a g => a + g.flits) 0)
  else s.retrain l 2

/-- REPLAY_REQ (R275). -/
def execReplayReq (l : LinkRef) (flit : BitVec 512) (s : State) : Host.Outcome State Fault Refusal :=
  next (if !(s.lk l).up then s
    else if !hcrcOk flit then (s.count (linkUnit l) 0x111).askReplay l
    else if flKind flit ≠ 3 then s
    else
      let s1 := (s.count (linkUnit l) 0x113).takeAck l flit
      if (s1.lk l).up then s1.replayFrom l (flSeq flit) else s1)

/-- REPLAY_REQ_REPEAT (R275): 1 µs without the flit asked for, and REPLAY_REQ is sent again, the eighth in a row being the last: the
link enters RETRAIN once it has left (State.txLink). -/
def execReplayReqRepeat (l : LinkRef) (s : State) : Host.Outcome State Fault Refusal :=
  let k := s.lk l
  next (match k.asking with
    | none => s
    | some (r, n, t) =>
      if !k.up || decide (dt t s.now < 1000) || decide (8 ≤ n) then s
      else (s.setLk l { k with asking := some (r, n + 1, s.now), rrqLeft := k.rrqLeft + 1 }).count (linkUnit l) 0x112)

/-- A control flit received in a state in which it is sequenced: accepted in order and well formed (R263, R268, R269); one that
announces payload is malformed, whatever follows it. -/
def State.control (s : State) (l : LinkRef) (f : BitVec 512) : Bool × State :=
  let r := if hcrcOk f && flPlf f != 0 then (s.takeAck l f).inOrder l f ((flPay f).getD 0) else s.sequence l f []
  if !r.1 || !(r.2.lk l).up then (false, r.2)
  else if ctlShape f = false ∨ (match l with | .hp _ _ => false | .kl _ => (kCredits f).isNone) = true then
    (false, r.2.malformedFlit l f)
  else r

/-- A command of an unused code (R269). -/
def unusedCtl (c : Nat) : Bool := !(c == 1 || c == 2 || c == 0x10 || c == 0x11 || c == 0x12)

/-- UNUSED_CTL (R269): an unused command is ignored and counted; a sequenced flit that carries it is accepted. -/
def execUnusedCtl (l : LinkRef) (flit : BitVec 512) (s : State) : Host.Outcome State Fault Refusal :=
  next (if flKind flit ≠ 4 ∨ unusedCtl (ctlCode flit) = false then s
    else if (s.lk l).st = .config then
      (if !hcrcOk flit then s else if !ctlShape flit then s.malformedFlit l flit else s.lkCount l 0x119 0x11C 1)
    else if (s.lk l).up then
      let r := s.control l flit
      if r.1 then r.2.lkCount l 0x119 0x11C 1 else r.2
    else s)

/-! ### RETRAIN and resets (R259, R277, R279, R305) -/

/-- RETRAIN_RETURN (R277): a retrained link returns to ACTIVE and asks for replay from RX_EXPECT. -/
def execRetrainReturn (l : LinkRef) (s : State) : Host.Outcome State Fault Refusal :=
  let k := s.lk l
  next (if k.st = .retrain ∧ k.phase = .codeword ∧ 64 ≤ k.cwGood then
      ((s.setLk l { k with st := .active, since := s.now, subAt := s.now }).askReplay l).raise [linkVec l]
    else s)

/-- RETRAIN_LIMIT (R279): RETRAIN has lasted RETRAIN_MS. -/
def execRetrainLimit (l : LinkRef) (s : State) : Host.Outcome State Fault Refusal :=
  let k := s.lk l
  next (if k.st = .retrain ∧ max 1 (s.lkCtl l 47 32) * 1000000 ≤ dt k.since s.now then s.linkReset l 3 else s)

/-- PORT_RESET (R279, R305): a PORT_RESET flit with a good HCRC, in any state but DISABLED and CLOSED. -/
def execPortReset (l : LinkRef) (flit : BitVec 512) (s : State) : Host.Outcome State Fault Refusal :=
  let st := (s.lk l).st
  next (if st = .disabled ∨ st = .closed ∨ hcrcOk flit = false ∨ flKind flit ≠ 5 then s else s.linkReset l 0)

/-- QUARANTINED of a port or link cleared, when its reset completes (R199). -/
def State.unquarantine (s : State) (l : LinkRef) : State :=
  match l with
  | .hp p _ => s.updHinge p (fun h => { h with quarantined := false })
  | .kl l => s.updKn l (fun k => { k with quarantined := false })

/-- A link whose reset ends: its port adopts a changed MODE, and it enters DETECT if the port still has it (R280, R285, R305). -/
def State.resetEnds (s : State) (l : LinkRef) : State :=
  match l with
  | .hp p _ =>
    let t := s.adoptMode p
    (if (t.lk l).st == .reset then t.toDetect l else t).unquarantine l
  | .kl _ => (s.toDetect l).unquarantine l

/-- PORT_RESET_DETECT (R280, R305): 1 µs after the PORT_RESET flits the link enters DETECT. -/
def execPortResetDetect (l : LinkRef) (s : State) : Host.Outcome State Fault Refusal :=
  let k := s.lk l
  next (match k.detectAt with
    | some t => if k.st = .reset ∧ reached s.now t = true then s.resetEnds l else s
    | none => s)

/-- RESET of HP_LINK_CTL or KL_LINK_CTL (R279, R285, R305). -/
def State.ctlReset (s : State) (r : PortRef) : State :=
  match r with
  | .hp p => s.portReset p 1
  | .kl l => s.klReset l 1

/-- HP_LINK_CTL or KL_LINK_CTL. -/
def linkCtl (r : PortRef) : Nat :=
  match r with
  | .hp p => hpOff p 0x10
  | .kl l => klOff l 0x10

/-- LINK_CTL_RESET (R279): RESET is written. -/
def execLinkCtlReset (r : PortRef) (s : State) : Host.Outcome State Fault Refusal := next (s.byHost (linkCtl r) (fun t => t.ctlReset r))

/-! ### Closing and opening (R282 to R284, R455) -/

/-- A link that enters CLOSING with CLOSE_REQ to send (R273, R282). -/
def Link.closeReq (k : Link) (now : Nat) : Link :=
  if k.st == .active then
    { k with st := .closing, since := now, subAt := now, closeReqSent := true, closeAt := now, ctlQ := k.ctlQ ++ [0x10] }
  else k

/-- The links of a port or link that are ACTIVE start the close (R282, R455). -/
def State.closeStart (s : State) (r : PortRef) : State :=
  match r with
  | .hp p =>
    if (s.hinge p).link0.st == .active || (s.hinge p).link1.st == .active then
      s.updHinge p (fun h => { h with link0 := h.link0.closeReq s.now, link1 := h.link1.closeReq s.now, closing := true,
                                      readyAgents := if h.closing then h.readyAgents else 0 })
    else s
  | .kl l => s.updKn l (fun k => { k with link := k.link.closeReq s.now })

/-- The present agents of a port that are not ready (R282). -/
def State.unready (s : State) (p : Nat) : Nat :=
  (List.range 4).foldl (fun acc a => if s.agPresent p a && !(s.hinge p).readyAgents.testBit a then acc + 2 ^ a else acc) 0

/-- A link with CLOSE_DONE to send; its lanes go to electrical idle 1 µs after it has been sent (R273, R282). -/
def Link.closeDone (k : Link) : Link :=
  if k.st == .closing then { k with closeDoneSent := true, ctlQ := k.ctlQ ++ [0x12] } else k

/-- Step 4 of R282: the agents are gone as powered down, and CLOSE_DONE leaves. -/
def State.closeEnd (s : State) (p : Nat) : State :=
  let s1 := (List.range 4).foldl (fun t a => t.makeGone p 2 a) s
  s1.updHinge p (fun h => { h with link0 := h.link0.closeDone, link1 := h.link1.closeDone })

/-- The port's close ends once every present agent is ready, and only once. -/
def State.closeCheck (s : State) (p : Nat) : State :=
  let h := s.hinge p
  if h.closing && s.unready p == 0 && !(h.link0.closeDoneSent || h.link1.closeDoneSent) then s.closeEnd p else s

/-- CLOSE of HP_LINK_CTL or KL_LINK_CTL (R282, R455); ignored outside ACTIVE. -/
def State.ctlClose (s : State) (r : PortRef) : State :=
  match r with
  | .hp p => (s.closeStart r).closeCheck p
  | .kl _ => s.closeStart r

/-- LINK_CTL_CLOSE (R282, R455): CLOSE is written. -/
def execLinkCtlClose (r : PortRef) (s : State) : Host.Outcome State Fault Refusal :=
  next (s.byHost (linkCtl r) (fun t => t.ctlClose r))

/-- OPEN of HP_LINK_CTL or KL_LINK_CTL: CLOSED links enter DETECT (R284, R285). -/
def State.ctlOpen (s : State) (r : PortRef) : State :=
  let open1 := fun (t : State) (l : LinkRef) => if (t.lk l).st == .closed then t.toDetect l else t
  match r with
  | .hp p => open1 (open1 s (.hp p false)) (.hp p true)
  | .kl l => open1 s (.kl l)

/-- LINK_CTL_OPEN (R284): OPEN is written. -/
def execLinkCtlOpen (r : PortRef) (s : State) : Host.Outcome State Fault Refusal :=
  next (s.byHost (linkCtl r) (fun t => t.ctlOpen r))

/-- The port or link that a link belongs to. -/
def linkPort (l : LinkRef) : PortRef :=
  match l with
  | .hp p _ => .hp p
  | .kl l => .kl l

/-- CLOSE_REQ (R282, R455): the peer asks for the close, and the device answers with its own CLOSE_REQ. -/
def execCloseReq (l : LinkRef) (flit : BitVec 512) (s : State) : Host.Outcome State Fault Refusal :=
  next (if !(s.lk l).up || flKind flit != 4 || ctlCode flit != 0x10 then s
    else
      let r := s.control l flit
      if !r.1 then r.2
      else
        let s1 := ((r.2.closeStart (linkPort l))).updLk l (fun k => { k with closeReqSeen := true })
        match l with
        | .hp p _ => s1.closeCheck p
        | .kl _ => s1)

/-- CLOSE_READY (R282, R455): agents are ready, or the peer is. -/
def execCloseReady (l : LinkRef) (flit : BitVec 512) (s : State) : Host.Outcome State Fault Refusal :=
  next (if !(s.lk l).up || flKind flit != 4 || ctlCode flit != 0x11 then s
    else
      let r := s.control l flit
      if !r.1 || (r.2.lk l).st != .closing then r.2
      else
        match l with
        | .hp p _ =>
          (r.2.updHinge p (fun h => { h with readyAgents := h.readyAgents ||| bitsOf (flSlot flit 0) 119 116 })).closeCheck p
        | .kl _ => r.2.updLk l (fun k => { k with closeReadySeen := true }))

/-- CLOSE_DONE (R455): the peer's CLOSE_DONE completes the close of a Knuckle link; its lanes go to electrical idle
1 µs later. -/
def execCloseDone (l : LinkRef) (flit : BitVec 512) (s : State) : Host.Outcome State Fault Refusal :=
  next (if !(s.lk l).up || flKind flit != 4 || ctlCode flit != 0x12 then s
    else
      let r := s.control l flit
      if !r.1 || (r.2.lk l).st != .closing then r.2
      else
        match l with
        | .hp _ _ => r.2
        | .kl _ => r.2.updLk l (fun k => if k.closeReadySeen && k.closeReadySent then { k with idleAt := some (s.now + 1000) } else k))

/-- A Knuckle link reaches CLOSED: what it still holds is undeliverable (R302, R455). -/
def State.klClosed (s : State) (l : Nat) : State :=
  (s.dropLink l).updKn l (fun k =>
    { k with link := { k.link with st := .closed, since := s.now, subAt := s.now, idleAt := none, asking := none } })

/-- CLOSE_TMO (R283, R455): CLOSE_TMO_MS after CLOSE_REQ the close ends all the same. -/
def execCloseTmo (r : PortRef) (s : State) : Host.Outcome State Fault Refusal :=
  next (match r with
    | .hp p =>
      let h := s.hinge p
      let at_ := if h.link0.st == .closing then h.link0.closeAt else h.link1.closeAt
      if h.closing ∧ (h.link0.closeDoneSent || h.link1.closeDoneSent) = false ∧
          max 1 (s.rf (hpOff p 0x10) 31 16) * 1000000 ≤ dt at_ s.now then
        ((if s.unready p = 0 then s else s.logD (uHinge p) 2 0x0207 (s.unready p))).closeEnd p
      else s
    | .kl l =>
      let k := (s.kn l).link
      if k.st = .closing ∧ k.idleAt.isNone = true ∧ max 1 (s.rf (klOff l 0x10) 31 16) * 1000000 ≤ dt k.closeAt s.now then
        (s.logD (uKn l) 2 0x070A l).klClosed l
      else s)

/-- A link of a Hinge port goes to electrical idle after its CLOSE_DONE. -/
def Link.toClosed (k : Link) (now : Nat) : Link :=
  if k.st == .closing then
    { k with st := .closed, since := now, subAt := now, idleAt := none, replay := [], asking := none, credTx := [], credRx := [], credDue := [] }
  else k

/-- The lanes of a link that closes are to go to electrical idle now. -/
def Link.idleDue (k : Link) (now : Nat) : Bool := k.st == .closing && (match k.idleAt with | some t => reached now t | none => false)

/-- Every half of a port that closes has finished, and one does (R282). -/
def Hinge.closeOver (h : Hinge) (now : Nat) : Bool :=
  (h.link0.idleDue now || h.link1.idleDue now) && (h.link0.st != .closing || h.link0.idleDue now) &&
    (h.link1.st != .closing || h.link1.idleDue now)

/-- ELECTRICAL_IDLE_ENTRY (R282, R455): 1 µs after CLOSE_DONE the lanes go to electrical idle and the state is CLOSED, once both
halves of a bifurcated port have finished. -/
def execElectricalIdleEntry (r : PortRef) (s : State) : Host.Outcome State Fault Refusal :=
  next (match r with
    | .hp p =>
      let h := s.hinge p
      if h.closeOver s.now then
        (s.setHinge p { h with link0 := h.link0.toClosed s.now, link1 := h.link1.toClosed s.now, closing := false }).raise [16]
      else s
    | .kl l => if (s.kn l).link.idleDue s.now then s.klClosed l else s)

end Sys2Proof.Machine
end

