-- ==== Sys2Proof/Machine/Stack.lean ====
section
/-! DEFINITION. The stack interface of a bed: layer buckets and erasures, refresh, the rake, the checker, and the SRAM
sweep (R226 to R246). -/

namespace Sys2Proof.Machine

/-! ### Buckets and erasures (R227 to R231) -/

/-- Bucket j of bed b leaks: once a layer of its channel is erased, the erased layer's alone does (R229). -/
def State.bktLeaks (s : State) (b j : Nat) : Bool :=
  match s.erased b (j / 18) with
  | none => true
  | some e => e == j % 18

/-- Bucket register k of bed b with value v after a leak: each bucket that leaks is one lower, not below 0 (R227). -/
def State.leakReg (s : State) (b k v : Nat) : Nat :=
  (List.range 4).foldl (fun a m =>
    if s.bktLeaks b (4 * k + m) then setBits a (16 * m + 15) (16 * m) (bitsOf v (16 * m + 15) (16 * m) - 1) else a) v

/-- Every bucket of bed b that leaks decreased by 1 (R227, R229). -/
def State.leak (s : State) (b : Nat) : State :=
  forUpTo 36 (fun k t =>
    let o := bedOff b (0xB40 + 8 * k)
    if t.rv o = 0 then t else t.setReg o (s.leakReg b k (t.rv o))) (s.updBed b (fun x => { x with leakAt := s.now }))

/-- BUCKET_LEAK (R227): LEAK_MS have passed since the last leak; 0 stops it. The period after a device reset counts from machine time 0,
and that after LEAK_MS leaves 0 from the last leak (log entry 195). -/
def execBucketLeak (b : Fin 8) (s : State) : Host.Outcome State Fault Refusal :=
  let ms := s.rf (bedOff b 0xB00) 63 48
  .next (if s.alive ∧ ms ≠ 0 ∧ ms * 1000000 ≤ dt (s.bed b).leakAt s.now then s.leak b else s)

/-- A write of BED_ERASE: a field takes effect when its EN is 0 and it writes EN 1 with a layer of 0 to 17 (R231,
R245). Every such field is marked, and then each spreads, the lower channel's first (R230; log entry 197). -/
def State.wrErase (s : State) (b v : Nat) : State :=
  let lay := fun (c : Nat) => bitsOf v (8 * c + 4) (8 * c)
  let good := fun (c : Nat) => v.testBit (8 * c + 7) && decide (lay c ≤ 17) && (s.erased b c).isNone
  forUpTo 8 (fun c t => if good c then t.spreadLayer b (lay c) else t)
    (forUpTo 8 (fun c t => if good c then t.markErased b c (lay c) 2 else t) s)

/-- BED_ERASE (R231): the register is written. -/
def execBedErase (b : Fin 8) (v : BitVec 64) (s : State) : Host.Outcome State Fault Refusal :=
  next (if s.alive then (s.busAccess s.hostCode).wrErase b v.toNat else s)

/-- The threshold rules applied to a bucket that a write has set (R228, R229). -/
def State.bktCheck (s : State) (b j : Nat) : State :=
  let c := j / 18
  let l := j % 18
  if s.bkt b j < s.eccThresh b ∨ 144 ≤ j then s
  else
    match s.erased b c with
    | none => if (s.rv (bedOff b 0xB00)).testBit 0 then s.eraseLayer b c l 0 else s
    | some e => if e = l then s.exhaust b c e else s

/-- A write of bucket register k (R227, R245). -/
def State.wrBkt (s : State) (b k v : Nat) : State :=
  (List.range 4).foldl (fun t m => t.bktCheck b (4 * k + m)) (s.setReg (bedOff b (0xB40 + 8 * k)) v)

/-! ### Refresh (R232, R233) -/

/-- REFRESH (R232): one per-bank refresh command of a channel, at its interval; none while the stack rests. -/
def execRefresh (b : Fin 8) (ch : Fin 8) (s : State) : Host.Outcome State Fault Refusal :=
  let x := s.bed b
  let n := sget x.refs ch 0
  let due := n == 0 || decide ((if x.hot then 488 else 976) ≤ dt (sget x.refAt ch 0) s.now)
  .next (if x.rest = 0 ∧ x.init.contains ch.val = true ∧ due = true then
      (s.setBed b { x with refs := sset x.refs ch (n + 1) 0, refAt := sset x.refAt ch s.now 0 }).count (uBed b) 0x11A
    else s)

/-! ### The rake (R225, R234 to R240) -/

/-- The bank and row of row index i (R234). -/
def rakePlace (i : Nat) : Nat × Nat := (i % 16, if i % 16 = 0 ∧ i / 16 = 0 then 4096 else i / 16)

/-- The pan set of a block of the line map (R52). -/
def psiAt (bank row block : Nat) : Nat :=
  let r := row % 4096
  r * 256 + (bank ^^^ (r % 16)) * 16 + block / 16

/-- A pass started at index 0 now (R240). -/
def State.rakeStart (s : State) (b : Nat) : State :=
  s.updBed b (fun x => { x with rakeT0 := some s.now, rakePos := [], rakePend := none })

/-- A change of PASS_S applies from the next row: the pass's start moves so that the last row keeps its time (R235). -/
def State.rakeRebase (s : State) (b old : Nat) : State :=
  let x := s.bed b
  match x.rakeT0 with
  | none => s
  | some t0 =>
    let i := sget x.rakePos 0 0 - 1
    s.setBed b { x with rakeT0 := some ((t0 + rakeDue old 0 i + (2 ^ 64 - rakeDue (s.passS b) 0 i % 2 ^ 64)) % 2 ^ 64) }

/-- A write of BED_RAKE_CTL with its start bits (R240): START_NOW wins over START_TIMED (R202). -/
def State.wrRake (s : State) (b v : Nat) : State :=
  let old := s.passS b
  let o := bedOff b 0xC80
  let s1 := s.setReg o (v % 2 ^ 40 - v % 2 ^ 40 % 2 ^ 20 + v % 2)
  let s2 := if s1.passS b = old then s1 else s1.rakeRebase b old
  if v.testBit 1 then (s2.updBed b (fun x => { x with rakeRefused := false })).rakeStart b
  else if v.testBit 2 then
    let s3 := s2.updBed b (fun x => { x with rakeRefused := false, rakePend := none })
    let at_ := s3.rv (bedOff b 0xC88)
    let r := s3.evalAt at_ (uBed b) 0xC88
    match r.1 with
    | .due | .past => r.2.rakeStart b
    | .pending => r.2.updBed b (fun x => { x with rakePend := some at_ })
    | .refused => r.2.updBed b (fun x => { x with rakeRefused := true })
  else s2

/-- BED_RAKE_CTL of bed b as a write of the given start bits leaves its other fields. -/
def State.rakeCtl (s : State) (b k : Nat) : Nat := setBits (s.rv (bedOff b 0xC80)) 2 1 k

/-- RAKE_START_NOW (R240). -/
def execRakeStartNow (b : Fin 8) (s : State) : Host.Outcome State Fault Refusal :=
  next (if s.alive then (s.busAccess s.hostCode).wrRake b (s.rakeCtl b 1) else s)

/-- RAKE_START_TIMED (R240). -/
def execRakeStartTimed (b : Fin 8) (s : State) : Host.Outcome State Fault Refusal :=
  next (if s.alive then (s.busAccess s.hostCode).wrRake b (s.rakeCtl b 2) else s)

/-- RAKE_START_INSTANT (R240, R406): a pending start's instant is reached. -/
def execRakeStartInstant (b : Fin 8) (s : State) : Host.Outcome State Fault Refusal :=
  .next (match (s.bed b).rakePend with
    | some t => if reached (s.nowAt b) t then s.rakeStart b else s
    | none => s)

/-- An uncorrectable data block handed to its pan: the event RAKE_UE, or its place in the wait for room (R225, R368). -/
def State.rakeHand (s : State) (p psi way : Nat) : State :=
  let s1 := s.count (uRake (p / 8)) 0x105
  if (s1.pan p).ueWait.isEmpty then
    let r := s1.raiseFg p { typ := 6, psi := psi, way := way }
    if r.1 then r.2 else s1.updPan p (fun x => { x with ueWait := x.ueWait ++ [(psi, way)] })
  else s1.updPan p (fun x => { x with ueWait := x.ueWait ++ [(psi, way)] })

/-- A clean cached copy's SGEN compared with that of the stack's block (R238). -/
def State.sgenCheck (s : State) (p psi : Nat) (line : BitVec 1024) : State :=
  let x := s.pan p
  match x.mdcFind psi with
  | none => s
  | some j =>
    let w := x.mdcWay (psi % 1024) j
    if w.dirty || mdSgen w.blk == mdSgen line then s else s.loseSet p psi 0x0106 (psi + 2 ^ 20 * mdSgen line)

/-- One block that the rake reads on channel c of bed b: it is decoded and counted, and then written back, handed to
its pan, or left (R223, R225, R236 to R238). written says that the pan wrote it during the visit. -/
def State.rakeBlock (s : State) (b c bank row k : Nat) (err : BitVec 1152) (written : Bool) : State :=
  let p := 8 * b + c
  let key := cellKey bank row k
  let psi := psiAt bank row k
  let s0 := if err = 0 then s else s.updPan p (fun x => x.setCell key (x.cell key ^^^ err))
  let o := s0.decodeAt p key
  let s1 := s0.noteBlock (uRake b) p key o
  let md := k % 16 == 15
  if o.ue then (if md then s1.loseSet p psi 0x0010 psi else s1.rakeHand p psi (k % 16))
  else
    let s2 := if md then s1.sgenCheck p psi o.line else s1
    if o.corr.isSome then
      if written then s2.count (uRake b) 0x102
      else if md && (match (s2.pan p).mdHeld psi with | some h => h.2 | none => false) then s2.count (uRake b) 0x103
      else (s2.updPan p (fun x => x.setCell key (blockEncode o.line))).count (uRake b) 0x101
    else if o.recon then s2.count (uRake b) 0x104
    else s2

/-- A row visited by the rake (R234, R236 to R238): its 256 blocks, the channel's position and the visit's count. -/
def State.rakeRow (s : State) (b ch : Nat) (errs : List (Fin 256 × BitVec 1152)) (written : List (Fin 256)) : State :=
  let i := sget (s.bed b).rakePos ch 0
  let s1 := forUpTo 256 (fun k t =>
    t.rakeBlock b ch (rakePlace i).1 (rakePlace i).2 k ((errs.filter (fun e => e.1.val == k)).foldl (fun a e => a ^^^ e.2) 0)
      (written.any (fun w => w.val == k))) (s.stackUsed b)
  ((s1.updPan (8 * b + ch) (fun x => x.openRow (cellKey (rakePlace i).1 (rakePlace i).2 0))).updBed b (fun x => { x with
    rakePos := sset x.rakePos ch (i + 1) 0, rakeLast := sset x.rakeLast ch s.now 0, rowReq := sset x.rowReq ch none none })).count
    (uRake b) 0x100

/-- The end of a pass when all eight channels have read their last row (R235): the next pass starts one PASS_S later. -/
def State.rakePassEnd (s : State) (b : Nat) : State :=
  if (List.range 8).all (fun c => sget (s.bed b).rakePos c 0 == 65536) then
    s.updBed b (fun x => { x with
      rakePos := []
      rakePasses := satAdd x.rakePasses 1 0xFFFFFFFF
      rakeT0 := x.rakeT0.map (fun t => (t + s.passS b * 1000000000) % 2 ^ 64) })
  else s

/-- RAKE_ROW_VISIT (R196, R234 to R240): the rake reads the next row of a channel at its time, when it has the channel's command
slot. errs are the disturbances that
the cells have suffered, by block; written the blocks that the pan writes during the visit. -/
def execRakeRowVisit (b : Fin 8) (ch : Fin 8) (errs : List (Fin 256 × BitVec 1152)) (written : List (Fin 256)) (s : State) :
    Host.Outcome State Fault Refusal :=
  next (match (if s.rowDue b ch then s.chanSlot (8 * b.val + ch.val) 2 else none) with
    | some t => (t.rakeRow b ch errs written).rakePassEnd b
    | none => s)

/-! ### The checker (R241 to R243) -/

/-- Block k of the test row of pan p; one that nothing has written since the reset holds a free value (R243, log entry
3). -/
def State.testBlock (s : State) (p k : Nat) : Block × State :=
  match sget (s.pan p).testRow k none with
  | some v => (v, s)
  | none =>
    let v := Config.freeBlock s.freeIx
    (v, { s with freeIx := s.freeIx + 1 }.updPan p (fun x => { x with testRow := sset x.testRow k (some v) none }))

/-- Layers lo to hi of every beat of a block replaced by the given bytes. -/
def setLayers (v : Block) (lo : Nat) (bytes : List Nat) : Block :=
  beatsBlock ((blockBeats v).map (fun c => c.take lo ++ bytes ++ c.drop (lo + bytes.length)))

/-- The 16 data bytes and 2 check bytes of the checker's registers. -/
def State.chkData (s : State) (b : Nat) : List Nat :=
  bytesOf (s.rv (bedOff b 0xD08)) 8 ++ bytesOf (s.rv (bedOff b 0xD10)) 8
def State.chkCheck (s : State) (b : Nat) : List Nat := bytesOf (s.rv (bedOff b 0xD18)) 2

/-- The result of a READ (R242): STATUS, LAYER and FIXED of beat j. -/
def chkStatus (v : Block) (er : Option Nat) (lc : Bool) (j : Nat) : Nat × Nat × Nat :=
  let beats := blockBeats v
  let outs := beats.map (fun c => beatDecode c er)
  let c := beats.getD j []
  if lc && er.isNone && corrLayer outs == some none then (5, 0, 0)
  else
    match outs.getD j .clean with
    | .clean => (0, 0, 0)
    | .corrected l e => (if l < 16 then 1 else 2, l % 16, c.getD l 0 ^^^ e)
    | .recon l e => (if l < 16 then 3 else 4, l % 16, c.getD l 0 ^^^ e)
    | .bad => (5, 0, 0)

/-- A checker READ of block k of channel c: beat j is reported (R242). -/
def State.chkRead (s : State) (b c k j : Nat) (er : Option Nat) : State :=
  let t := s.testBlock (8 * b + c) k
  let beat := (blockBeats t.1).getD j []
  let sy := rsSynd beat
  let r := chkStatus t.1 er (s.layerCheck b) j
  (((t.2.setReg (bedOff b 0xD08) (ofBytes (beat.take 8))).setReg (bedOff b 0xD10) (ofBytes ((beat.drop 8).take 8))).setReg
    (bedOff b 0xD18) (ofBytes (beat.drop 16))).setReg (bedOff b 0xD20)
      (sy.2 * 2 ^ 24 + sy.1 * 2 ^ 16 + r.2.2 * 2 ^ 8 + r.2.1 * 2 ^ 4 + r.1)

/-- STATUS REFUSED (R242). -/
def State.chkRefuse (s : State) (b : Nat) : State := s.setRf (bedOff b 0xD20) 3 0 6

/-- A write of BED_CHK_CTL (R241, R243): ignored while an operation runs; a non-zero OP starts one. -/
def State.wrChk (s : State) (b v : Nat) : State :=
  if (s.bed b).chkBusy then s
  else
    let s1 := s.setReg (bedOff b 0xD00) (bitsOf v 39 20 * 2 ^ 20 + v % 16)
    let c := bitsOf v 30 28
    let k := bitsOf v 27 20
    let p := 8 * b + c
    let er := if v.testBit 34 then (if bitsOf v 39 35 ≤ 17 then some (bitsOf v 39 35) else none) else s1.erased b c
    let put := fun (t : Block × State) (f : Block → Block) =>
      t.2.updPan p (fun x => { x with testRow := sset x.testRow k (some (f t.1)) none })
    if v % 16 = 0 then s1
    else
      let s2 := s1.updBed b (fun x => { x with chkBusy := true })
      if s1.mode.cur != .test then s2.chkRefuse b
      else
        let s2 := if v % 16 ≤ 5 then s2.stackUsed b else s2
        match v % 16 with
        | 1 => put (s2.testBlock p k) (fun _ => beatsBlock (List.replicate 8 (rsEncode (s.chkData b))))
        | 2 => put (s2.testBlock p k) (fun w => setLayers w 0 (s.chkData b))
        | 3 => put (s2.testBlock p k) (fun w => setLayers w 16 (s.chkCheck b))
        | 4 => put (s2.testBlock p k) (fun _ => beatsBlock (List.replicate 8 (s.chkData b ++ s.chkCheck b)))
        | 5 => s2.chkRead b c k (bitsOf v 33 31) er
        | _ => s2.chkRefuse b

/-- The value v with OP set, written to BED_CHK_CTL. -/
def State.chkOp (s : State) (b : Nat) (v : BitVec 64) (op : Nat) : State :=
  if s.alive then (s.busAccess s.hostCode).wrChk b (setBits v.toNat 3 0 op) else s

/-- WRITE_ENC (R241). -/
def execWriteEnc (b : Fin 8) (v : BitVec 64) (s : State) : Host.Outcome State Fault Refusal := next (s.chkOp b v 1)
/-- WRITE_DATA (R241). -/
def execWriteData (b : Fin 8) (v : BitVec 64) (s : State) : Host.Outcome State Fault Refusal := next (s.chkOp b v 2)
/-- WRITE_CHECK (R241). -/
def execWriteCheck (b : Fin 8) (v : BitVec 64) (s : State) : Host.Outcome State Fault Refusal := next (s.chkOp b v 3)
/-- WRITE_RAW (R241). -/
def execWriteRaw (b : Fin 8) (v : BitVec 64) (s : State) : Host.Outcome State Fault Refusal := next (s.chkOp b v 4)
/-- READ (R242). -/
def execRead (b : Fin 8) (v : BitVec 64) (s : State) : Host.Outcome State Fault Refusal := next (s.chkOp b v 5)

/-- CHK_OP_DONE (R243): the operation has completed and DONE reads 1. -/
def execChkOpDone (b : Fin 8) (s : State) : Host.Outcome State Fault Refusal :=
  .next (s.updBed b (fun x => { x with chkBusy := false }))

/-! ### On-die SRAM (R244) -/

/-- A corrected SRAM error: counted, and recorded at most once per unit and millisecond (R244, R246). -/
def State.sramCe (s : State) (unit id word : Nat) : State :=
  let s1 := s.count unit 0x002
  let at_ := sget s1.err.sramAt unit 0
  if at_ = 0 ∨ 1000000 ≤ dt (at_ - 1) s1.now then
    ({ s1 with err := { s1.err with sramAt := sset s1.err.sramAt unit (s1.now + 1) 0 } }).logD unit 0 0x0107 (id + 16 * word)
  else s1

/-- A line that becomes P because its data in a buffer is lost: a transaction of the pan on it (R142, R179, R244). While no
tracker entry is free the line waits, and no transaction starts on it. -/
def State.poisonTrk (s : State) (p psi tag : Nat) : State :=
  match (s.pan p).newId false with
  | none => s.updPan p (fun x => { x with poisWait := x.poisWait ++ [(psi, tag)] })
  | some k =>
    let t : Trk := { id := k, kind := .rakeUe, psi := psi, tag := tag, pois := true, ord := (s.pan p).ord,
                     rq := { stamp := s.stamp16 } }
    let s1 := s.addTrk p t
    if (s.pan p).mayStart t then s1.start p k else s1

/-- A line that waited for a tracker entry becomes P. -/
def State.poisNext (s : State) (p : Nat) : State :=
  match (s.pan p).poisWait with
  | [] => s
  | (psi, tag) :: rest =>
    if ((s.pan p).newId false).isNone then s
    else (s.updPan p (fun x => { x with poisWait := rest })).poisonTrk p psi tag

/-- The transaction that a line is busy with uses no data of its way from now on: the newest lay in a combining entry that is lost
(R179, R244). -/
def State.poisonBusy (s : State) (p psi tag : Nat) : State :=
  match (s.pan p).trks.find? (fun u => u.holds psi tag && u.needsOld && u.old.isNone && !u.pois) with
  | some u => (s.updTrk p u.id (fun t => { t with pois := true })).progress p u.id
  | none => s

/-- The bed or engine whose structure a unit number names; the cores share their memories, kept with core 0. -/
def unitBed (u : Nat) : Nat := (u - 0x50) % 8
def unitEng (u : Nat) : Nat := if 0x200 ≤ u then 64 else (u - 0x58) % 64

/-- Message i of the queue numbered n in bed b marked as carrying unusable data. -/
def State.badMsg (s : State) (b n i : Nat) : State :=
  let q := s.queue b n
  s.setQueue b n { q with msgs := q.msgs.mapIdx (fun j m => if j = i then { m with bad := true } else m) }

/-- The uncorrectable error of a structure (R244): sel names what it holds there, by its pan set, place in its buffer,
queue and message, or doubleword; 2^32 added to a core's doubleword means its copy in the core's L1 cache, which is invalidated, so that
the access is repeated from the SRAM (R379; log entry 199). -/
def State.sramUe (s : State) (unit id word sel : Nat) : State :=
  let d := id + 16 * word
  let p := unit % 64
  let data := s.logD unit 1 0x0108 d
  match id with
  | 1 =>
    match (s.pan p).mdcFind sel with
    | none => s
    | some j =>
      let w := (s.pan p).mdcWay (sel % 1024) j
      if w.dirty then s.loseSet p sel 0x0010 sel
      else
        let r := s.readBlock p (slotKey sel 15) 0
        if r.1.ue then r.2.loseSet p sel 0x0010 sel
        else r.2.updPan p (fun x => x.setMdcWay (sel % 1024) j { w with blk := r.1.line })
  | 2 =>
    if (s.pan p).mdwq.any (fun e => e.psi == sel) then
      (s.updPan p (fun x => { x with mdwq := x.mdwq.filter (fun e => e.psi != sel) })).loseSet p sel 0x0010 sel
    else s
  | 3 =>
    match (s.pan p).wb[sel]? with
    | none => s
    | some e => (data.updPan p (fun x => x.wbUpd e.psi e.tag (fun e => { e with poison := true }))).poisonTrk p e.psi e.tag
  | 4 =>
    match (s.pan p).comb[sel]? with
    | none => s
    | some e => ((data.updPan p (fun x => x.combDrop e.psi e.tag)).poisonBusy p e.psi e.tag).poisonTrk p e.psi e.tag
  | 5 => data.badMsg (unitBed unit) (sel % 1024) (sel / 1024)
  | 8 => (s.updPan p (fun x => { x with pred := sset x.pred (sel % 65536) 15 15 })).count p 0x11E
  | 9 => if 0x200 ≤ unit ∧ 2 ^ 32 ≤ sel then data else data.updEng (unitEng unit) (fun e => { e with ue := if e.ue.contains sel then e.ue else sel :: e.ue })
  | 0xA => { data with hv := { data.hv with inval := if data.hv.inval.contains sel then data.hv.inval else sel :: data.hv.inval } }
  | 6 | 7 | 0xB => s.logD unit 3 0x0109 d
  | _ => s

/-- The unit that holds a structure: pans hold 1 to 4, 7 and 8, brine pools 5 and 6, pan engines and cores 9, the harvest unit
0xA; 0xB is every other SRAM, and no number is a reserved one (R20, R244). -/
def sramUnit (u id : Nat) : Bool :=
  match id with
  | 5 | 6 => decide (0x50 ≤ u) && decide (u ≤ 0x57)
  | 9 => (decide (0x58 ≤ u) && decide (u ≤ 0x97)) || (decide (0x200 ≤ u) && decide (u ≤ 0x203))
  | 0xA => u == 0x206
  | 0xB => unitKnown u
  | _ => decide (u < 64)

/-- SRAM_SWEEP (R244): the sweep, or an access, meets an error of one bit, or of two when dbl says so. -/
def execSramSweep (unit : BitVec 12) (id : BitVec 4) (word : BitVec 20) (dbl : Bool) (sel : Nat) (s : State) :
    Host.Outcome State Fault Refusal :=
  next (if !s.alive || id = 0 || 0xC ≤ id.toNat || !sramUnit unit.toNat id.toNat then s
    else if dbl || id = 8 then s.sramUe unit.toNat id.toNat word.toNat sel
    else s.sramCe unit.toNat id.toNat word.toNat)

end Sys2Proof.Machine
end

