-- ==== Sys2Proof/Machine/MemPort.lean ====
section
/-! DEFINITION. The memory ports: enumeration, failures, resets, event records and CXL.io accesses (R311 to R318). -/

namespace Sys2Proof.Machine

/-- A record of a memory port's target (R322). -/
def State.mpRec (s : State) (m h cls code detail : Nat) : State := s.logD (uMp m) cls code (2 * m + h + detail)

/-- Half h of port m replaced. -/
def State.setHalf (s : State) (m h : Nat) (x : MHalf) : State :=
  s.updMp m (fun p => if h = 0 then { p with h0 := x } else { p with h1 := x })

/-- MODE of port m (R312). -/
def State.mpMode (s : State) (m : Nat) : Nat := s.rf (mpOff m 0) 1 0

/-- Half h of port m is a target (R312). -/
def State.mpTarget (s : State) (m h : Nat) : Bool := (h == 0 && s.mpMode m == 1) || s.mpMode m == 2

/-- The modes in which memory ports train and run: from TRAIN on. -/
def State.mpRuns (s : State) : Bool := s.alive && !(s.mode.cur == .blank || s.mode.cur == .load)

/-! ### Failed requests (R147, R175, R315) -/

/-- A write that has met its first error is sent again once its link is up (R147, R315). -/
def State.wrAgain (s : State) (m : Nat) (r : MReq) : State :=
  ((s.updPan r.pan (fun x => x.wbUpd r.psi r.tag (fun e => { e with resent := true }))).updMemReq (· == r)
    (fun q => q.again s.now)).count (uMp m) 0x105

/-- The block of unit u's slot i of a dump (R416); block 255 holds the bank header. -/
def dumpUnit (i : Nat) : Nat :=
  if i < 152 then i else if i < 187 then 0x100 + (i - 152) else if i < 200 then 0x200 + (i - 187) else 0xFFF

/-- The block of the k-th of the 201 blocks that a dump writes, the header block last (R416). -/
def dumpBlock (k : Nat) : Nat := if k < 200 then k else 255

/-- The local address of the i-th line that a dump writes, with its slot at base (R415, R416). -/
def dumpAddr (base i : Nat) : Nat := base + 4096 * dumpBlock (i / 32) + 128 * (i % 32)

/-- The sixteen doublewords of the i-th line that a dump writes: those of its block's unit in the bank (R411, R412, R416). -/
def Dump.words (d : Dump) (i : Nat) : List (BitVec 64) :=
  (List.range 16).map (fun j => sget d.data (dumpUnit (dumpBlock (i / 32)) * 512 + 16 * (i % 32) + j) 0)

/-- The line that port m's request r of the dump in progress writes (R416). -/
def State.dumpData (s : State) (r : MReq) : List (BitVec 64) := ((s.hv.dump.map (fun d => d.words r.tag)).getD [])

/-- No write of a dump is left at a memory port. -/
def State.dropDump (s : State) : State :=
  (s.memports.map (·.1)).foldl (fun t m => t.updMp m (fun x => { x with reqs := x.reqs.filter (fun r => r.kind != 3) })) s

/-- The dump in progress is over. -/
def State.dumpEnd (s : State) : State := { s.dropDump with hv := { s.hv with dump := none } }

/-- The dump in progress is abandoned after a second failure at port m, its header unwritten (R416). -/
def State.dumpAbandon (s : State) (m : Nat) : State :=
  match s.hv.dump with
  | none => s
  | some d => (s.dumpEnd.count uHarvest 0x104).logD uHarvest 2 0x060A (d.slot + 4096 * m)

/-- A request of port m fails. cause: 0 timeout, 1 link down, 2 aborted data (R315, R322). A write fails only the second
time. -/
def State.reqFails (s : State) (m : Nat) (r : MReq) (cause : Nat) : State :=
  match r.kind with
  | 1 =>
    if !r.resent then s.wrAgain m r
    else
      match ((s.dropMemReq (· == r)).updPan r.pan (fun x => x.wbDrop r.psi r.tag)).faultTrk r.pan r.psi r.tag 2 with
      | some t => (t.reqFail m r.half true cause).wakeWb r.pan r.psi r.tag
      | none => s
  | 2 =>
    let t := (s.dropMemReq (· == r)).reqFail m r.half false cause
    match (t.pan r.pan).trk r.trk with
    | some k => (t.atomDone r.pan r.trk m r.half k 0 .failed).wakeStage
    | none => t
  | 3 =>
    if !r.resent then (s.updMemReq (· == r) (fun q => q.again s.now)).count (uMp m) 0x105
    else ((s.dropMemReq (· == r)).reqFail m r.half true cause).dumpAbandon m
  | _ =>
    let t := (s.readDone m r (· == r)).reqFail m r.half false cause
    if r.kind = 0 ∧ t.homeOpen = true then
      let f := t.freeLine
      f.2.deliver r.pan r.trk f.1 true m
    else t

/-- Every request outstanding at a half fails, its link having gone down (R315); those that wait stay. -/
def State.halfDown (s : State) (m h : Nat) : State :=
  ((s.mp m).reqs.filter (fun r => r.half == h && (r.sent || r.first))).foldl (fun t r => t.reqFails m r 1) s

/-! ### Enumeration (R311, R312) -/

/-- The rate and width that R311 accepts: 64 or 32 GT/s, x16 alone or x8 on a half. -/
def State.mpAccepts (s : State) (m speed width : Nat) : Bool :=
  (speed == 1 || speed == 2) && width == (if s.mpMode m = 1 then 16 else 8)

/-- The reset of a quarantined port completes when no target of it is still training (R199). -/
def State.mpUnquarantine (s : State) (m : Nat) : State :=
  s.updMp m (fun p => if p.h0.link = 1 ∨ p.h1.link = 1 then p else { p with quarantined := false })

/-- The bases of memory BARs with the given sizes, as powers of two, from base up: the largest first, so that each is naturally
aligned (R312; log entry 46). -/
def barBases (base : Nat) (bars : List Nat) : List Nat :=
  (List.range bars.length).map (fun i =>
    (List.range bars.length).foldl (fun a j =>
      let x := bars.getD i 0
      let y := bars.getD j 0
      if x < y ∨ (x = y ∧ j < i) then a + 2 ^ y else a) base)

/-- CAP of a half, in units of 256 MiB (R312, R321). -/
def State.mpCap (s : State) (m h : Nat) : Nat := s.rf (mpOff m 0) (31 + 16 * h) (16 + 16 * h)

/-- The device passes the checks of step 1, those of R311 among them (R312; log entry 46). -/
def State.mpDevOk (s : State) (m h : Nat) (d : MemDev) : Bool :=
  d.type3 && d.memCap && d.single && decide (s.mpCap m h ≤ d.cap)

/-- The memory BARs of a device fit into the 1 GiB window of its half (R312). -/
def barsFit (d : MemDev) : Bool := decide (d.bars.foldl (fun a b => a + 2 ^ b.val) 0 ≤ 2 ^ 30)

/-- HDM decoder 0 of target t's device: that of the DEV_HDM decoder that names the target, if one does (R312). -/
def State.hdmFor (s : State) (t : Nat) : Option (Nat × Nat × Nat × Nat) :=
  (s.hdms.find? (fun d => (List.range d.ways).any (fun j => d.tgt j == t))).map (fun d => (d.base, d.size, d.ways, d.gran))

/-- What steps 1 to 4 leave of a half whose link has trained, and the step that failed, 0 for none (R312). -/
def State.mpSteps (s : State) (m h : Nat) (x : MHalf) (d : MemDev) : MHalf × Nat :=
  let x2 := { x with bars := barBases (0x40000000 * (h + 1)) (d.bars.map (·.val)) }
  let x3 := { x2 with hdm := s.hdmFor (2 * m + h) }
  if !s.mpDevOk m h d then (x, 1)
  else if !barsFit d then (x, 2)
  else if !d.takesHdm then (x2, 3)
  else if !d.takesMsi then (x3, 4)
  else ({ x3 with msi := true, ready := true }, 0)

/-- MP_ENUMERATION (R311, R312): a target's link has trained at the rate and width given (rate 0: not at all), and the port
checks and programs the device it finds there. -/
def execMpEnumeration (m : Fin 8) (half : Bool) (speed : BitVec 2) (width : Fin 17) (dev : MemDev) (s : State) :
    Host.Outcome State Fault Refusal :=
  let h := b2n half
  next (if !s.mpRuns || !s.mpTarget m h || s.mpRetired m || (s.mp m).down || (s.mp m).ready h then s
    else if !s.mpAccepts m speed.toNat width then
      ((s.setHalf m h { link := 0 }).mpRec m h 2 0x030F 0).mpUnquarantine m
    else
      let s1 := if speed = 1 then s.mpRec m h 0 0x030E (16 + 64 * width.val) else s
      let x := s.mpSteps m h { link := 2, speed := speed.toNat, width := width } dev
      let s2 := (s1.setHalf m h x.1).mpUnquarantine m
      if x.2 = 0 then s2 else s2.mpRec m h 2 0x030F (16 * x.2))

/-! ### Link down, timeout, reset (R315, R316) -/

/-- MP_LINK_DOWN (R315): a target's link goes down by surprise. -/
def execMpLinkDown (m : Fin 8) (half : Bool) (s : State) : Host.Outcome State Fault Refusal :=
  let h := b2n half
  next (if ((s.mp m).half h).link = 2 then ((s.setHalf m h {}).mpRec m h 2 0x030D 0).halfDown m h else s)

/-- MP_COMPLETION_TIMEOUT (R315): request ix of the port has had no completion after CTO_US, or waits for a port that is
retired. -/
def execMpCompletionTimeout (m : Fin 8) (ix : Nat) (s : State) : Host.Outcome State Fault Refusal :=
  next (match (s.mp m).reqs[ix]? with
    | none => s
    | some r =>
      if s.mpRetired m ∨ max 1 (s.rf (mpOff m 0x10) 31 16) * 1000 ≤ dt r.at_ s.now then
        s.reqFails m r (if r.sent then 0 else 1)
      else s)

/-- The tracker entries whose read data port m was passing into a brine pool when it was cut short, with their pans (R212). -/
def State.mpPartials (s : State) (m : Nat) : List (Nat × Nat) :=
  s.beds.flatMap (fun b => (b.2.graces.filter (fun g => g.port == 24 + m)).filterMap (fun g =>
    match (sget b.2.queues g.queue {}).msgs.getLast? with
    | some x => (match x.body with | .mem k true => some (8 * b.1 + g.queue / 128, k) | _ => none)
    | none => none))

/-- The requests whose data was cut short fail (R212, R315). -/
def State.cutData (s : State) (m : Nat) (l : List (Nat × Nat)) : State :=
  l.foldl (fun t x =>
    match (t.mp m).reqs.find? (fun r => r.pan == x.1 && r.trk == x.2 && (r.kind == 0 || r.kind == 2 || r.kind == 5)) with
    | some r => t.reqFails m r 2
    | none => t) s

/-- A memory-port link reset (R316). cause: 1 register, 2 quarantine, 3 viral. -/
def State.mpReset (s : State) (m cause : Nat) : State :=
  if s.mpMode m = 0 ∨ s.mpMode m = 3 ∨ s.mpRetired m ∨ (s.mp m).down then s
  else
    let one := fun (t : State) (h : Nat) =>
      if s.mpTarget m h then ((t.setHalf m h { link := 1 }).mpRec m h 2 0x030D (16 * cause)).halfDown m h else t
    let s1 := ((s.closePartials (24 + m)).cutData m (s.mpPartials m)).updMp m (fun p => { p with resets := satAdd p.resets 1 255 })
    one (one s1 0) 1

/-- RESET of MP_CTL (R316, R493); before TRAIN there is no link to reset. -/
def State.ctlMpReset (s : State) (m : Nat) : State := if s.mpRuns then s.mpReset m 1 else s

/-- MP_LINK_RESET (R316): MP_CTL.RESET is written; the access is counted, whatever becomes of it (R493). -/
def execMpLinkReset (m : Fin 8) (s : State) : Host.Outcome State Fault Refusal := next (s.byHost (mpOff m 0x10) (fun t => t.ctlMpReset m))

/-- VIRAL_INDICATION (R311, R316): a viral indication from a target. -/
def execViralIndication (m : Fin 8) (half : Bool) (s : State) : Host.Outcome State Fault Refusal :=
  next (if ((s.mp m).half (b2n half)).link = 2 then s.mpReset m 3 else s)

/-! ### Events (R317) -/

/-- The local address that a device address of a target stands for (R313). -/
def State.dpaLocal (s : State) (t dpa : Nat) : Option Nat :=
  s.hdms.findSome? (fun d =>
    match (List.range d.ways).find? (fun j => d.tgt j == t) with
    | none => none
    | some j =>
      let off := (dpa / d.gran * d.ways + j) * d.gran + dpa % d.gran
      if off < d.size then some (d.base + off) else none)

/-- One MP_EVENT record (R317). -/
def State.mpEvent (s : State) (m h : Nat) (e : MemEvent) : State :=
  (s.logErr
    { unit := uMp m, cls := if e.log.toNat ≤ 1 then 0 else 2, code := 0x0311
      addr := (e.dpa.bind (fun d => s.dpaLocal (2 * m + h) d.toNat)).map (fun a => (true, a))
      detail := 2 * m + h + 16 * e.log.toNat + 64 * e.handle.toNat }).count (uMp m) 0x108

/-- MP_EVENT (R317): a target's event interrupt, answered while EVT_EN is 1. -/
def execMpEvent (m : Fin 8) (half : Bool) (recs : List MemEvent) (s : State) : Host.Outcome State Fault Refusal :=
  next (if (s.rv (mpOff m 0x10)).testBit 1 && (s.mp m).ready (b2n half) then recs.foldl (fun t e => t.mpEvent m (b2n half) e) s
    else s)

/-! ### CXL.io accesses (R318) -/

/-- A write of MP_IO_ADDR (R196, R318): it starts one access, which takes the port's next request, or completes at once with
STATUS 100. -/
def State.wrMpIo (s : State) (m v : Nat) : State :=
  if !(s.mp m).ioDone then s.updMp m (fun p => { p with ioStatus := 4 })
  else
    let s1 := s.setReg (mpOff m 0x20) (v &&& 0xE00F0000FFFFFFFF)
    if ((s.mp m).half (bitsOf v 61 61)).link = 2 then
      (s1.updMp m (fun p => { p with ioDone := false, ioStatus := 0, ioAt := s.now })).grant1 (mpArb m) 65 9
    else s1.updMp m (fun p => { p with ioDone := true, ioStatus := 4 })

/-- MP_IO_ADDR (R318): the register is written. -/
def execMpIoAddr (m : Fin 8) (v : BitVec 64) (s : State) : Host.Outcome State Fault Refusal :=
  .next (s.byHost (mpOff m 0x20) (fun t => t.wrMpIo m v.toNat))

/-- A CXL.io access with no answer ends with the timeout STATUS once CTO_US + 1 µs have passed (R318). -/
def State.ioLate (s : State) (m : Nat) : Bool := decide (max 1 (s.rf (mpOff m 0x10) 31 16) * 1000 + 1000 ≤ dt (s.mp m).ioAt s.now)

/-- A port whose SL_PDN bit is set goes down once no CXL.io access is in progress (R456). -/
def State.mpPdn (s : State) (m : Nat) : State :=
  if (s.rv 0x200A0).testBit m && (s.mp m).ioDone && !(s.mp m).down then
    s.updMp m (fun p => { p with h0 := {}, h1 := {}, down := true })
  else s

/-- MP_IO_DONE (R318, R321): the access completes with a STATUS, a successful read with its data. Status 3, the
timeout, comes at its time alone. -/
def execMpIoDone (m : Fin 8) (status : Fin 4) (data : BitVec 32) (s : State) : Host.Outcome State Fault Refusal :=
  let op := s.rf (mpOff m 0x20) 63 62
  .next (if (s.mp m).ioDone || (status.val == 3 && !s.ioLate m) then s
    else
      let s1 := s.updMp m (fun p => { p with ioDone := true, ioStatus := status })
      (if status.val = 0 ∧ op % 2 = 0 then s1.setRf (mpOff m 0x28) 31 0 data.toNat else s1).mpPdn m)

end Sys2Proof.Machine
end

