-- ==== Sys2Proof/Machine/ArbOps.lean ====
section
/-! DEFINITION. Arbiters: priority commits, overlong holds of port requesters, the ageing of held requests, and the commits
of the route table (R187, R188, R198 to R202, R300). -/

namespace Sys2Proof.Machine

/-! ### Priority commits (R201, R202, R214) -/

/-- The window of a block with an arbiter set (R491). -/
def arbBase (b : ArbBlk) : Nat :=
  match b with
  | .dev => 0
  | .hp p => hpOff p 0
  | .kl l => klOff l 0
  | .mp m => mpOff m 0
  | .bed b => bedOff b 0
  | .pan p => panOff p 0

/-- The unit number of a block with an arbiter set (R20). -/
def arbUnit (b : ArbBlk) : Nat :=
  match b with
  | .dev => uMgmt
  | .hp p => uHinge p
  | .kl l => uKn l
  | .mp m => uMp m
  | .bed b => uBed b
  | .pan p => p

/-- The kind of a block with an arbiter set. -/
def arbKind (b : ArbBlk) : RegBlk :=
  match b with
  | .dev => .dev
  | .hp _ => .hp
  | .kl _ => .kl
  | .mp _ => .mp
  | .bed _ => .bed
  | .pan _ => .pan

/-- The pending instant of a block's timed commit. -/
def State.arbPendOf (s : State) (b : ArbBlk) : Option Nat := sget s.ru.arbPend (arbBase b) none

/-- The pending instant of a block's timed commit replaced. -/
def State.setArbPend (s : State) (b : ArbBlk) (x : Option Nat) : State :=
  { s with ru := { s.ru with arbPend := sset s.ru.arbPend (arbBase b) x none } }

/-- REFUSED of a block replaced. -/
def State.setArbRefused (s : State) (b : ArbBlk) (v : Bool) : State :=
  { s with ru := { s.ru with arbRefused := sset s.ru.arbRefused (arbBase b) v false } }

/-- Every shadow of the block copied into its active register; nothing stays pending (R201, R202). -/
def State.arbCommit (s : State) (b : ArbBlk) : State :=
  forUpTo 8 (fun n t => t.setReg (arbBase b + 0x980 + 8 * n) (t.rv (arbBase b + 0x940 + 8 * n))) (s.setArbPend b none)

/-- A write of ARB_CTL (R201, R202): COMMIT_NOW wins over COMMIT_TIMED. -/
def State.wrArb (s : State) (b : ArbBlk) (v : Nat) : State :=
  let s1 := s.setReg (arbBase b + 0x910) (bitsOf v 7 6 * 64)
  if v.testBit 0 then (s1.setArbRefused b false).arbCommit b
  else if v.testBit 1 then
    let s2 := (s1.setArbRefused b false).setArbPend b none
    let at_ := s2.rv (arbBase b + 0x918)
    let r := s2.evalAt at_ (arbUnit b) 0x918
    match r.1 with
    | .due | .past => r.2.arbCommit b
    | .pending => r.2.setArbPend b (some at_)
    | .refused => r.2.setArbRefused b true
  else s1

/-- ARB_COMMIT_NOW (R201): COMMIT_NOW is written, the other fields as they are. -/
def execArbCommitNow (b : ArbBlk) (s : State) : Host.Outcome State Fault Refusal :=
  .next (s.byHost (arbBase b + 0x910) (fun t => t.wrArb b (commitBits (s.rv (arbBase b + 0x910)) 1)))

/-- ARB_COMMIT_TIMED (R201): COMMIT_TIMED is written, the other fields as they are. -/
def execArbCommitTimed (b : ArbBlk) (s : State) : Host.Outcome State Fault Refusal :=
  next (s.byHost (arbBase b + 0x910) (fun t => t.wrArb b (commitBits (s.rv (arbBase b + 0x910)) 2)))

/-- Machine time in the region of an arbiter block (R11, R399, R406). -/
def State.blkNow (s : State) (b : ArbBlk) : Nat :=
  match b with
  | .pan p => s.nowAt (p / 8)
  | .bed b => s.nowAt b
  | .hp _ | .kl _ | .mp _ => s.nowAt 8
  | .dev => s.now

/-- ARB_COMMIT_INSTANT (R201, R406): the instant of a pending commit is reached in the block's region. -/
def execArbCommitInstant (b : ArbBlk) (s : State) : Host.Outcome State Fault Refusal :=
  .next (match s.arbPendOf b with
    | some t => if reached (s.blkNow b) t then s.arbCommit b else s
    | none => s)

/-! ### Overlong holds of port requesters (R198, R199) -/

/-- MAX_HOLD and BREAK_GRACE of a block in arbiter cycles (R198, R214). -/
def State.maxHold (s : State) (b : ArbBlk) : Nat := max 64 (s.rf (arbBase b + 0x908) 31 16)
def State.breakGrace (s : State) (b : ArbBlk) : Nat := s.rf (arbBase b + 0x908) 15 0

/-- QUARANTINED of a port set. -/
def State.quarantine (s : State) (port : Nat) : State :=
  if port < 16 then s.updHinge port (fun h => { h with quarantined := true })
  else if port < 24 then s.updKn (port - 16) (fun k => { k with quarantined := true })
  else s.updMp (port - 24) (fun m => { m with quarantined := true })

/-- The reset that a quarantine starts at once (R199, R280, R305, R316). -/
def State.quarReset (s : State) (port : Nat) : State :=
  if port < 16 then s.portReset port 2
  else if port < 24 then s.klReset (port - 16) 2
  else s.mpReset (port - 24) 2

/-- What a port is passing into queue `queue` of bed d, when that is the queue of the message (R203); a Hinge port's request carries
the stamp that it has there (R184). -/
def State.partBody (s : State) (d port queue : Nat) (m : Part) : Option BBody :=
  let p := 8 * d + queue / 128
  let vc := queue % 4
  if queue / 4 % 32 ≠ port then none
  else
    match m with
    | .mem k => if 24 ≤ port ∧ vc = 2 then some (.mem k true) else none
    | .msg b =>
      if 24 ≤ port then none
      else
        match b with
        | .req r =>
          match s.homeOf r.addr.toNat with
          | some (h, a, _) =>
            if h = s.me ∧ panOf a = p ∧ vc = 0 then
              some (.req { (if port < 16 then s.stamped port r else r) with homeDev := BitVec.ofNat 6 s.me })
            else none
          | none => none
        | .ans a => if a.hdev.toNat = s.me ∧ s.kDst b = some (p, vc) then some (.ans a) else none
        | .note n =>
          let all : Bool := match n.body with | .gone _ | .ungone => true | _ => false
          if n.ddev.toNat = s.me ∧ 16 ≤ port ∧ vc = 1 ∧ (all ∨ s.kDst b = some (p, 1)) then some (.note n) else none
        | .out _ | .mgmt _ => none

/-- The stamp of a message in a brine queue: a request's own, a local one otherwise (R184, R185). -/
def State.bodyStamp (s : State) (b : BBody) : BitVec 16 := match b with | .req r => r.stamp | _ => s.stamp16

/-- A hold enters grace once it has lasted MAX_HOLD cycles: it has lasted since its grant, or for held cycles where that is longer
(R198). -/
def Grace.enter (g : Grace) (now held limit : Nat) : Grace :=
  if g.grace.isNone && decide (limit ≤ max held (now - g.since)) then { g with grace := some now } else g

/-- The hold that a list of holds has for a port, with grace entered if it is due. -/
def enterGrace (now held limit port : Nat) (l : List Grace) : List Grace :=
  l.map (fun g => if g.port == port then g.enter now held limit else g)

/-- Whether a port is in grace. -/
def inGrace (port : Nat) (l : List Grace) : Bool := l.any (fun g => g.port == port && g.grace.isSome)

/-- A packer of bed d held by a port: granted for the part of its message that is there, more of it linked, and grace entered when
it is due (R197, R198, R206). -/
def State.bedHold (s : State) (d port queue : Nat) (m : Part) (cells held : Nat) : State :=
  let now := s.arbCycle (bedArb d)
  let limit := s.maxHold (.bed (Fin.ofNat 8 d))
  let fin := fun (t : State) =>
    let u := t.updBed d (fun x => { x with graces := enterGrace now held limit port x.graces })
    if inGrace port (u.bed d).graces && !inGrace port (t.bed d).graces then u.count (uBed d) 0x047 else u
  match (s.bed d).graces.find? (fun g => g.port == port) with
  | some g =>
    if g.queue ≠ queue then s
    else
      let left := match (s.queue d queue).msgs.getLast? with | some x => x.leftRsv + x.leftShared | none => 0
      fin (s.linkPart d queue (min cells (left - 1)))
  | none =>
    match s.partBody d port queue m with
    | none => s
    | some b =>
      if !s.packerFree d queue port b || (s.cands d).any (fun c => c.port == port) then s
      else
        match s.brinePart (8 * d + queue / 128) port (queue % 4) cells b (s.bodyStamp b) with
        | none => s
        | some t =>
          let anc := match b with | .req r => r.anc | _ => false
          let a := t.asker (bedArb d) port (port / 8) anc (s.bodyStamp b)
          fin ((t.award (bedArb d) [a] a).updBed d (fun x => { x with graces := x.graces ++ [{ port := port, queue := queue, since := now }] }))

/-- The write path into the egress queue of Knuckle link l held by a port, as bedHold has it for a packer (R197, R198). -/
def State.klHold (s : State) (l port : Nat) (m : Part) (held : Nat) : State :=
  let now := s.arbCycle (klArb l 0)
  let limit := s.maxHold (.kl (Fin.ofNat 8 l))
  let fin := fun (t : State) =>
    let u := t.updKn l (fun x => { x with graces := enterGrace now held limit port x.graces })
    if inGrace port (u.kn l).graces && !inGrace port (t.kn l).graces then u.count (uKn l) 0x047 else u
  if (s.kn l).graces.any (fun g => g.port == port) then fin s
  else
    match m with
    | .mem _ => s
    | .msg b =>
      let ours := s.linkFor b true == some l || s.linkFor b false == some l
      if 24 ≤ port || !ours || s.isQuar port || !(s.kn l).graces.isEmpty || !(s.kn l).wait.isEmpty then s
      else
        let from_ := if port < 16 then none else some (port - 16)
        let e : KEgress := { msg := { kvc := BitVec.ofNat 3 (s.pickChan b l from_ false), re := s.fab.epoch, body := b },
                             fromLink := from_, src := port, stamp := s.kStamp b, partial_ := true }
        let t := (s.updKn l (fun x => { x with egress := x.egress ++ [e], graces := [{ port := port, since := now }] }))
        fin (t.grant1 (klArb l 0) port (kGroup port) (s.kStamp b))

/-- ARB_GRACE (R197, R198): a port requester passes a message, a part of which has come, into a brine packer or the write path of a
Knuckle egress queue, and holds it without a break point; after MAX_HOLD arbiter cycles it enters grace. queue says for which
queue the message is, cells what it is, how many more of its cells are linked and for how many arbiter cycles the hold has
lasted. -/
def execArbGrace (b : ArbBlk) (n : Fin 8) (port : Fin 32) (queue : BitVec 10) (cells : Passing) (s : State) :
    Host.Outcome State Fault Refusal :=
  .next (if !s.alive || n ≠ 0 then s
    else
      match b with
      | .bed d => s.bedHold d port queue.toNat cells.m cells.cells cells.held
      | .kl l => s.klHold l port cells.m cells.held
      | .dev | .hp _ | .mp _ | .pan _ => s)

/-- BREAK_GRACE of a block has passed since the grace of a port began (R198). -/
def State.graceOver (s : State) (b : ArbBlk) (port : Nat) : Bool :=
  let passed := fun (a : ArbId) (l : List Grace) => l.any (fun g =>
    g.port == port && (match g.grace with | some t => decide (t + s.breakGrace b ≤ s.arbCycle a) | none => false))
  match b with
  | .bed d => passed (bedArb d) (s.bed d).graces
  | .kl l => passed (klArb l 0) (s.kn l).graces
  | .dev | .hp _ | .mp _ | .pan _ => false

/-- ARB_CUTOFF (R198, R199): grace ends without a break point; the partial message is closed with ABORT, the port is
quarantined and its reset starts. -/
def execArbCutoff (b : ArbBlk) (n : Fin 8) (port : Fin 32) (s : State) : Host.Outcome State Fault Refusal :=
  next (if n = 0 ∧ s.graceOver b port = true then
      let cut := if 24 ≤ port.val then s.mpPartials (port - 24) else []
      (((((s.closePartials port).quarantine port).logD (arbUnit b) 2 0x0401 (n + 16 * arbUnit b))).cutData (port - 24) cut).quarReset port
    else s)

/-! ### Ageing (R187, R188) -/

/-- The number of elements that satisfy p. -/
def countIf {α : Type} (p : α → Bool) (l : List α) : Nat := (l.filter p).length

/-- A request or a notice of a brine message is due. -/
def State.ripeB (s : State) (b : BBody) : Bool := match b with | .req r => s.ripe r | .ans _ | .note _ | .mem .. => false

/-- The body of a brine message aged. -/
def State.agedB (s : State) (b : BBody) : BBody := match b with | .req r => .req (s.aged r) | y => y

/-- A row visit of the rake aged. -/
def State.agedRow (s : State) (r : Option RowReq) : Option RowReq :=
  r.map (fun e => { e with anc := e.anc || s.ancient e.stamp.toNat })

/-- A row visit of the rake is due for its ancient bit. -/
def State.ripeRow (s : State) (r : Option RowReq) : Bool := r.any (fun e => s.ripens e.anc e.stamp)

/-- The requests in the brine queues of bed b, and its rake's row visits, aged. -/
def State.ageBed (s : State) (b : Nat) : State :=
  let n := (s.bed b).queues.foldl (fun a q => a + countIf (fun m => s.ripeB m.body) q.2.msgs) 0
  let k := countIf (fun r => s.ripeRow r.2) (s.bed b).rowReq
  ((s.updBed b (fun x => { x with
    rowReq := x.rowReq.map (fun r => (r.1, s.agedRow r.2))
    queues := x.queues.map (fun q =>
      (q.1, { q.2 with msgs := q.2.msgs.map (fun m => { m with body := s.agedB m.body }) })) })).count (uBrine b) 0x003 n).count
        (uRake b) 0x003 k

/-- The requests that pan p holds aged: its tracker entries, whatever they stand for, and the requests of its prefetcher, its metadata
write queue, its write buffer and its engine (R184, R188). -/
def State.agePan (s : State) (p : Nat) : State :=
  let x := s.pan p
  let n := countIf (fun t => s.ripe t.rq) x.trks + countIf (fun e => s.ripens e.anc e.stamp) x.pfq +
    countIf (fun e => s.ripens e.anc e.stamp) x.mdwq + countIf (fun e => s.ripens e.anc e.stamp) x.wb +
    countIf (fun e => s.ripens e.anc e.stamp) x.cmds
  (s.setPan p { x with
    trks := x.trks.map (fun t => { t with rq := s.aged t.rq })
    pfq := x.pfq.map (fun e => { e with anc := e.anc || s.ancient e.stamp.toNat })
    mdwq := x.mdwq.map (fun e => { e with anc := e.anc || s.ancient e.stamp.toNat })
    wb := x.wb.map (fun e => { e with anc := e.anc || s.ancient e.stamp.toNat })
    cmds := x.cmds.map (fun e => { e with anc := e.anc || s.ancient e.stamp.toNat }) }).count p 0x003 n

/-- The requests outstanding at memory port m aged. -/
def State.ageMp (s : State) (m : Nat) : State :=
  let n := countIf (fun r => s.ripens r.anc r.stamp) (s.mp m).reqs
  (s.updMp m (fun x => { x with reqs := x.reqs.map (fun r => { r with anc := r.anc || s.ancient r.stamp.toNat }) })).count (uMp m) 0x003 n

/-- A message in a Knuckle egress queue aged. -/
def State.agedE (s : State) (e : KEgress) : KEgress := { e with msg := { e.msg with body := s.agedK e.msg.body } }

/-- The requests and Nacks in the queues of Knuckle link l aged. -/
def State.ageKn (s : State) (l : Nat) : State :=
  let k := s.kn l
  let n := countIf (fun e => s.ripeK e.msg.body) k.egress + countIf (fun e => s.ripeK e.msg.body) k.wait +
    countIf (fun e => s.ripeK e.msg.body) k.rx
  (s.setKn l { k with
    egress := k.egress.map s.agedE
    wait := k.wait.map s.agedE
    rx := k.rx.map (fun e => { e with msg := { e.msg with body := s.agedK e.msg.body } }) }).count (uKn l) 0x003 n

/-- The requests held at Hinge port p, and the Nacks in its egress queue, aged. -/
def State.ageHinge (s : State) (p : Nat) : State :=
  let h := s.hinge p
  let n := countIf (fun o => match o.rq with | some r => s.ripe r | none => false) h.outst + countIf (fun e => s.ripeOut e.msg) h.egress
  (s.setHinge p { h with
    outst := h.outst.map (fun o => { o with rq := o.rq.map s.aged })
    egress := h.egress.map (fun e => { e with msg := s.agedOut e.msg }) }).count (uHinge p) 0x003 n

/-- The ages of every stamped request that the device holds evaluated: in brine queues, trackers and wait chains, the queues of the
units that make requests themselves, Knuckle queues and the queues of the port ring and the memory ports (R184, R187, R188). -/
def State.ageAll (s : State) : State :=
  let s1 := (s.beds.map (·.1)).foldl State.ageBed s
  let s2 := (s1.pans.map (·.1)).foldl State.agePan s1
  let s3 := (s2.knuckles.map (·.1)).foldl State.ageKn s2
  let s4 := (s3.hinges.map (·.1)).foldl State.ageHinge s3
  (s4.memports.map (·.1)).foldl State.ageMp s4

/-- What the passing of time does to the requests held: the rakes stamp the row visits that have become due, and the ages of all are
evaluated, so that every ancient bit is set in the cycle in which it is due (R184, R187, R188; log entry 52). -/
def State.timePasses (s : State) : State := (forUpTo 8 (fun b t => t.stampRows b) s).ageAll

/-- ANCIENT_BIT_SET (R187, R188): the evaluation of the ages of the requests held. -/
def execAncientBitSet (s : State) : Host.Outcome State Fault Refusal := .next s.ageAll

/-! ### Route commits (R300) -/

/-- Nanoseconds for which the previous route table is kept. -/
def State.routeHold (s : State) : Nat := max 1 (s.rf 0x1400 47 32) * 1000

/-- A commit at instant t falls within HOLD_US of the previous commit. -/
def State.routeEarly (s : State) (t : Nat) : Bool :=
  match s.fab.commitAt with
  | none => false
  | some c => decide (dt c t < s.routeHold)

/-- The previous table as a table of the active entries. -/
def State.activeRoutes (s : State) : Sparse (BitVec 64) :=
  (List.range 64).foldl (fun m d => sset m d (BitVec.ofNat 64 (s.route d)) 0) []

/-- A route commit (R300): shadows into the active table, the old table kept, EPOCH inverted. -/
def State.routeCommit (s : State) : State :=
  let s1 := { s with fab := { s.fab with prev := s.activeRoutes, prevValid := true, epoch := !s.fab.epoch, commitAt := some s.now, routePend := none } }
  (forUpTo 64 (fun d t => t.setReg (0x1200 + 8 * d) (t.rv (0x1000 + 8 * d))) s1).raise [17]

/-- A commit due now, refused within HOLD_US of the previous one. -/
def State.routeNow (s : State) : State :=
  if s.routeEarly s.now then { s with fab := { s.fab with routeRefused := true, routePend := none } } else s.routeCommit

/-- No route commit pending or refused. -/
def State.routeClear (s : State) : State := { s with fab := { s.fab with routeRefused := false, routePend := none } }

/-- A route commit commanded for the instant of DEV_ROUTE_AT (R300, R320, R405). -/
def State.routeTimed (s : State) : State :=
  let at_ := s.rv 0x1408
  let r := s.evalAt at_ uMgmt 0x1408
  match r.1 with
  | .due | .past => r.2.routeNow
  | .pending =>
    if r.2.routeEarly at_ then { r.2 with fab := { r.2.fab with routeRefused := true } }
    else { r.2 with fab := { r.2.fab with routePend := some at_ } }
  | .refused => { r.2 with fab := { r.2.fab with routeRefused := true } }

/-- A write of DEV_ROUTE_CTL (R300, R202). -/
def State.wrRoute (s : State) (v : Nat) : State :=
  let s1 := s.setReg 0x1400 (bitsOf v 47 32 * 2 ^ 32)
  if v.testBit 0 then s1.routeClear.routeNow
  else if v.testBit 1 then s1.routeClear.routeTimed
  else s1

/-- ROUTE_COMMIT_NOW (R300). -/
def execRouteCommitNow (s : State) : Host.Outcome State Fault Refusal :=
  next (if s.alive then (s.busAccess s.hostCode).wrRoute (commitBits (s.rv 0x1400) 1) else s)

/-- ROUTE_COMMIT_TIMED (R300). -/
def execRouteCommitTimed (s : State) : Host.Outcome State Fault Refusal :=
  next (if s.alive then (s.busAccess s.hostCode).wrRoute (commitBits (s.rv 0x1400) 2) else s)

/-- ROUTE_COMMIT_INSTANT (R300, R406). -/
def execRouteCommitInstant (s : State) : Host.Outcome State Fault Refusal :=
  next (match s.fab.routePend with
    | some t => if reached s.now t then s.routeNow else s
    | none => s)

/-- PREVIOUS_TABLE_EXPIRY (R300): HOLD_US after a commit the previous table is discarded. -/
def execPreviousTableExpiry (s : State) : Host.Outcome State Fault Refusal :=
  .next (match s.fab.commitAt with
    | some c => if s.fab.prevValid && !s.routeEarly s.now && decide (dt c s.now < 2 ^ 63) then { s with fab := { s.fab with prev := [], prevValid := false } } else s
    | none => s)

end Sys2Proof.Machine
end

