-- ==== Sys2Proof/Machine/Sm.lean ====
section
/-! DEFINITION. The Saltmaster cores as the register bus sees them: latches, mailboxes, reset and restart, timer and
doorbells, the policy log; and the writes that give a pan engine work (R76, R383 to R390, R468 to R472). -/

namespace Sys2Proof.Machine

/-! ### Latches (R470 to R472) -/

/-- The two host codes are one owner (R471). -/
def sameOwner (a b : Nat) : Bool := a == b || (decide (a ≤ 1) && decide (b ≤ 1))

/-- Latch n is broken: it is freed with BROKEN 1, recorded and its vector raised. cause: 0 owner reset, 1 command (R472). -/
def State.latBreak (s : State) (n cause : Nat) : State :=
  let o := sget s.ru.latOwn n 0
  if o = 0 then s
  else
    (({ s with ru := { s.ru with latOwn := sset s.ru.latOwn n 0 0, latBroken := sset s.ru.latBroken n true false } }).count
      uLatch 0x102).logD uLatch 0 0x0807 (n + 64 * (o - 1) + 2 ^ 14 * cause)

/-- Every latch of an owner broken by its reset (R472). -/
def State.latBreakOf (s : State) (w : Nat) : State :=
  forUpTo 64 (fun n t => if sget t.ru.latOwn n 0 ≠ 0 ∧ sameOwner (sget t.ru.latOwn n 0 - 1) w = true then t.latBreak n 0 else t) s

/-- ACQUIRE of latch n by writer w (R471). -/
def State.latAcquire (s : State) (n w : Nat) : State :=
  if sget s.ru.latOwn n 0 = 0 then
    ({ s with ru := { s.ru with latOwn := sset s.ru.latOwn n (w + 1) 0 } }).count uLatch 0x100
  else s.count uLatch 0x101

/-- RELEASE of latch n by writer w (R471). -/
def State.latRelease (s : State) (n w : Nat) : State :=
  let o := sget s.ru.latOwn n 0
  if o ≠ 0 ∧ sameOwner (o - 1) w = true then
    { s with ru := { s.ru with latOwn := sset s.ru.latOwn n 0 0, latBroken := sset s.ru.latBroken n false false } }
  else s.logD uLatch 2 0x0808 (n + 64 * w)

/-- A write of LAT_WORD_n or PAN_LAT_n (R471). -/
def State.wrLatch (s : State) (n w v : Nat) : State :=
  match v % 4 with
  | 1 => s.latAcquire n w
  | 2 => s.latRelease n w
  | _ => s

/-- LAT_WORD_n as it reads (R472). -/
def State.rdLatch (s : State) (n : Nat) : Nat :=
  let o := sget s.ru.latOwn n 0
  b2n (decide (o ≠ 0)) * 2 ^ 63 + b2n (sget s.ru.latBroken n false) * 2 ^ 62 + (o - 1) * 2 ^ 48

/-- ACQUIRE (R471): writer w writes OP 01 to latch n. -/
def execAcquire (n : Fin 64) (w : BitVec 8) (s : State) : Host.Outcome State Fault Refusal :=
  .next (if s.alive && s.reaches w.toNat then (s.busAccess w.toNat).latAcquire n w.toNat else s)

/-- RELEASE (R471): writer w writes OP 10 to latch n. -/
def execRelease (n : Fin 64) (w : BitVec 8) (s : State) : Host.Outcome State Fault Refusal :=
  next (if s.alive && s.reaches w.toNat then (s.busAccess w.toNat).latRelease n w.toNat else s)

/-- MGMT_ENDPOINT_RESET (R472): the management endpoint of the head is reset, or its link goes down. -/
def execMgmtEndpointReset (s : State) : Host.Outcome State Fault Refusal :=
  next (if s.alive && s.mode.head then s.latBreakOf 0 else s)

/-! ### Mailboxes (R468, R469) -/

/-- The source of mailbox m. -/
def State.mbxSrc (s : State) (m : Nat) : Nat := s.rf (mbxOff m 0) 3 0

/-- A source that a write of MBX_SEL in mailbox m may name (R469). -/
def mbxMay (m src : Nat) : Bool :=
  if m = 0 then decide (src ≤ 6) else src == 0 || src == 1 || src == 3

/-- VALID of mailbox m. -/
def State.mbxHas (s : State) (m : Nat) : Bool := s.ru.mbxValid.testBit m

/-- A bit of one of the mailbox masks set or cleared. -/
def putBit (v i : Nat) (b : Bool) : Nat := setBits v i i (b2n b)

/-- A record copied into the data words of mailbox m, VALID set; a copy over an unread record sets LOST (R469). -/
def State.mbxPut (s : State) (m : Nat) (w : List (BitVec 64)) : State :=
  let lost := s.mbxHas m
  let s1 := forUpTo 8 (fun k t => t.setReg (mbxOff m (0x40 + 8 * k)) (w.getD k 0).toNat) s
  { s1 with ru := { s1.ru with mbxValid := putBit s1.ru.mbxValid m true, mbxLost := if lost then putBit s1.ru.mbxLost m true else s1.ru.mbxLost } }

/-- SEQ of an error record, of a posted-fault record. -/
def recSeq (w : List (BitVec 64)) : Nat := (w.headD 0).toNat % 2 ^ 32

/-- The next record of a walk: the oldest when the walk starts, else the first one newer than the last delivered. -/
def walkNext (seq : List (BitVec 64) → Nat) (walk : Nat) (l : List (List (BitVec 64))) : Option (List (BitVec 64)) :=
  if walk = 0 then l.head?
  else l.find? (fun w => let d := (seq w + 2 ^ 32 - (walk - 1)) % 2 ^ 32; decide (0 < d) && decide (d < 2 ^ 31))

/-- Mailbox 0 filled from its source, if the source holds a record (R469). -/
def State.mbxFill0 (s : State) : State :=
  match s.mbxSrc 0 with
  | 1 =>
    match s.err.log with
    | w :: t => { s with err := { s.err with log := t } }.mbxPut 0 w
    | [] => s
  | 2 =>
    match walkNext pfSeqOf s.ru.walk s.err.pf with
    | some w =>
      { s with
        ru := { s.ru with walk := pfSeqOf w + 1 }
        err := { s.err with pf := s.err.pf.map (fun x => if x == w && pfDev x then pfMark x else x) } }.mbxPut 0 w
    | none => s
  | 3 =>
    match s.hv.recs with
    | w :: t => { s with hv := { s.hv with recs := t } }.mbxPut 0 w
    | [] => s
  | 4 =>
    match s.ru.pol with
    | w :: t => { s with ru := { s.ru with pol := t } }.mbxPut 0 w
    | [] => s
  | 5 =>
    match walkNext recSeq s.ru.walk s.err.fatal with
    | some w => { s with ru := { s.ru with walk := recSeq w + 1 } }.mbxPut 0 w
    | none => s
  | 6 =>
    match s.ru.vlog with
    | w :: t => { s with ru := { s.ru with vlog := t } }.mbxPut 0 w
    | [] => s
  | _ => s

/-- The SEQ that the next record of a core mailbox's source takes, and the last record written to that source with its SEQ, whether
or not the source still holds it. -/
def State.mbxNewest (s : State) (m : Nat) : Nat × Option (Nat × List (BitVec 64)) :=
  match s.mbxSrc m with
  | 1 => (s.err.seq, s.err.newest.map (fun w => (recSeq w, w)))
  | 3 => ((s.hv.seq + 1) % 65536, s.hv.newest.map (fun w => (bitsOf (w.headD 0).toNat 63 48, w)))
  | _ => (0, none)

/-- A core's mailbox filled with the newest record written since the selection or the last copy (R469). -/
def State.mbxFillCore (s : State) (m : Nat) : State :=
  let r := s.mbxNewest m
  let old := sget s.ru.mbxSeq m 0
  let md := if s.mbxSrc m = 3 then 2 ^ 16 else 2 ^ 32
  match r.2 with
  | some (q, w) =>
    if (q + md - old % md) % md < (r.1 + md - old % md) % md then
      ({ s with ru := { s.ru with mbxSeq := sset s.ru.mbxSeq m r.1 0 } }).mbxPut m w
    else s
  | none => s

/-- Mailbox m filled if a record is there for it: mailbox 0 while VALID is 0. -/
def State.mbxFill (s : State) (m : Nat) : State :=
  if m = 0 then (if s.mbxHas 0 then s else s.mbxFill0) else s.mbxFillCore m

/-- A write of MBX_SEL (R469): ignored while VALID is 1 or for a source that the mailbox never selects. -/
def State.wrMbxSel (s : State) (m v : Nat) : State :=
  if s.mbxHas m || !mbxMay m (v % 16) then s
  else
    let s1 := s.setReg (mbxOff m 0) (v % 16)
    let s2 := { s1 with ru := { s1.ru with walk := if m = 0 then 0 else s1.ru.walk, mbxSeq := if m = 0 then s1.ru.mbxSeq else sset s1.ru.mbxSeq m (s1.mbxNewest m).1 0 } }
    s2.mbxFill m

/-- A write of MBX_DONE (R469): the record is released and the mailbox fills with the next one. -/
def State.wrMbxDone (s : State) (m v : Nat) : State :=
  if v.testBit 0 && s.mbxHas m then ({ s with ru := { s.ru with mbxValid := putBit s.ru.mbxValid m false } }).mbxFill m else s

/-- Writer w may write mailbox m (R468). -/
def mbxOwner (m w : Nat) : Bool := if m = 0 then decide (w ≤ 1) else w == 3 + m

/-- Reader w may read mailbox m: the host every one, a core its own (R468). -/
def mbxReader (m w : Nat) : Bool := decide (w ≤ 1) || mbxOwner m w

/-- MBX_SEL (R469): writer w names source src in mailbox m. -/
def execMbxSel (m : Fin 5) (w : BitVec 8) (src : BitVec 4) (s : State) : Host.Outcome State Fault Refusal :=
  .next (if s.alive && s.reaches w.toNat then (let s1 := s.busAccess w.toNat; if mbxOwner m w.toNat then s1.wrMbxSel m src.toNat else s1) else s)

/-- MBX_DONE (R469): writer w releases the record in mailbox m. -/
def execMbxDone (m : Fin 5) (w : BitVec 8) (s : State) : Host.Outcome State Fault Refusal :=
  .next (if s.alive && s.reaches w.toNat then (let s1 := s.busAccess w.toNat; if mbxOwner m w.toNat then s1.wrMbxDone m 1 else s1) else s)

/-- MBX_FILL (R469): a record has arrived at the source that mailbox m selects. -/
def execMbxFill (m : Fin 5) (s : State) : Host.Outcome State Fault Refusal := .next (if s.alive then s.mbxFill m else s)

/-- A read of MBX_DATA_k (R469): while VALID is 0 it sets STALE. -/
def State.rdMbxData (s : State) (m k : Nat) : Nat × State :=
  (s.rv (mbxOff m (0x40 + 8 * k)), if s.mbxHas m then s else { s with ru := { s.ru with mbxStale := putBit s.ru.mbxStale m true } })

/-- MBX_DATA_READ (R469): reader w reads data word k of mailbox m. -/
def execMbxDataRead (m : Fin 5) (k : Fin 8) (w : BitVec 8) (s : State) : Host.Outcome State Fault Refusal :=
  .next (if s.alive && s.reaches w.toNat then (let s1 := s.busAccess w.toNat; if mbxReader m w.toNat then (s1.rdMbxData m k).2 else s1) else s)

/-! ### Reset, restart and halt of a core (R385, R386) -/

/-- RUN of core c. -/
def State.smRun (s : State) (c : Nat) : Bool := (s.rv (smOff c 0)).testBit 1

/-- An engine as its reset leaves it: its memories and register-bus state are kept. -/
def Engine.cleared (e : Engine) (pc : BitVec 64) (held : Bool) (cyc : Nat) : Engine :=
  { pc := pc, inReset := held, powered := e.powered, noCode := e.noCode, sram := e.sram, ue := e.ue, timer := e.timer,
    doorbell := e.doorbell, ipend := e.ipend % 2, cycleBase := cyc }

/-- Cycles of an engine's clock since power-on: pan cycles of its bed, core cycles at 2.4 GHz (R5). -/
def State.engCycles (s : State) (e : Nat) : Nat := if e < 64 then s.panCycles (e / 8) else 2 * s.svc

/-- The entry address that the image gives engine e (R385). -/
def State.entryOf (s : State) (e : Nat) : BitVec 64 := sget s.img.entries e 0

/-- Core c brought out of its reset: it runs at its entry address when RUN is 1, its program store is written and it is
powered; else it is held in reset (R385, R457). -/
def State.coreStart (s : State) (c : Nat) : State :=
  let e := s.eng (64 + c)
  let run := s.smRun c && s.img.inForce && e.powered && !e.noCode
  s.setEng (64 + c) (e.cleared (if run then s.entryOf (64 + c) else 0) (!run) (s.engCycles (64 + c)))

/-- The reset of core c: latches broken, recorded, restarted. cause: 0 RESTART, 1 sideband reset (R385, R200). -/
def State.coreReset (s : State) (c cause : Nat) : State :=
  (((s.coreStart c).latBreakOf (4 + c)).logD (uEng (64 + c)) 2 0x0505 cause)

/-- A write of SM_CTL of core c (R385, R390); RESTART of an unpowered core is ignored (R493), and a halted core stays halted until
RESTART, whatever RUN says (R386). -/
def State.wrSmCtl (s : State) (c v : Nat) : State :=
  let s1 := s.setReg (smOff c 0) (bitsOf v 1 1 * 2)
  if v.testBit 0 && (s.eng (64 + c)).powered then s1.coreReset c 0
  else if (s.eng (64 + c)).halted then s1
  else if v.testBit 1 then (if (s1.eng (64 + c)).inReset then s1.coreStart c else s1)
  else s1.coreStart c

/-- SM_RUN (R385): RUN of core c is written. -/
def execSmRun (c : Fin 4) (run : Bool) (s : State) : Host.Outcome State Fault Refusal :=
  next (s.byHost (smOff c 0) (fun t => t.wrSmCtl c (2 * b2n run)))

/-- RESTART (R385): RESTART of core c is written, RUN as it is. -/
def execRestart (c : Fin 4) (s : State) : Host.Outcome State Fault Refusal :=
  next (s.byHost (smOff c 0) (fun t => t.wrSmCtl c (setBits (s.rv (smOff c 0)) 0 0 1)))

/-! ### Timer, tick, doorbells, messages (R383, R386, R390, R406) -/

/-- A write of SM_TIMER_CMP of core c (R390, R405, R406). -/
def State.wrTimer (s : State) (c v : Nat) : State :=
  let s1 := (s.setReg (smOff c 0x10) v).updEng (64 + c) (fun e => { e with timer := none, ipend := setBits e.ipend 0 0 0 })
  let r := s1.evalAt v (uEng (64 + c)) 0x10
  match r.1 with
  | .due | .past => r.2.updEng (64 + c) (fun e => { e with ipend := e.ipend ||| 1 })
  | .pending => r.2.updEng (64 + c) (fun e => { e with timer := some v })
  | .refused => r.2

/-- SM_TIMER_CMP (R390): the register is written. -/
def execSmTimerCmp (c : Fin 4) (v : BitVec 64) (s : State) : Host.Outcome State Fault Refusal :=
  next (if s.regOpen (smOff c 0x10) then (s.busAccess (4 + c)).wrTimer c v.toNat else s)

/-- SM_TIMER (R383, R406): machine time reaches SM_TIMER_CMP. -/
def execSmTimer (c : Fin 4) (s : State) : Host.Outcome State Fault Refusal :=
  .next (match (s.eng (64 + c)).timer with
    | some t => if reached s.now t then s.updEng (64 + c) (fun e => { e with timer := none, ipend := e.ipend ||| 1 }) else s
    | none => s)

/-- SM_TICK (R383): machine time has passed a whole millisecond since the last TICK. -/
def execSmTick (s : State) : Host.Outcome State Fault Refusal :=
  let ms := s.now / 1000000
  .next (if s.alive && ms != s.mt.coreMs then ({ s with mt := { s.mt with coreMs := ms } }).coreEdge 2 else s)

/-- A write of SM_DOORBELL (R390): bits written 1 are set. -/
def State.wrBell (s : State) (c v : Nat) : State := s.updEng (64 + c) (fun e => { e with doorbell := e.doorbell ||| v % 256 })

/-- A write of SM_DOORBELL_ACK (R390): bits written 1 are cleared. -/
def State.wrBellAck (s : State) (c v : Nat) : State :=
  s.updEng (64 + c) (fun e => { e with doorbell := e.doorbell &&& (255 - v % 256) })

/-- SM_DOORBELL (R390). -/
def execSmDoorbell (c : Fin 4) (bits : BitVec 8) (s : State) : Host.Outcome State Fault Refusal :=
  .next (s.byHost (smOff c 0x18) (fun t => t.wrBell c bits.toNat))

/-- SM_DOORBELL_ACK (R390). -/
def execSmDoorbellAck (c : Fin 4) (bits : BitVec 8) (s : State) : Host.Outcome State Fault Refusal :=
  .next (if s.regOpen (smOff c 0x20) then (s.busAccess (4 + c)).wrBellAck c bits.toNat else s)

/-- A write of SM_MSG of core c; the core's own raises vector SM_c (R386, R390). -/
def State.wrMsg (s : State) (c w v : Nat) : State :=
  let s1 := s.setReg (smOff c 0x28) v
  if w = 4 + c then s1.raise [20 + c] else s1

/-- SM_MSG (R386): the core writes its SM_MSG. -/
def execSmMsg (c : Fin 4) (v : BitVec 64) (s : State) : Host.Outcome State Fault Refusal :=
  next (if s.regOpen (smOff c 0x28) then (s.busAccess (4 + c)).wrMsg c (4 + c) v.toNat else s)

/-- The level of interrupt sources 2 and 3 of core c and the pending edges; none while it is unpowered (R383, R457). -/
def State.coreIpend (s : State) (c : Nat) : Nat :=
  let e := s.eng (64 + c)
  if !e.powered then 0 else e.ipend + 4 * b2n (s.mbxHas (1 + c)) + 8 * b2n (decide (e.doorbell ≠ 0))

/-- IPEND of an engine (R368, R383). -/
def State.ipendOf (s : State) (e : Nat) : Nat :=
  if e < 64 then b2n (!(s.pan e).fg.isEmpty) + 2 * b2n (!(s.pan e).bg.isEmpty) else s.coreIpend (e - 64)

/-! ### The policy log (R388) -/

/-- A policy record: POLICY is raised for a clamped or refused store and when the log first holds 256 records. -/
def State.polLog (s : State) (unit core off : Nat) (clamped refused : Bool) (req wrote : Nat) : State :=
  let w : List (BitVec 64) :=
    [ BitVec.ofNat 64 (s.ru.polSeq % 2 ^ 32 * 2 ^ 32 + unit * 2 ^ 20 + core * 2 ^ 18 + b2n clamped * 2 ^ 17 + b2n refused * 2 ^ 16 + off % 2 ^ 16),
      BitVec.ofNat 64 s.now, BitVec.ofNat 64 req, BitVec.ofNat 64 wrote ]
  let full := decide (512 ≤ s.ru.pol.length)
  let log := (if full then s.ru.pol.drop 1 else s.ru.pol) ++ [w]
  let s1 := { s with ru := { s.ru with pol := log, polSeq := (s.ru.polSeq + 1) % 2 ^ 32, polOvf := s.ru.polOvf || full } }
  if clamped || refused || (log.length == 256 && s.ru.pol.length == 255) then s1.raise [24] else s1

/-! ### Work for a pan engine (R76, R370, R389) -/

/-- The KICK bits whose event finds room are queued; the others wait (R389). -/
def State.kicks (s : State) (p : Nat) : State :=
  forUpTo 8 (fun k t =>
    if (t.pan p).kick.testBit k then
      let r := t.raiseFg p { typ := 8 + k }
      if r.1 then r.2.updPan p (fun x => { x with kick := setBits x.kick k k 0 }) else t
    else t) s

/-- A write of KICK of PAN_ENG_CTL (R370, R389). -/
def State.wrKick (s : State) (p v : Nat) : State :=
  (s.updPan p (fun x => { x with kick := x.kick ||| bitsOf v 15 8 })).kicks p

/-- KICK (R389): KICK bits of pan p are written. -/
def execKick (p : Fin 64) (bits : BitVec 8) (s : State) : Host.Outcome State Fault Refusal :=
  .next (s.byHost (panOff p 0xC00) (fun t => t.wrKick p (256 * bits.toNat)))

/-- A write of PAN_QUOTA_CTL (R76): PACE is stored; SWEEP starts a sweep, or restarts one at the next set boundary. -/
def State.wrQuotaCtl (s : State) (p v : Nat) : State :=
  let s1 := s.setReg (panOff p 0x410) (bitsOf v 31 16 * 2 ^ 16)
  if v.testBit 0 then
    if (s1.pan p).sweepBusy then (s1.updPan p (fun x => { x with sweepRestart := true })).raiseBg p 2
    else (s1.updPan p (fun x => { x with sweepBusy := true, sweepPsi := 0, sweepRestart := false })).raiseBg p 2
  else s1

/-- SWEEP (R76): SWEEP of PAN_QUOTA_CTL is written, PACE as it is. -/
def execSweep (p : Fin 64) (s : State) : Host.Outcome State Fault Refusal :=
  .next (s.byHost (panOff p 0x410) (fun t => t.wrQuotaCtl p (setBits (s.rv (panOff p 0x410)) 0 0 1)))

end Sys2Proof.Machine
end

