-- ==== Sys2Proof/Machine/MTime.lean ====
section
/-! DEFINITION. The machine-time unit: ticks, frames, slewing and the application of a jump (R392 to R403). -/

namespace Sys2Proof.Machine

/-- The machine-time unit changed by f. -/
def State.updMt (s : State) (f : MtUnit → MtUnit) : State := { s with mt := f s.mt }

/-- The time of the next tick position: 40 ns on, and the slew of R401. -/
def MtUnit.advance (m : MtUnit) : MtUnit :=
  if 0 < m.slew then { m with tick := (m.tick + 41) % 2 ^ 64, slew := m.slew - 1, atPos := true }
  else if m.slew < 0 then { m with tick := (m.tick + 39) % 2 ^ 64, slew := m.slew + 1, atPos := true }
  else { m with tick := (m.tick + 40) % 2 ^ 64, atPos := true }

/-- STATE becomes FREE: after MT_LOST, or after MT_UNTRUSTED (R393). -/
def State.mtFree (s : State) (untrusted : Bool) : State :=
  (s.updMt (fun m => { m with
    st := 2, untrusted := untrusted, goodEdges := 0, missing := 0, glitches := 0
    sticky := m.sticky ||| (if untrusted then 4 else 2) })).logD uMt 2 (if untrusted then 0x0602 else 0x0601) 0

/-- An edge while LOCKED (R392, R393). -/
def State.edgeLocked (s : State) : State :=
  let m := s.mt
  if m.c < 39 then
    let s1 := (s.updMt (fun m => { m with glitches := m.glitches + 1, edgeC := 0 })).count uMt 0x101
    if 16 ≤ m.glitches + 1 then s1.mtFree true else s1
  else
    ((s.updMt (fun m => { m.advance with ivals := (m.c :: m.ivals).take 16, c := 0, frac := 0, missing := 0, glitches := 0, edgeC := 0 })).markCopies 0 true).count uMt 0x100

/-- An edge while FREE: the 256th good edge in a row locks the unit again, without a step of machine time (R394). -/
def State.edgeFree (s : State) : State :=
  let m := s.mt
  let good := decide (46 ≤ m.edgeC) && decide (m.edgeC ≤ 50)
  let n := if good then m.goodEdges + 1 else 0
  if 256 ≤ n then
    (((s.updMt (fun m => { m with st := 1, tick := m.now, c := 0, frac := 0, goodEdges := 0, missing := 0, glitches := 0, edgeC := 0, atPos := true })).markCopies 0 false).count
      uMt 0x100).logD uMt 0 0x0605 (b2n m.untrusted)
  else s.updMt (fun m => { m with goodEdges := n, edgeC := 0 })

/-- An edge before the first good frame: classified against the position of the previous tick and counted, without any other effect
(R392, R398; log entry 75). -/
def State.edgeNoTime (s : State) : State :=
  if s.mt.edgeC < 39 then s.count uMt 0x101
  else (s.updMt (fun m => { m with edgeC := 0 })).count uMt 0x100

/-- TICK_EDGE (R392 to R394): a rising edge of MT_TICK. -/
def execTickEdge (s : State) : Host.Outcome State Fault Refusal :=
  next (if s.mode.cur == .off then s
    else
      (match s.mt.st with
      | 1 => s.edgeLocked
      | 2 => s.edgeFree
      | _ => s.edgeNoTime).timePasses)

/-- A tick counted missing while LOCKED (R392, R393): its position lies 40 ns after the one before. -/
def State.missLocked (s : State) : State :=
  let s1 := ((s.updMt (fun m => { m.advance with c := m.c - 48, missing := m.missing + 1 })).markCopies (s.mt.c - 48) false).count uMt 0x102
  if 3 ≤ s1.mt.missing then s1.mtFree false else s1

/-- TICK_MISSING (R392, R393): 48 ns have passed since the position without an accepted edge; in FREE ticks are ignored (R394). -/
def execTickMissing (s : State) : Host.Outcome State Fault Refusal :=
  next (if s.mode.cur == .off then s
    else if s.mt.st = 1 then (if s.mt.c < 58 then s else s.missLocked.timePasses)
    else if s.mt.st = 0 ∧ 58 ≤ s.mt.edgeC then (s.updMt (fun m => { m with edgeC := m.edgeC - 48 })).count uMt 0x102
    else s)

/-- FREE_TICK (R400): a tick position generated internally, n service cycles after the last. -/
def execFreeTick (s : State) : Host.Outcome State Fault Refusal :=
  let m := s.mt
  let k := m.n
  .next (if s.mode.cur == .off || m.st == 1 || decide (m.c * k.1 + m.frac < k.2) then s
    else
      let rest := m.c * k.1 + m.frac - k.2
      ((s.updMt (fun m => { m.advance with c := rest / k.1, frac := rest % k.1 })).markCopies (rest / k.1) false).timePasses)

/-! ### The frame input (R396, R397) -/

/-- A bit of MT_FRAME in its tick period: the samples 10 ns and 30 ns after the tick position (R396). -/
def manchester (b : Bool) : Bool × Bool := (b, !b)

/-- The bit that two samples of a period carry; none: they break the Manchester code (R396, R397). -/
def unManchester (x : Bool × Bool) : Option Bool := if x.1 = x.2 then none else some x.1

/-- The start pattern of a frame (R396). -/
def frameStart : List (Bool × Bool) := [(true, true), (false, false), (true, true), (false, false)]

/-- The n low bits of v, most significant first. -/
def bitsDown (v n : Nat) : List Bool :=
  match n with
  | 0 => []
  | k + 1 => v.testBit k :: bitsDown v k

/-- The number that a list of bits spells, most significant first. -/
def bitsUp (l : List Bool) : Nat := l.foldl (fun a b => 2 * a + b2n b) 0

/-- The samples of the 100 periods of a frame with TIME, FSEQ and CRC (R396). -/
def frameLine (time fseq crc : Nat) : List (Bool × Bool) :=
  frameStart ++ (bitsDown time 64 ++ (bitsDown fseq 16 ++ bitsDown crc 16)).map manchester

/-- The bits of a list of periods; none when one of them breaks the Manchester code. -/
def lineBits (l : List (Bool × Bool)) : Option (List Bool) :=
  match l with
  | [] => some []
  | x :: t => (unManchester x).bind (fun b => (lineBits t).map (fun r => b :: r))

/-- TIME and FSEQ of the frame that 100 periods carry; none when its start pattern, one of its bits or its CRC is wrong (R397). -/
def frameRead (l : List (Bool × Bool)) : Option (Nat × Nat) :=
  if l.take 4 ≠ frameStart ∨ l.length ≠ 100 then none
  else
    match lineBits (l.drop 4) with
    | none => none
    | some b =>
      let time := bitsUp (b.take 64)
      let fseq := bitsUp ((b.drop 64).take 16)
      if frameCrc time fseq = bitsUp (b.drop 80) then some (time, fseq) else none

/-- A bad frame, or a millisecond without a frame (R397). -/
def State.badFrame (s : State) : State :=
  let s1 := (s.updMt (fun m => { m with frameOk := false, badFrames := m.badFrames + 1 })).count uMt 0x104
  if s1.mt.badFrames = 8 then
    (s1.updMt (fun m => { m with sticky := m.sticky ||| 8 })).logD uMt 2 0x0603 s1.mt.fseq
  else s1

/-- BAD_FRAME (R397): the periods that have come carry no good frame, or a millisecond has brought none. -/
def execBadFrame (s : State) : Host.Outcome State Fault Refusal := next (if s.mode.cur == .off then s else s.badFrame)

/-- A difference of two machine times as a signed number (R401). -/
def signedDiff (a b : Nat) : Int :=
  let d := dt b a
  if d < 2 ^ 63 then (d : Int) else (d : Int) - (2 ^ 64 : Nat)

/-- The low bits of a signed number, two's complement. -/
def lowBits (x : Int) (n : Nat) : Nat := (x % (2 ^ n : Nat)).toNat

/-- A pending application of a jump is withdrawn, JUMP_PEND having cleared. -/
def MtUnit.noJump (m : MtUnit) : MtUnit := { m with jumpPend := false, applyPend := none, applyNow := false }

/-- The offset of a good frame acted on (R401, R402). -/
def State.frameOffset (s : State) (off : Int) : State :=
  let s1 := s.updMt (fun m => { m with offset := off })
  if off.natAbs = 0 then s1.updMt (fun m => { m.noJump with slew := 0 })
  else if off.natAbs ≤ 1000 then (s1.updMt (fun m => { m.noJump with slew := off })).count uMt 0x106
  else
    (s1.updMt (fun m => { m with jumpPend := true, slew := 0, sticky := m.sticky ||| 16 })).logD uMt 2 0x0604 (lowBits off 51)

/-- The first good frame (R398): it sets machine time, and the periodic schedules start from there (log entry 202). -/
def State.firstFrame (s : State) (time : Nat) : State :=
  { (s.updMt (fun m => { m with st := 1, tick := time, c := 0, frac := 0, missing := 0, glitches := 0, edgeC := 0, atPos := true })).markCopies 0 false with
    hv := { s.hv with lastPer := time, lastDump := time } }

/-- A good frame whose millisecond tick is now (R397, R398, R401). -/
def State.goodFrame (s : State) (time fseq : Nat) : State :=
  let m := s.mt
  let s1 := if m.hadFrame && fseq != (m.fseq + 1) % 65536 then s.count uMt 0x105 else s
  let s2 := (s1.updMt (fun m => { m with fseq := fseq, hadFrame := true, frameOk := true, badFrames := 0 })).count uMt 0x103
  if m.st = 0 then (s2.firstFrame time).timePasses else s2.frameOffset (signedDiff time s.now)

/-- The 100 periods of a frame received, its last one ending now: a good frame, or a bad one; while FREE every one is bad (R397). -/
def State.frameGot (s : State) (l : List (Bool × Bool)) : State :=
  match (if s.mt.st = 2 then none else frameRead l) with
  | none => s.badFrame
  | some x => s.goodFrame x.1 x.2

/-- FRAME (R396 to R398, R401): MT_FRAME has carried TIME and FSEQ with their CRC, and the millisecond tick is now. -/
def execFrame (time : BitVec 64) (fseq : BitVec 16) (s : State) : Host.Outcome State Fault Refusal :=
  next (if s.mode.cur == .off then s
    else s.frameGot (frameLine time.toNat fseq.toNat (frameCrc time.toNat fseq.toNat)))

/-- The jump is to be applied at the next tick position, not at one that is now (R403). -/
def State.applyNext (s : State) : State := s.updMt (fun m => { m with applyNow := true, atPos := false })

/-- A write of MT_CTL (R403, R405): ignored while JUMP_PEND is 0; APPLY_NOW wins over APPLY_TIMED. -/
def State.wrMtCtl (s : State) (v : Nat) : State :=
  let clr := s.updMt (fun m => { m with applyPend := none, applyNow := false, applyRefused := false })
  if !s.mt.jumpPend || v % 4 == 0 then s
  else if v.testBit 0 then clr.applyNext
  else
    let at_ := s.rv 0x10018
    let r := clr.evalAt at_ uMt 0x18
    match r.1 with
    | .due | .past => r.2.applyNext
    | .pending => r.2.updMt (fun m => { m with applyPend := some at_ })
    | .refused => r.2.updMt (fun m => { m with applyRefused := true })

/-- APPLY_NOW (R403). -/
def execApplyNow (s : State) : Host.Outcome State Fault Refusal := .next (if s.alive then (s.busAccess s.hostCode).wrMtCtl 1 else s)

/-- APPLY_TIMED (R403). -/
def execApplyTimed (s : State) : Host.Outcome State Fault Refusal := next (if s.alive then (s.busAccess s.hostCode).wrMtCtl 2 else s)

end Sys2Proof.Machine
end

