-- ==== Sys2Proof/Machine/Harvest.lean ====
section
/-! DEFINITION. The harvest unit: snapshots of every counter, dumps, and the bandwidth windows of the ports (R407 to
R419). -/

namespace Sys2Proof.Machine

/-! ### The counters captured (R407, R408, R420) -/

/-- The units of the device (R20). -/
def allUnits : List Nat := List.range 0x98 ++ (List.range 0x23).map (· + 0x100) ++ (List.range 0xD).map (· + 0x200)

/-- Cycles of a unit's clock since the last reset, as its counter 0 counts them (R11, R407). -/
def State.unitCycles (s : State) (u : Nat) : Nat :=
  if u < 0x40 then s.panCycles (u / 8)
  else if u < 0x58 then s.panCycles (u % 8)
  else if u < 0x98 then s.panCycles ((u - 0x58) / 8)
  else if u < 0x118 ∨ u = 0x121 ∨ u = 0x122 then s.svc * 35 / 24
  else if u < 0x120 then s.svc * 5 / 6
  else if u = 0x120 then s.svc * 5 / 12
  else if u < 0x204 then 2 * s.svc
  else s.svc

/-- An entry of a shadow bank: OVF and VALUE. -/
def bankEntry (ovf : Bool) (v : Nat) : BitVec 64 := BitVec.ofNat 64 (b2n ovf * 2 ^ 62 + v % 2 ^ 48)

/-- Every counter of the device with its OVF bit, as a snapshot captures them (R410). -/
def State.capture (s : State) : Sparse (BitVec 64) :=
  let evs := s.hv.cnt.map (fun x => (x.1, bankEntry (sget s.hv.wrapped x.1 false) x.2))
  let wraps := (s.hv.wrapped.filter (fun x => x.2 && sget s.hv.cnt x.1 0 == 0)).map (fun x => (x.1, bankEntry true 0))
  let cyc := allUnits.map (fun u =>
    let v := s.unitCycles u
    (u * 512, bankEntry (decide (sget s.hv.clk1 u 0 / 2 ^ 48 < v / 2 ^ 48)) v))
  (evs ++ wraps ++ cyc).foldl (fun m x => sset m x.1 x.2 0) []

/-! ### Snapshots (R409 to R412) -/

/-- PERIOD_US of the periodic snapshots in nanoseconds, none when disabled (R409). -/
def State.hvPeriod (s : State) : Option Nat :=
  let p := s.rf 0x10100 47 28
  if p = 0 then none else some (min 1000000 (max 100 p) * 1000)

/-- The dump interval in nanoseconds (R415). -/
def State.dumpPeriod (s : State) : Nat := min 1000000 (max 1000 (s.rf 0x10120 31 12)) * 1000

/-- The latest whole multiple of a period that machine time has reached since `last`, if there is one. -/
def State.multipleSince (s : State) (period last : Nat) : Option Nat :=
  let b := s.now / period * period
  if later last b then some b else none

/-- Dumps run: in PROVE, TEST and RECOVER, EN 1 and BAD_BASE 0 (R415). -/
def State.dumpsRun (s : State) : Bool :=
  (s.mode.cur == .prove || s.mode.cur == .test || s.mode.cur == .recover) && (s.rv 0x10120).testBit 0 && !s.hv.badBase

/-- The dump instant that has been reached, if any. -/
def State.dumpDue (s : State) : Option Nat := if s.dumpsRun then s.multipleSince s.dumpPeriod s.hv.lastDump else none

/-- The periodic instant that has been reached, if any. -/
def State.perDue (s : State) : Option Nat :=
  match s.hvPeriod with
  | none => none
  | some p => s.multipleSince p s.hv.lastPer

/-- The timed or immediate snapshot that is due: its instant. -/
def State.timedDue (s : State) : Option Nat :=
  if s.hv.snapNow then some s.now
  else match s.hv.snapPend with
    | some t => if reached s.now t then some t else none
    | none => none

/-- PERIOD_US of HV_CTL written (R409, R421): a new period restarts the periodic instants. -/
def State.hvSetPeriod (s : State) (v : Nat) : State :=
  let s1 := s.setReg 0x10100 (bitsOf v 47 28 * 2 ^ 28)
  if s1.rf 0x10100 47 28 = s.rf 0x10100 47 28 then s1 else { s1 with hv := { s1.hv with lastPer := s1.now } }

/-- No snapshot pending, refused or late. -/
def State.hvClear (s : State) : State := { s with hv := { s.hv with snapPend := none, snapRefused := false, snapLate := false } }

/-- A snapshot commanded for the instant of HV_SNAP_AT (R405, R409). -/
def State.hvTimed (s : State) : State :=
  let at_ := s.rv 0x10108
  let r := s.evalAt at_ uHarvest 0x108
  match r.1 with
  | .due => { r.2 with hv := { r.2.hv with snapNow := true } }
  | .past => { r.2 with hv := { r.2.hv with snapNow := true, snapLate := true } }
  | .pending => { r.2 with hv := { r.2.hv with snapPend := some at_ } }
  | .refused => { r.2 with hv := { r.2.hv with snapRefused := true } }

/-- A write of SNAP_NOW or SNAP_TIMED of HV_CTL, or of its PERIOD_US (R409, R405, R202). -/
def State.wrHvCtl (s : State) (v : Nat) : State :=
  let s1 := s.hvSetPeriod v
  if v.testBit 0 then (let t := s1.hvClear; { t with hv := { t.hv with snapNow := true } })
  else if v.testBit 1 then s1.hvClear.hvTimed
  else s1

/-- SNAP_NOW (R409): the bit is written, PERIOD_US as it is. -/
def execSnapNow (s : State) : Host.Outcome State Fault Refusal := 
  next (s.byHost 0x10100 (fun t => t.wrHvCtl (commitBits (s.rv 0x10100) 1)))

/-- SNAP_TIMED (R409). -/
def execSnapTimed (s : State) : Host.Outcome State Fault Refusal := 
  next (s.byHost 0x10100 (fun t => t.wrHvCtl (commitBits (s.rv 0x10100) 2)))

/-- The key of event e of the header slot of a bank (R412). -/
def hdrKey (e : Nat) : Nat := 0xFFF * 512 + e

/-- Bank b, and bank b replaced. -/
def Harvest.bank (h : Harvest) (b : Bool) : Sparse (BitVec 64) := if b then h.bank1 else h.bank0
def Harvest.setBank (h : Harvest) (b : Bool) (x : Sparse (BitVec 64)) : Harvest :=
  if b then { h with bank1 := x } else { h with bank0 := x }

/-- A capture at an instant (R410): the back bank's VALID is cleared and the transfer starts. -/
def State.capturing (s : State) (sn : Snap) : State :=
  let c := s.capture
  let back := !s.hv.front
  let bk := s.hv.bank back
  { s with hv := { s.hv.setBank back (sset bk (hdrKey 3) (BitVec.ofNat 64 ((sget bk (hdrKey 3) 0).toNat % 2 ^ 63)) 0) with
      busy := some { sn with ovf := (c.filter (fun x => x.2.toNat.testBit 62)).length }
      capt := c
      wrapped := []
      clk1 := allUnits.foldl (fun m u => sset m u (s.unitCycles u) 0) [] } }

/-- A dump instant met while the previous dump is still being written (R416). -/
def State.dumpSkip (s : State) : State :=
  match s.hv.dump with
  | none => s
  | some d => (s.count uHarvest 0x103).logD uHarvest 0 0x060B d.slot

/-- The instants that a snapshot instant uses up (R409, R410, R415): a timed one ends the waiting request. -/
def State.snapMark (s : State) (per dmp tim : Option Nat) : State :=
  { s with hv := { s.hv with
      lastPer := per.getD s.hv.lastPer, lastDump := dmp.getD s.hv.lastDump
      snapNow := if tim.isSome then false else s.hv.snapNow, snapPend := if tim.isSome then none else s.hv.snapPend } }

/-- A snapshot instant met while BUSY is 1: it is skipped, counted and logged (R410). -/
def State.snapSkip (s : State) : State :=
  (({ s with hv := { s.hv with skipped := true } }).count uHarvest 0x101).logD uHarvest 0 0x0609 s.hv.seq

/-- SNAPSHOT_INSTANT (R409, R410, R415): the instants reached make one snapshot, or it is skipped while BUSY is 1. -/
def execSnapshotInstant (s : State) : Host.Outcome State Fault Refusal :=
  let per := s.perDue
  let dmp := s.dumpDue
  let tim := s.timedDue
  let s1 := s.snapMark per dmp tim
  let s2 := if dmp.isSome then s1.dumpSkip else s1
  next (if !s.alive then s
    else match (per.orElse (fun _ => dmp)).orElse (fun _ => tim) with
      | none => s
      | some t =>
        if s.hv.busy.isSome then s2.snapSkip
        else s2.capturing
          { at_ := t, periodic := per.isSome, timed := tim.isSome, dump := dmp.isSome, late := tim.isSome && s.hv.snapLate,
            free := s.mt.st != 1, slew := s.mt.slew != 0, jump := s.mt.jumpPend, ovf := 0
            write := dmp.isSome && s.hv.dump.isNone })

/-- The words of a harvest record (R411). -/
def Snap.words (x : Snap) (seq : Nat) (bank : Bool) (flip : Nat) : List (BitVec 64) :=
  [ BitVec.ofNat 64 (seq * 2 ^ 48 + b2n bank * 2 ^ 47 + b2n x.periodic * 2 ^ 46 + b2n x.timed * 2 ^ 45 + b2n x.dump * 2 ^ 44
      + b2n x.late * 2 ^ 43 + b2n x.free * 2 ^ 42 + b2n x.slew * 2 ^ 41 + b2n x.jump * 2 ^ 40 + x.ovf % 2 ^ 20 * 2 ^ 20),
    BitVec.ofNat 64 x.at_, BitVec.ofNat 64 flip, 0 ]

/-- HARVEST_FLIP (R410 to R412): every unit's transfer has completed. -/
def execHarvestFlip (s : State) : Host.Outcome State Fault Refusal :=
  next (match s.hv.busy with
    | none => s
    | some x =>
      let h := s.hv
      let b := !h.front
      let seq := (h.seq + 1) % 65536
      let w := x.words seq b s.now
      let head : List (Nat × BitVec 64) :=
        [(hdrKey 0, w.getD 0 0), (hdrKey 1, w.getD 1 0), (hdrKey 2, w.getD 2 0), (hdrKey 3, BitVec.ofNat 64 (2 ^ 63 + seq))]
      let bank := head.foldl (fun m e => sset m e.1 e.2 0) h.capt
      let full := decide (64 ≤ h.recs.length)
      let h1 : Harvest := { h.setBank b bank with
        front := b, seq := seq, busy := none, capt := []
        inval := h.inval.filter (fun k => k / 2 ^ 20 != b2n b)
        recs := (if full then h.recs.drop 1 else h.recs) ++ [w], ovf := h.ovf || full, newest := some w
        dump := if x.write then some { slot := s.nextSlot, base := s.rf 0x10118 43 20 * 2 ^ 20 + s.nextSlot * 2 ^ 20, data := bank } else h.dump
        dumpSlot := if x.write then (s.nextSlot + 1) % s.dumpSlots else h.dumpSlot }
      ((((({ s with hv := h1 }).count uHarvest 0x100).count uHarvest 0x105 (b2n full)).coreEdge 32)).raise [12])

/-! ### Dumps (R415 to R417) -/

/-- The i-th line of a dump written at once: both its writes granted and counted at the memory port it goes to (R196, R314, R416,
R418). -/
def State.dumpLine (s : State) (d : Dump) (i : Nat) : State :=
  match s.mpOf (dumpAddr d.base i) with
  | some (m, _) => ((s.mpSent m 128).count (uMp m) 0x101 2).grant2 (mpArb m) 64 8
  | none => s

/-- The lines of the dump in progress that wait at a memory port sent, and then n more (R416). -/
def State.dumpLines (s : State) (d : Dump) (n : Nat) : State :=
  let s1 := (List.range 8).foldl (fun t m => t.pumpMp m 2) s
  (List.range n).foldl (fun t k => t.dumpLine d (d.line + k)) s1

/-- The first line of the dump from line k on, n lines looked at, that port m holds. -/
def State.dumpAt (s : State) (d : Dump) (m k n : Nat) : Option Nat :=
  ((List.range n).map (fun i => k + i)).find? (fun i => ((s.mpOf (dumpAddr d.base i)).map (·.1)) == some m)

/-- The half of the target that holds a local address. -/
def State.halfAt (s : State) (a : Nat) : Nat :=
  match s.mpOf a with
  | some (_, h) => h
  | none => 0

/-- A line of the dump fails twice at port m and the dump is abandoned: the lines before it have been written; which of R315's
causes the second failure has, no command says (R315, R416; log entry 201). -/
def State.dumpFails (s : State) (d : Dump) (m : Nat) : State :=
  let again := fun (t : State) (h : Nat) =>
    let u := (((t.count (uMp m) 0x105).mpSent m 128).count (uMp m) 0x101 2).grant2 (mpArb m) 64 8
    ({ u with freeIx := u.freeIx + 1 }).reqFail m h true (Config.freeNat u.freeIx % 3)
  let s1 := match s.dumpAt d m d.line (6432 - d.line) with
    | none => s
    | some i => again (s.dumpLines d (i + 1 - d.line)) (s.halfAt (dumpAddr d.base i))
  s1.dumpAbandon m

/-- DUMP_COMPLETE (R416): the dump in progress ends, written whole, or abandoned after a second failure at port m. -/
def execDumpComplete (ok : Bool) (m : Fin 8) (s : State) : Host.Outcome State Fault Refusal :=
  next (match s.hv.dump with
    | none => s
    | some d =>
      if ok then
        let s1 := (s.dumpLines d (6432 - d.line)).dumpEnd
        ({ s1 with hv := { s1.hv with dumps := satAdd s1.hv.dumps 1 0xFFFFFFFF } }).count uHarvest 0x102
      else s.dumpFails d m)

/-- The next line of the dump in progress put at the memory port it goes to, once the line before it has been sent; the header
block's lines wait for the completion of the others, which DUMP_COMPLETE reports (R416; log entry 205). -/
def State.dumpNext (s : State) : State :=
  match s.hv.dump with
  | none => s
  | some d =>
    if decide (6400 ≤ d.line) || (s.findMemReq (fun r => r.kind == 3 && !r.sent)).isSome then s
    else
      let s1 := s.dropDump
      let s2 := { s1 with hv := { s1.hv with dump := some { d with line := d.line + 1 } } }
      match s2.mpOf (dumpAddr d.base d.line) with
      | none => s2
      | some (m, h) =>
        if s2.mpRetired m then (s2.reqFail m h true 1).dumpAbandon m
        else
          (s2.updMp m (fun x => { x with reqs := x.reqs ++
            [{ pan := 64, kind := 3, tag := d.line, half := h, at_ := s.now, sent := false, stamp := s.stamp16 }] })).pumpMp m 2

/-- A write of HV_DUMP_BASE (R417). -/
def State.wrDumpBase (s : State) (v : Nat) : State := (s.setReg 0x10118 (bitsOf v 43 20 * 2 ^ 20)).checkRing

/-- A write of HV_DUMP_CTL (R415, R417): with EN newly 1, or another PERIOD_US, dump instants count from now. -/
def State.wrDumpCtl (s : State) (v : Nat) : State :=
  let s1 := s.setReg 0x10120 (bitsOf v 43 12 * 2 ^ 12 + v % 2)
  let new := (v.testBit 0 && !(s.rv 0x10120).testBit 0) || s1.dumpPeriod != s.dumpPeriod
  (if new then { s1 with hv := { s1.hv with lastDump := s1.now } } else s1).checkRing

/-- HV_DUMP_CONFIG (R417): HV_DUMP_BASE is written, or HV_DUMP_CTL. -/
def execHvDumpConfig (base : Bool) (v : BitVec 64) (s : State) : Host.Outcome State Fault Refusal :=
  .next (s.byHost (if base then 0x10118 else 0x10120) (fun t => if base then t.wrDumpBase v.toNat else t.wrDumpCtl v.toNat))

/-! ### Bandwidth windows (R418, R419, R422) -/

/-- A port with a bandwidth window: Hinge port, Knuckle link or memory port, by its window. -/
def bwBase (b : BwRef) : Nat :=
  match b with
  | .hp p => hpOff p 0
  | .kl l => klOff l 0
  | .mp m => mpOff m 0

/-- The bytes of a port's window, in and out, whether the window is whole, and from when it counts. -/
def State.bwOf (s : State) (b : BwRef) : Nat × Nat × Bool × Nat :=
  match b with
  | .hp p => let h := s.hinge p; (h.bwIn, h.bwOut, h.bwOk, h.bwFrom)
  | .kl l => let k := s.kn l; (k.bwIn, k.bwOut, k.bwOk, k.bwFrom)
  | .mp m => let p := s.mp m; (p.bwIn, p.bwOut, p.bwOk, p.bwFrom)

/-- A new window of a port: nothing counted yet. -/
def State.bwStart (s : State) (b : BwRef) (ok : Bool) (t : Nat) : State :=
  match b with
  | .hp p => s.updHinge p (fun h => { h with bwIn := 0, bwOut := 0, bwOk := ok, bwFrom := t })
  | .kl l => s.updKn l (fun k => { k with bwIn := 0, bwOut := 0, bwOk := ok, bwFrom := t })
  | .mp m => s.updMp m (fun p => { p with bwIn := 0, bwOut := 0, bwOk := ok, bwFrom := t })

/-- WIN_US of a port in nanoseconds (R422). -/
def State.bwWin (s : State) (b : BwRef) : Nat := min 1000000 (max 1 (s.rf (bwBase b + 0xB00) 19 0)) * 1000

/-- A register raised to a value. -/
def State.raiseReg (s : State) (o v : Nat) : State := if s.rv o < v then s.setReg o v else s

/-- BW_WINDOW_END (R419): a window boundary is reached; a window that was discarded ends without effect. -/
def execBwWindowEnd (b : BwRef) (s : State) : Host.Outcome State Fault Refusal :=
  let w := s.bwWin b
  let x := s.bwOf b
  let t := s.now / w * w
  .next (if !s.alive || !later x.2.2.2 t then s
    else
      let s1 := s.bwStart b true t
      if !x.2.2.1 then s1
      else
        let o := bwBase b
        let i := min x.1 (2 ^ 48 - 1)
        let u := min x.2.1 (2 ^ 48 - 1)
        ((((s1.setReg (o + 0xB08) i).setReg (o + 0xB10) u).setReg (o + 0xB28) t).raiseReg (o + 0xB18) i).raiseReg (o + 0xB20) u)

/-- A write of BW_CTL (R419): the window in progress is discarded. -/
def State.wrBwCtl (s : State) (b : BwRef) (v : Nat) : State :=
  (s.setReg (bwBase b + 0xB00) (v % 2 ^ 20)).bwStart b false s.now

/-- BW_CTL (R419): WIN_US is written. -/
def execBwCtl (b : BwRef) (win : BitVec 20) (s : State) : Host.Outcome State Fault Refusal :=
  .next (s.byHost (bwBase b + 0xB00) (fun t => t.wrBwCtl b win.toNat))

end Sys2Proof.Machine
end

