-- ==== Sys2Proof/Machine/Mode.lean ====
section
/-! DEFINITION. The operating modes: requests and commands, transitions, training, and built-in self-test (R59, R426 to
R441). -/

namespace Sys2Proof.Machine

/-- The mode of a code (R424). -/
def modeOf (n : Nat) : Option Mode :=
  match n with
  | 2 => some .blank | 3 => some .load | 4 => some .train | 5 => some .prove | 6 => some .service | 7 => some .drain
  | 8 => some .lean | 9 => some .test | 10 => some .recover | 11 => some .hold
  | _ => none

/-! ### Requests and commands (R426, R427, R433) -/

/-- A mode change refused (R427). -/
def State.modeRefuse (s : State) (m : Nat) : State :=
  ({ s with mode := { s.mode with refused := true } }).logD uMgmt 0 0x0702 (s.mode.cur.code + 16 * m)

/-- The entry into SERVICE, or LEAN while a LEAN cause is in force (R426). -/
def State.enterService (s : State) : State := s.enterMode (if s.leanCause then .lean else .service)

/-- OPC of the command being executed. -/
def ImageUnit.opc (i : ImageUnit) : Nat := bitsOf (i.cmd.headD 0).toNat 63 48

/-- CMD_DONE (R483): the effect of the command being executed is complete. -/
def State.authEnd (s : State) : State :=
  if s.img.authBusy then ({ s with img := { s.img with authBusy := false, cmd := [] } }).logD uAuth 0 0x0805 s.img.opc else s

/-- CMD_DONE of a MODE_CHANGE whose change has been made or refused: not while a transition is in progress or the change waits for
BIST (R435, R483). -/
def State.authMode (s : State) : State := if s.img.opc = 3 ∧ s.mode.busy = false ∧ s.mode.cmdWait = [] then s.authEnd else s

/-- A register request checked against the mode in force (R426, R427). -/
def State.modeRequest (s : State) (req : Nat) : State :=
  if s.mode.busy then s.modeRefuse req
  else
    match s.mode.cur, req with
    | .service, 6 | .drain, 7 => s
    | .prove, 6 | .drain, 6 => s.enterService
    | .service, 7 | .lean, 7 => s.enterMode .drain
    | _, _ => s.modeRefuse req

/-- The transition from TEST to PROVE starts (R433): trackers, wait chains, combining and write buffers are emptied, and
the initialisation of R59 runs again. -/
def State.testToProve (s : State) : State :=
  let s1 := forUpTo 64 (fun p t => t.updPan p (fun x => { x with trks := [], comb := [], wb := [], holds := [], late := [], pfq := [] }))
    { s with mode := { s.mode with busy := true, target := .prove }, arbs := s.arbs.filter (fun a => decide (a.1 < 2 ^ 32)) }
  forUpTo 8 (fun b t => t.updBed b (fun x => { x with init := [] })) s1

/-- A command's mode change checked against the mode in force (R426, R427, R433). -/
def State.modeCommand (s : State) (m : Mode) : State :=
  if s.mode.busy then s.modeRefuse m.code
  else if s.mode.cur == m then s
  else
    match s.mode.cur, m with
    | .prove, .test => s.enterMode .test
    | .drain, .test =>
      if s.drained then ({ s with mode := { s.mode with busy := true, target := .test } }).startFlush else s.modeRefuse m.code
    | .test, .prove => s.testToProve
    | .prove, .recover | .service, .recover | .lean, .recover | .drain, .recover => s.enterMode .recover
    | .recover, .service => s.enterService
    | .recover, .lean => (s.enterMode .lean).applyLean
    | .recover, .drain => s.enterMode .drain
    | .load, .hold | .train, .hold | .prove, .hold | .service, .hold | .drain, .hold | .lean, .hold | .test, .hold
    | .recover, .hold => s.fatalHold
    | _, _ => s.modeRefuse m.code

/-- A command out of TEST waits until every BIST group is done (R435). -/
def State.cmdWaits (s : State) : Bool := s.mode.cur == .test && !s.mode.bist.isEmpty

/-- A mode-change command whose time has come: it takes effect at once, or once BIST is done; while it waits for that, no instant is
pending (R427, R435). -/
def State.cmdNow (s : State) (m : Mode) : State :=
  if s.cmdWaits then { s with mode := { s.mode with cmdWait := s.mode.cmdWait ++ [m] } } else s.modeCommand m

/-- The commands that waited for BIST take effect once no group runs, in their order (R435). -/
def State.cmdsGo (s : State) : State :=
  if s.cmdWaits || s.mode.cmdWait.isEmpty then s
  else (s.mode.cmdWait.foldl State.modeCommand { s with mode := { s.mode with cmdWait := [] } }).authMode

/-- A mode-change command accepted, with its instant if it has one (R427). -/
def State.modeCmd (s : State) (m : Mode) (at_ : Option Nat) : State :=
  let s1 := { s with mode := { s.mode with refused := false } }
  match at_ with
  | none => s1.cmdNow m
  | some t =>
    let s2 := { s1 with mode := { s1.mode with cmdPend := none } }
    let r := s2.evalAt t uAuth 0
    match r.1 with
    | .due | .past => r.2.cmdNow m
    | .pending => { r.2 with mode := { r.2.mode with cmdPend := some (t, m) } }
    | .refused => { r.2 with mode := { r.2.mode with refused := true } }

/-- The fields of DEV_MODE_CTL that hold their value, written (R459). -/
def State.modeCtlReg (s : State) (v : Nat) : State := s.setReg 0x308 (bitsOf v 47 32 * 2 ^ 32 + bitsOf v 11 8 * 256)

/-- No mode request of the registers pending or refused. -/
def State.modeClear (s : State) : State := { s with mode := { s.mode with pend := none, refused := false } }

/-- The mode that REQ names requested now (R426, R459). -/
def State.modeNow (s : State) : State := s.modeRequest (s.rf 0x308 11 8)

/-- The mode that REQ names requested for the instant of DEV_MODE_AT (R405, R459). -/
def State.modeTimed (s : State) : State :=
  let at_ := s.rv 0x310
  let r := s.evalAt at_ uMgmt 0x310
  match r.1 with
  | .due | .past => r.2.modeNow
  | .pending => { r.2 with mode := { r.2.mode with pend := some at_ } }
  | .refused => { r.2 with mode := { r.2.mode with refused := true } }

/-- A write of DEV_MODE_CTL (R427, R202). -/
def State.wrModeCtl (s : State) (v : Nat) : State :=
  let s1 := s.modeCtlReg v
  if v.testBit 0 then s1.modeClear.modeNow
  else if v.testBit 1 then s1.modeClear.modeTimed
  else s1

/-- DEV_MODE_CTL with REQ as given, the other fields as they are. -/
def State.modeCtl (s : State) (req : BitVec 4) : Nat := setBits (s.rv 0x308) 11 8 req.toNat

/-- MODE_COMMIT_NOW (R427). -/
def execModeCommitNow (req : BitVec 4) (s : State) : Host.Outcome State Fault Refusal :=
  next (if s.alive then (s.busAccess s.hostCode).wrModeCtl (commitBits (s.modeCtl req) 1) else s)

/-- MODE_COMMIT_TIMED (R427). -/
def execModeCommitTimed (req : BitVec 4) (s : State) : Host.Outcome State Fault Refusal :=
  next (if s.alive then (s.busAccess s.hostCode).wrModeCtl (commitBits (s.modeCtl req) 2) else s)

/-- A pending register commit whose instant is reached. -/
def State.regInstant (s : State) : State :=
  match s.mode.pend with
  | some t =>
    if reached s.now t then ({ s with mode := { s.mode with pend := none } }).modeRequest (s.rf 0x308 11 8) else s
  | none => s

/-- A pending command whose instant is reached. -/
def State.cmdInstant (s : State) : State :=
  match s.mode.cmdPend with
  | some (t, m) =>
    if reached s.now t then (({ s with mode := { s.mode with cmdPend := none } }).cmdNow m).authMode else s
  | none => s

/-- MODE_REQUEST_INSTANT (R427): the instant of a register commit, or of a command, is reached. -/
def execModeRequestInstant (s : State) : Host.Outcome State Fault Refusal := next (s.regInstant.cmdInstant)

/-- Every pan has finished the flush and its write buffer is empty (R86). -/
def State.flushed (s : State) : Bool := s.pans.all (fun x => !x.2.flushing && x.2.wb.isEmpty)

/-- The stacks have been trained and initialised (R59, R440). -/
def State.stacksReady (s : State) : Bool := (List.range 8).all (fun b => (List.range 8).all (fun c => (s.bed b).init.contains c))

/-- MODE_TRANSITION_DONE (R86, R426, R429, R433): the transition in progress finishes. -/
def execModeTransitionDone (s : State) : Host.Outcome State Fault Refusal :=
  next (if !s.mode.busy then s
    else
      match s.mode.target with
      | .hold => if s.flushed then (s.enterMode .hold).authMode else s
      | .test => if s.flushed then (s.enterMode .test).authMode else s
      | .prove => if s.stacksReady then (s.enterMode .prove).authMode else s
      | _ => s)

/-! ### Training (R59, R440, R441, R448) -/

/-- A Knuckle link at the device's entry into TRAIN (R441, R288): one whose recorded peer is not its neighbour, whatever it was doing,
records that and enters DETECT 100 ms later (log entry 200). -/
def State.klTrain (s : State) (l : Nat) : State :=
  let cfg := s.rv (klOff l 0)
  let k := s.kn l
  if !cfg.testBit 0 then
    (s.dropLink l).setKn l { (s.dropLink l).kn l with link := { st := .disabled, since := s.now }, boot := false, rx := [] }
  else
    let s1 := s.setKn l { k with boot := false }
    let ref : LinkRef := .kl (Fin.ofNat 8 l)
    if k.link.st == .disabled then s1.toDetect ref
    else if k.link.st == .closed || (k.peerDev == bitsOf cfg 23 18 && k.peerLink == bitsOf cfg 17 15) then s1
    else
      (s1.updLk ref (fun x => { x with st := .config, since := s.now, subAt := s.now, detectAt := none })).mismatch ref 0
        (k.peerDev + 64 * k.peerLink)

/-- A Hinge port at the device's entry into TRAIN: it adopts its MODE, and the links that MODE gives it enter DETECT (R285, R440). -/
def State.hingeTrain (p : Nat) (s : State) : State :=
  let s1 := s.updHinge p (fun h => { h with mode := s.rf (hpOff p 0) 33 32 })
  let eq := fun (half : Bool) => s1.lkEq (.hp (Fin.ofNat 16 p) half)
  s1.updHinge p (fun h => { h with
    link0 := if h.mode = 0 then {} else h.link0.detect s1.now (eq false)
    link1 := if h.mode = 2 then h.link1.detect s1.now (eq true) else {} })

/-- The entry into TRAIN (R440, R441): Hinge ports adopt their MODE, memory-port targets begin to train. -/
def State.enterTrain (s : State) : State :=
  let s1 := (s.enterMode .train)
  let s2 := { s1 with mode := { s1.mode with trainAt := s1.now, vrSeen := [] } }
  let s3 := forUpTo 16 State.hingeTrain s2
  let s4 := forUpTo 8 (fun m t =>
    if t.mpRetired m || (t.mp m).down then t
    else
      let one := fun (t : State) (h : Nat) => if t.mpTarget m h then t.setHalf m h { link := 1 } else t
      one (one t 0) 1) s3
  forUpTo 8 (fun l t => t.klTrain l) s4

/-- The PMBus address of the regulator of VDD_BED_b (R448, R475). -/
def State.vrAddr (s : State) (b : Nat) : Nat := bitsOf (sget s.img.struct_ 0 0).toNat (8 * b + 6) (8 * b)

/-- Every regulator named in STRUCT has answered its VOUT_MODE read. -/
def State.vrsReady (s : State) : Bool := (List.range 8).all (fun b => s.mode.vrSeen.contains (s.vrAddr b))

/-- Every target named by an enabled decoder has READY set (R440). -/
def State.memReady (s : State) : Bool :=
  s.hdms.all (fun h => (List.range h.ways).all (fun j => (s.mp (h.tgt j / 2)).ready (h.tgt j % 2)))

/-- STACK_INIT_COMPLETE (R59, R440): the channel of pan p is trained and every block of its line map initialised; the
metadata cache and the way predictor are invalid. -/
def execStackInitComplete (p : Fin 64) (s : State) : Host.Outcome State Fault Refusal :=
  let b := p.val / 8
  .next (if s.mode.cur == .train || (s.mode.busy && s.mode.target == .prove) then
      let s1 := s.updPan p (fun x => { x with cells := [], mdc := [], plru := [], mdwq := [], pred := [] })
      s1.updBed b (fun x => { x with init := if x.init.contains (p.val % 8) then x.init else p.val % 8 :: x.init })
    else s)

/-- VOUT_MODE_READ (R448): the regulator at an address has answered the read in TRAIN. -/
def execVoutModeRead (addr : BitVec 7) (s : State) : Host.Outcome State Fault Refusal :=
  .next (if s.mode.cur == .train && !s.mode.vrSeen.contains addr.toNat then
      { s with mode := { s.mode with vrSeen := addr.toNat :: s.mode.vrSeen } }
    else s)

/-- TRAINING_COMPLETE (R440): step 7 is complete, and the device enters PROVE. -/
def execTrainingComplete (s : State) : Host.Outcome State Fault Refusal :=
  next (if s.mode.cur == .train && !s.mode.busy && s.stacksReady && s.memReady && s.vrsReady then s.enterMode .prove else s)

/-- TRAIN_TIMEOUT (R440): TRAIN_TMO_MS has passed with step 7 incomplete, a fatal fault. -/
def execTrainTimeout (s : State) : Host.Outcome State Fault Refusal :=
  let d := b2n (!s.stacksReady) + 2 * b2n (!s.memReady) + 4 * b2n (!s.vrsReady)
  next (if s.mode.cur == .train && !s.mode.busy && decide (d ≠ 0)
      && decide (max 1 (s.rf 0x308 47 32) * 1000000 ≤ dt s.mode.trainAt s.now) then s.logD uMgmt 3 0x0703 d
    else s)

/-! ### Built-in self-test (R434 to R436) -/

/-- A brine cell of some bed is claimed. -/
def State.brineLive (s : State) : Bool := s.beds.any (fun x => decide (x.1 < 8) && (x.2.queues.any (fun q => !q.2.msgs.isEmpty) || !x.2.graces.isEmpty))

/-- Group id may be started (R434). -/
def State.bistMay (s : State) (id : Nat) : Bool :=
  s.mode.cur == .test && !s.mode.busy &&
    (match id with
    | 3 => s.pans.all (fun x => x.2.wb.isEmpty)
    | 4 => s.pans.all (fun x => x.2.comb.isEmpty)
    | 5 | 6 => !s.brineLive
    | 7 => s.pans.all (fun x => x.2.trks.isEmpty && x.2.lost.isEmpty && x.2.cleanLeft.isEmpty)
    | _ => true)

/-- The groups that a selection names: 5 and 6 are one (R434). -/
def bistSel (sel : Nat) : List Nat :=
  let both := sel.testBit 5 || sel.testBit 6
  ((List.range 12).filter (fun i => i != 0 && (sel.testBit i || (both && (i == 5 || i == 6)))))

/-- A mask of the bits in a list. -/
def maskOf (l : List Nat) : Nat := l.foldl (fun a i => a ||| 2 ^ i) 0

/-- Group 9 starts: every engine and core is held in reset, and the cores' latches are broken (R435). -/
def State.bistEngines (s : State) : State :=
  let s1 := (List.range 68).foldl (fun t e => t.setEng e { (t.eng e).cleared 0 true (t.engCycles e) with noCode := true }) s
  forUpTo 4 (fun c t => t.latBreakOf (4 + c)) s1

/-- A write of DEV_BIST_CTL (R434, R436). -/
def State.wrBist (s : State) (v : Nat) : State :=
  let s1 := s.setReg 0x500 (bitsOf v 11 1 * 2)
  if !v.testBit 0 || !s1.mode.bist.isEmpty then s1
  else
    let sel := bistSel (v % 4096)
    let go := sel.filter s1.bistMay
    let s2 := { s1 with mode := { s1.mode with
      bist := go, bistRefused := maskOf (sel.filter (fun i => !s1.bistMay i))
      bistFail := s1.mode.bistFail &&& (4095 - maskOf go % 4096) } }
    if go.contains 9 then s2.bistEngines else s2

/-- BIST_GO (R434): GO is written with SEL. -/
def execBistGo (sel : BitVec 11) (s : State) : Host.Outcome State Fault Refusal :=
  next (if s.alive then (s.busAccess s.hostCode).wrBist (2 * sel.toNat + 1) else s)

/-- Every pan changed by f. -/
def State.eachPan (s : State) (f : Pan → Pan) : State := forUpTo 64 (fun p t => t.updPan p f) s

/-- The SRAMs of Id 0xB as the test leaves them: the image window, the queue of harvest records, the prefetch streams, the filters
of the beds and the group-snoop collector (R434, R435; log entry 203). -/
def State.zeroOthers (s : State) : State :=
  let t := forUpTo 8 (fun b t => t.updBed b (fun x => { x with filter := [] })) (s.eachPan (fun x => { x with streams := [] }))
  { t with img := { t.img with win := [] }, hv := { t.hv with recs := [] }, fab := { t.fab with coll := [] } }

/-- Every word of a group's structures written to zero with valid check bits (R435). -/
def State.bistZero (s : State) (id : Nat) : State :=
  match id with
  | 1 => s.eachPan (fun x => { x with mdc := [], plru := [] })
  | 2 => s.eachPan (fun x => { x with mdwq := [] })
  | 3 => s.eachPan (fun x => { x with wb := [] })
  | 4 => s.eachPan (fun x => { x with comb := [] })
  | 5 | 6 => forUpTo 8 (fun b t => t.updBed b (fun x => { x with queues := [], graces := [], freed := [], fresh := 0 })) s
  | 7 =>
    let t := s.eachPan (fun x => { x with trks := [], holds := [], gone := [], lost := [], cleanLeft := [], pfq := [] })
    { t with arbs := t.arbs.filter (fun a => decide (a.1 < 2 ^ 32)) }
  | 8 => s.eachPan (fun x => { x with pred := (List.range 65536).map (fun i => (i, 0)) })
  | 9 =>
    let t := (List.range 68).foldl (fun t e => t.updEng e (fun g => { g with sram := [], ue := [] })) s
    { t with img := { t.img with prog := [] } }
  | 10 => { s with hv := { s.hv with bank0 := [], bank1 := [], inval := [] } }
  | 11 => s.zeroOthers
  | _ => s

/-- BIST_DONE (R435): a running group finishes; fails are its failing words, each with its owning unit, at most 16 of a structure
instance recorded (log entry 203). Ids 5 and 6 finish together. -/
def execBistDone (id : Fin 12) (fails : List (BitVec 12 × BitVec 20)) (s : State) : Host.Outcome State Fault Refusal :=
  next (if !s.mode.bist.contains id.val then s
    else
      let ids := if id.val = 5 ∨ id.val = 6 then [5, 6] else [id.val]
      let s1 := ids.foldl (fun t i => t.bistZero i) s
      let s2 := (fails.foldl (fun (acc : State × List (Nat × Nat)) f =>
        let key := (f.1.toNat, Config.bistInstance id f.1.toNat f.2.toNat)
        let n := countIf (· == key) acc.2
        if n < 16 && unitKnown f.1.toNat then (acc.1.logD f.1.toNat 2 0x070B (id.val + 16 * f.2.toNat), key :: acc.2) else acc) (s1, [])).1
      State.cmdsGo { s2 with mode := { s2.mode with
        bist := s2.mode.bist.filter (fun i => !ids.contains i)
        bistFail := if fails.all (fun f => !unitKnown f.1.toNat) then s2.mode.bistFail else s2.mode.bistFail ||| maskOf ids } })

end Sys2Proof.Machine
end

