-- ==== Sys2Proof/Machine/Sluice.lean ====
section
/-! DEFINITION. The Sluice governor, the shed request, the frequency, voltage and temperature of the beds, the stack rest,
power-down, and the output signals (R232, R442 to R458). -/

namespace Sys2Proof.Machine

/-- The governor's state changed by f. -/
def State.updSl (s : State) (f : Sluice → Sluice) : State := { s with sl := f s.sl }

/-- The governor runs from BLANK onward (R442). -/
def State.slRuns (s : State) : Bool := s.alive

/-! ### The envelope (R442 to R445) -/

/-- SLOPE and SHED_SLOPE in tenths of an ampere per step. -/
def slope (v : Nat) : Nat := min 200 (max 2 v)

/-- BUDGET and FLOOR in tenths of an ampere. -/
def ampere (v : Nat) : Nat := 10 * min 800 (max 150 v)

/-- The new envelope (R443), in tenths of an ampere: from E and D, the rise and the fall allowed in one step, and the cap. -/
def envelope (e d up down cap : Nat) : Nat := max (e - down) (min (e + up) (min d cap))

/-- The cap of a governor step (R443): BUDGET, and during a shed or a discrepancy not more than FLOOR. -/
def State.sluiceCap (s : State) : Nat :=
  if s.shedding then min (ampere (s.rf 0x20008 41 32)) (ampere (s.rf 0x20008 25 16)) else ampere (s.rf 0x20008 41 32)

/-- The envelope before a governor step: the first step after reset starts at the demand (R442). -/
def State.sluiceE (s : State) (d : Nat) : Nat := if s.sl.started then s.sl.e else d

/-- The rise allowed in a governor step with demand D: SLOPE, and under the override any (R443, R445). -/
def State.sluiceUp (s : State) (d : Nat) : Nat := if s.sl.override_ then d else slope (s.rf 0x20000 7 0)

/-- The fall allowed in a governor step: SHED_SLOPE in a shed or in its descent, which lasts while the envelope lies above the cap, under the override as well, where any other
fall is unbounded (R443, R445; log entry 28). -/
def State.sluiceDown (s : State) (e : Nat) : Nat :=
  if s.shedding || (s.sl.descent && decide (s.sluiceCap < e)) then slope (s.rf 0x20000 15 8)
  else if s.sl.override_ then e
  else slope (s.rf 0x20000 7 0)

/-- The envelope after a governor step with demand D (R443 to R445). -/
def State.sluiceNext (s : State) (d : Nat) : Nat :=
  envelope (s.sluiceE d) d (s.sluiceUp d) (s.sluiceDown (s.sluiceE d)) s.sluiceCap

/-- What a governor step leaves in the governor: the fill current, the duty (a free value below 63 while it throttles, log
entry 3) and the descent of a shed (R443 to R445). -/
def State.sluicePut (s : State) (d e : Nat) : State :=
  { s.updSl (fun l => { l with
      e := e, d := d, started := true, fill := if l.override_ then 0 else e - d
      duty := if e < d then Config.freeNat s.freeIx % 63 else 63
      descent := (s.shedding || l.descent) && decide (s.sluiceCap < e) }) with
    freeIx := if e < d then s.freeIx + 1 else s.freeIx }

/-- The filler reads of a step: the stack interfaces of the beds that do not rest have been issued commands (R15, R444, R453; log
entry 48). -/
def State.filler (s : State) : State :=
  if s.sl.fill = 0 then s
  else forUpTo 8 (fun b t => if (t.bed b).rest = 0 ∧ !t.img.retireBed.testBit b then t.updBed b (fun x => { x with lastCmd := t.now }) else t) s

/-- The budget cause of LEAN after a governor step: it lasts until 1 ms without throttling to BUDGET (R431). -/
def State.budgetMark (s : State) (bud : Bool) : State :=
  { s with mode :=
      if bud then { s.mode with budget := true, budgetAt := s.now }
      else if s.mode.budget && decide (1000000 ≤ dt s.mode.budgetAt s.now) then { s.mode with budget := false } else s.mode }

/-- SLUICE_STEP (R443 to R445): one governor step with the estimated demand D in tenths of an ampere. The duty of a
throttled step is a free value (log entry 3). -/
def execSluiceStep (d : BitVec 14) (s : State) : Host.Outcome State Fault Refusal :=
  let d := d.toNat
  let e := s.sluiceNext d
  let s1 := (s.sluicePut d e).filler
  let s2 := if e = min d s.sluiceCap then s1 else s1.count uSluice 0x100
  next (if !s.slRuns then s
    else (s2.budgetMark (decide (e < d) && e == ampere (s.rf 0x20008 41 32))).applyLean)

/-- The Sluice override started or ended (R445). -/
def State.slOverride (s : State) (on : Bool) : State :=
  (s.updSl (fun l => { l with override_ := on })).logD uSluice 0 0x0708 (b2n on)

/-! ### The shed request (R446, R447) -/

/-- The discrepancy time in samples (R447). -/
def State.discSamples (s : State) : Nat := min 100 (max 1 (s.rf 0x20010 6 0)) * 1000

/-- 10 ms have passed since a time. -/
def State.tenMs (s : State) (t : Nat) : Bool := decide (10000000 ≤ dt t s.now)

/-- A shed begins: POWER is raised (R446). -/
def State.shedStart (s : State) : State :=
  ((s.updSl (fun l => { l with shed := true, shedAt := s.now })).count uSluice 0x102).raise [15]

/-- The effect of a shed, or of a cleared discrepancy, ends after its 10 ms at a sample that agrees on release. -/
def State.shedEnd (s : State) : State :=
  let s1 := if s.sl.shed && s.tenMs s.sl.shedAt then (s.updSl (fun l => { l with shed := false })).raise [15] else s
  if s1.sl.discHold && s1.tenMs s1.sl.discAt then (s1.updSl (fun l => { l with discHold := false })).raise [15] else s1

/-- A sample on which the channels agree. -/
def State.agreeing (s : State) (asserted : Bool) : State :=
  let l := s.sl
  let s1 := if l.disRun ≠ 0 ∧ l.disRun < l.disLimit then s.count uSluice 0x103 else s
  let s2 := s1.updSl (fun l => { l with disRun := 0, agreed := asserted, relRun := if asserted then 0 else l.relRun + 1 })
  if asserted then (if l.agreed then s2 else s2.shedStart) else s2.shedEnd

/-- A sample on which the channels disagree (R447). -/
def State.disagreeing (s : State) (a bn : Bool) : State :=
  let l := s.sl
  let lim := if l.disRun = 0 then s.discSamples else l.disLimit
  let s1 := s.updSl (fun l => { l with disRun := l.disRun + 1, disLimit := lim, relRun := 0 })
  if l.disRun + 1 = lim then
    (s1.updSl (fun l => { l with disc := true, discHold := false, discAt := s.now })).logD uSluice 2 0x0704 (b2n a + 2 * b2n bn)
  else s1

/-- SHED_SAMPLE (R446, R447): SHED_A and SHED_B_N are sampled. -/
def execShedSample (a bn : Bool) (s : State) : Host.Outcome State Fault Refusal :=
  next (if !s.slRuns then s
    else
      let s1 := s.updSl (fun l => { l with levelA := a, levelBN := bn })
      (if a != bn then s1.agreeing a else s1.disagreeing a bn).applyLean)

/-- A write of DISC (R447): it clears the fault only after agreed release for DISC_MS. -/
def State.wrDisc (s : State) : State :=
  if s.sl.disc && decide (s.discSamples ≤ s.sl.relRun) then
    if s.tenMs s.sl.discAt then ((s.updSl (fun l => { l with disc := false })).raise [15]).applyLean
    else (s.updSl (fun l => { l with disc := false, discHold := true }))
  else s

/-- SHED_DISC_CLEAR (R447). -/
def execShedDiscClear (s : State) : Host.Outcome State Fault Refusal := next (if s.slRuns then (s.busAccess s.hostCode).wrDisc else s)

/-! ### Frequency steps (R448, R449, R451) -/

/-- The frequency of a step in MHz and its voltage in mV (R448). -/
def stepMhz (k : Nat) : Nat := 1200 + 100 * k
def stepMv (k : Nat) : Nat := [650, 665, 680, 695, 710, 725, 740, 760, 780, 805, 830, 860, 900].getD k 900

/-- The beds adjacent to bed b (R451). -/
def adjacent (b : Nat) : List Nat :=
  (List.range 8).filter (fun c => c + 4 == b || b + 4 == c || (c / 4 == b / 4 && (c + 1 == b || b + 1 == c)))

/-- Two steps of adjacent beds meet the voltage limit, and the ratio limit (R451). -/
def voltOk (j k : Nat) : Bool := decide (stepMv j - stepMv k ≤ 120) && decide (stepMv k - stepMv j ≤ 120)
def ratioOk (j k : Nat) : Bool := decide (2 * stepMhz j ≤ 3 * stepMhz k) && decide (2 * stepMhz k ≤ 3 * stepMhz j)

/-- Step k of bed b meets R451 against every adjacent bed's current step. -/
def State.stepOk (s : State) (b k : Nat) : Bool :=
  (adjacent b).all (fun c => voltOk k (s.bed c).step && ratioOk k (s.bed c).step)

/-- The requested step of bed b. -/
def State.bedReq (s : State) (b : Nat) : Nat := min 12 (s.rf (0x20040 + 8 * b) 4 0)

/-- The target of bed b without its thermal cap. -/
def State.bedWant (s : State) (b : Nat) : Nat :=
  if s.shedding then min (s.bedReq b) (min 12 (s.rf 0x20008 4 0)) else s.bedReq b

/-- The target of bed b (R449); after a thermal trip every bed stays at step 0 (R452). -/
def State.bedTarget (s : State) (b : Nat) : Nat := if s.mode.tripped then 0 else min (s.bedWant b) (s.bed b).cap

/-- The nearest step to the target that meets R451, searched at growing distance, the lower one first. -/
def State.newStep (s : State) (b : Nat) : Nat :=
  let t := s.bedTarget b
  ((List.range 13).findSome? (fun d =>
    if d ≤ t ∧ s.stepOk b (t - d) = true then some (t - d)
    else if t + d ≤ 12 ∧ s.stepOk b (t + d) = true then some (t + d)
    else none)).getD (s.bed b).step

/-- The step granted differs from the request for the voltage limit, rather than for the ratio limit alone. -/
def State.voltBlocks (s : State) (b : Nat) : Bool :=
  let n := s.newStep b
  let k := if n < s.bedTarget b then n + 1 else n - 1
  !((adjacent b).all (fun c => voltOk k (s.bed c).step))

/-- A DVFS_CLAMP record, one per written request value (R449). -/
def State.clamp (s : State) (b : Nat) : State :=
  if s.newStep b ≠ s.bedReq b ∧ s.bedTarget b = s.bedReq b ∧ (s.bed b).clamped = false then
    ((s.updBed b (fun x => { x with clamped := true })).count uSluice 0x104).logD uSluice 0 0x0707
      (b + 8 * s.bedReq b + 256 * s.newStep b + 2 ^ 13 * b2n (s.voltBlocks b))
  else s

/-- The bed that the governor serves next: its step differs from its target and can come nearer (R449). -/
def State.nextBed (s : State) : Option Nat :=
  ((List.range 8).map (fun i => (s.sl.served + 1 + i) % 8)).find? (fun b =>
    (s.bed b).step != s.bedTarget b && s.newStep b != (s.bed b).step)

/-- BED_STEP_CHANGE (R449): the governor serves a bed, one at a time. A raise writes VOUT_COMMAND first; a lowering
switches the clock first. -/
def execBedStepChange (s : State) : Host.Outcome State Fault Refusal :=
  next (if !s.slRuns || s.beds.any (fun x => x.2.chg.isSome) then s
    else
      let s1 := forUpTo 8 (fun b t => t.clamp b) s
      match s1.nextBed with
      | none => s1
      | some b =>
        let n := s1.newStep b
        let s2 := s1.updSl (fun l => { l with served := b })
        if (s1.bed b).step < n then
          s2.updBed b (fun x => { x with volt := stepMv n, chg := some (n, 1, s.now + max 1 (s.rf 0x200B0 15 0) * 1000) })
        else s2.updBed b (fun x => { x with step := n, chg := some (n, 2, s.now + 100) }))

/-- VR_SETTLE_DONE (R449): SETTLE_US after VOUT_COMMAND the clock is switched. -/
def execVrSettleDone (b : Fin 8) (s : State) : Host.Outcome State Fault Refusal :=
  .next (match (s.bed b).chg with
    | some (n, 1, t) => if reached s.now t then s.updBed b (fun x => { x with step := n, chg := some (n, 2, s.now + 100) }) else s
    | _ => s)

/-- CLOCK_SWITCH_DONE (R449): the admission stop ends; after a lowering VOUT_COMMAND is written. -/
def execClockSwitchDone (b : Fin 8) (s : State) : Host.Outcome State Fault Refusal :=
  .next (match (s.bed b).chg with
    | some (n, 2, t) => if reached s.now t then s.updBed b (fun x => { x with volt := stepMv n, chg := none }) else s
    | _ => s)

/-- The request of bed b given a value (R449). -/
def State.putReq (s : State) (b v : Nat) : State :=
  (s.setReg (0x20040 + 8 * b) (v % 32)).updBed b (fun x => { x with clamped := false })

/-- A write of SL_BED_REQ_b (R449): held while HOLD_REQ is 1. -/
def State.wrBedReq (s : State) (b v : Nat) : State :=
  if (s.rv 0x20080).testBit 5 then s.updSl (fun l => { l with held := sset l.held b (some (v % 32)) none }) else s.putReq b v

/-- SL_BED_REQ (R449). -/
def execSlBedReq (b : Fin 8) (v : BitVec 5) (s : State) : Host.Outcome State Fault Refusal :=
  .next (if s.alive then (s.busAccess s.hostCode).wrBedReq b v.toNat else s)

/-- The held requests applied (R449). -/
def State.stepCommit (s : State) : State :=
  forUpTo 8 (fun b t => match sget s.sl.held b none with | some v => t.putReq b v | none => t)
    (s.updSl (fun l => { l with held := [], stepPend := none }))

/-- A write of SL_STEP_CTL (R449, R427, R202). -/
def State.wrStepCtl (s : State) (v : Nat) : State :=
  let s1 := s.setReg 0x20080 (bitsOf v 5 5 * 32)
  let clr := s1.updSl (fun l => { l with stepPend := none, stepRefused := false })
  if v.testBit 0 then clr.stepCommit
  else if v.testBit 1 then
    let at_ := clr.rv 0x20088
    let r := clr.evalAt at_ uSluice 0x88
    match r.1 with
    | .due | .past => r.2.stepCommit
    | .pending => r.2.updSl (fun l => { l with stepPend := some at_ })
    | .refused => r.2.updSl (fun l => { l with stepRefused := true })
  else s1

/-- STEP_COMMIT_NOW (R449). -/
def execStepCommitNow (s : State) : Host.Outcome State Fault Refusal :=
  .next (if s.alive then (s.busAccess s.hostCode).wrStepCtl (commitBits (s.rv 0x20080) 1) else s)

/-- STEP_COMMIT_TIMED (R449). -/
def execStepCommitTimed (s : State) : Host.Outcome State Fault Refusal :=
  next (if s.alive then (s.busAccess s.hostCode).wrStepCtl (commitBits (s.rv 0x20080) 2) else s)

/-- STEP_COMMIT_INSTANT (R449). -/
def execStepCommitInstant (s : State) : Host.Outcome State Fault Refusal :=
  .next (match s.sl.stepPend with
    | some t => if reached s.now t then s.stepCommit else s
    | none => s)

/-- VR_ALERT (R448): VR_ALERT_N is low, and the regulator at addr answers with its STATUS_WORD. -/
def execVrAlert (addr : BitVec 7) (status : BitVec 16) (s : State) : Host.Outcome State Fault Refusal :=
  let a := addr.toNat
  let old := sget s.sl.vrAt a 0
  let named := if s.img.inForce then (List.range 8).find? (fun b => s.vrAddr b == a) else none
  next (if !s.slRuns || (old != 0 && decide (dt (old - 1) s.now < 1000000)) then s
    else
      ((s.updSl (fun l => { l with vrAt := sset l.vrAt a (s.now + 1) 0 })).count uSluice 0x105).logD uSluice 2 0x070C
        (a + 2 ^ 7 * status.toNat + 2 ^ 23 * b2n named.isNone + 2 ^ 24 * named.getD 0))

/-! ### Temperature (R232, R450, R452) -/

/-- The hottest of a list of readings. -/
def hottest (l : List Nat) : Nat := l.foldl max 0

/-- The hottest sensor of bed b. -/
def Bed.hot7 (x : Bed) : Nat := max (hottest x.die) (hottest x.stk)

/-- The thresholds of R450 in units of 0.25 °C. -/
def State.warnDie (s : State) : Nat := 4 * min 105 (max 60 (s.rf 0x20090 23 16))
def State.warnStk (s : State) : Nat := 4 * min 95 (max 60 (s.rf 0x20090 7 0))

/-- A bed's own governing readings, and the refresh window of its hottest stack sensor (R232, R450). -/
def Bed.read (x : Bed) (r : BedTemp) : Bed :=
  let die := r.die.map (·.toNat)
  let stk := r.stk.map (·.toNat)
  let h := hottest stk
  { x with die := die, stk := stk, dieG := hottest die, stkG := h
           hot := if 340 < h then true else if h < 328 then false else x.hot }

/-- The suspected sensor fault of a pair of adjacent beds, hot the hotter one (R452): the hotter readings govern both, and
a new fault is recorded. Answers whether the difference reaches 45 °C. -/
def State.skewPair (s : State) (was : Nat → Bool) (hot cool : Nat) : Bool × State :=
  let d := (s.bed hot).hot7 - (s.bed cool).hot7
  if d ≤ 120 then (false, s)
  else
    let h := s.bed hot
    let s1 := s.updBed cool (fun x => { x with dieG := max x.dieG (hottest h.die), stkG := max x.stkG (hottest h.stk), skew := true })
    (decide (180 ≤ d), if was cool then s1 else s1.logD uSluice 2 0x0705 (hot + 8 * cool + 64 * d))

/-- The thermal-trip path (R452): THERM_TRIP_N, a fatal record, every bed at step 0, every stack in self-refresh; taken once between
two device resets. -/
def State.thermTrip (s : State) (b : Nat) (stack skew : Bool) (reading : Nat) : State :=
  if s.mode.tripped then s
  else
    let s1 := ({ s with mode := { s.mode with thermTrip := true, tripped := true } }).logD uSluice 3 0x0706
      (b + 8 * b2n stack + 16 * b2n skew + 32 * (reading % 1024))
    forUpTo 8 (fun c t => t.updBed c (fun x => { x with step := 0, volt := stepMv 0, chg := none, rest := 2, wakeReq := false })) s1

/-- The trip of bed b's own governing readings (R450). -/
def State.tripBed (s : State) (b : Nat) : State :=
  let x := s.bed b
  if 440 ≤ x.dieG then s.thermTrip b false x.skew x.dieG
  else if 400 ≤ x.stkG then s.thermTrip b true x.skew x.stkG
  else s

/-- Every bed's readings are 3 °C below both thresholds (R431). -/
def State.allCool (s : State) : Bool :=
  (List.range 8).all (fun b => decide ((s.bed b).dieG + 12 ≤ s.warnDie) && decide ((s.bed b).stkG + 12 ≤ s.warnStk))

/-- The THERMAL cause after a reading (R431). -/
def State.thermalCause (s : State) : State :=
  if !s.allCool then { s with mode := { s.mode with thermalAt := s.now } }
  else if s.mode.thermal && decide (1000000 ≤ dt s.mode.thermalAt s.now) then
    ({ s with mode := { s.mode with thermal := false } }).applyLean
  else s

/-- THERMAL_READ (R450, R452): the sensors of every bed are read. -/
def execThermalRead (r : List BedTemp) (s : State) : Host.Outcome State Fault Refusal :=
  let was := fun b => (s.bed b).skew
  next (if s.mode.cur == .off then s
    else
      let s1 := forUpTo 8 (fun b t => t.updBed b (fun x => { x.read (r.getD b {}) with skew := false })) s
      let pairs := (List.range 8).flatMap (fun b => (adjacent b).map (fun c => (b, c)))
      let s2 := pairs.foldl (fun (acc : Option Nat × State) q =>
        let u := acc.2.skewPair was q.1 q.2
        (if u.1 then some q.1 else acc.1, u.2)) (none, s1)
      let s3 := match s2.1 with
        | some b => s2.2.thermTrip b (decide (hottest (s2.2.bed b).die < hottest (s2.2.bed b).stk)) true (s2.2.bed b).hot7
        | none => s2.2
      (forUpTo 8 (fun b t => t.tripBed b) s3).thermalCause)

/-- The thermal cap of bed b one step on (R450): it falls by one while a reading is at its threshold, and rises by one while both are
3 °C below; once it limits no longer it stands at 12 (log entry 128). -/
def State.capStep (s : State) (b : Nat) : State :=
  let x := s.bed b
  let w := s.bedWant b
  if s.warnDie ≤ x.dieG ∨ s.warnStk ≤ x.stkG then
    ({ s with mode := { s.mode with thermal := true, thermalAt := s.now } }).setBed b { x with cap := x.cap - 1 }
  else if x.dieG + 12 ≤ s.warnDie ∧ x.stkG + 12 ≤ s.warnStk then
    s.setBed b { x with cap := if w ≤ x.cap + 1 then 12 else x.cap + 1 }
  else s

/-- THERMAL_CAP_UPDATE (R450): every bed's thermal cap falls or rises by one step. -/
def execThermalCapUpdate (s : State) : Host.Outcome State Fault Refusal :=
  next (if !s.slRuns then s else (forUpTo 8 (fun b t => t.capStep b) s).applyLean)

/-! ### Stack rest (R453) -/

/-- IDLE_US of bed b in nanoseconds. -/
def State.restIdle (s : State) (b : Nat) : Nat := max 1 (s.rf (bedOff b 0xE00) 31 16) * 1000

/-- The stack of bed b may enter its rest (R453). -/
def State.mayRest (s : State) (b : Nat) : Bool :=
  (s.rv (bedOff b 0xE00)).testBit 0 && s.mode.cur.runs && decide (s.restIdle b ≤ dt (s.bed b).lastCmd s.now)
  && reached s.now (s.bed b).noRest && (List.range 8).all (fun c => (s.pan (8 * b + c)).mdwq.isEmpty)

/-- STACK_REST_ENTRY (R453): the bed begins the entry, or an entry begun 100 ns ago is over. -/
def execStackRestEntry (b : Fin 8) (s : State) : Host.Outcome State Fault Refusal :=
  let x := s.bed b
  .next (if x.rest = 0 ∧ s.mayRest b = true then
      (s.setBed b { x with rest := 1, restAt := s.now, wakeReq := false }).count (uBed b) 0x11B
    else if x.rest = 1 ∧ 100 ≤ dt x.restAt s.now then
      s.setBed b { x with rest := if x.wakeReq then 3 else 2, restAt := s.now, wakeReq := false }
    else s)

/-- STACK_REST_EXIT (R453): 2 µs after its start the exit is over, and the requests that waited proceed. -/
def execStackRestExit (b : Fin 8) (s : State) : Host.Outcome State Fault Refusal :=
  let x := s.bed b
  next (if x.rest = 3 ∧ 2000 ≤ dt x.restAt s.now then
      let s1 := s.setBed b { x with rest := 0, lastCmd := s.now }
      if s1.homeOpen then
        forUpTo 8 (fun c t => (t.pan (8 * b + c)).trks.foldl (fun u k => u.progress (8 * b + c) k.id) t) s1
      else s1
    else s)

/-- A write of BED_REST_CTL (R453): WAKE ends a rest at once and prevents the next entry for IDLE_US. -/
def State.wrRest (s : State) (b v : Nat) : State :=
  let s1 := s.setReg (bedOff b 0xE00) (bitsOf v 31 16 * 2 ^ 16 + v % 2)
  if v.testBit 1 then (s1.wake b).updBed b (fun x => { x with noRest := (s1.now + s1.restIdle b) % 2 ^ 64 }) else s1

/-- WAKE (R453): WAKE is written, the other fields as they are. -/
def execWake (b : Fin 8) (s : State) : Host.Outcome State Fault Refusal :=
  .next (if s.alive then (s.busAccess s.hostCode).wrRest b (setBits (s.rv (bedOff b 0xE00)) 1 1 1) else s)

/-! ### Power-down (R454, R456, R457) -/

/-- An enabled decoder names a target of memory port m. -/
def State.mpNamed (s : State) (m : Nat) : Bool := s.hdms.any (fun h => (List.range h.ways).any (fun j => h.tgt j / 2 == m))

/-- SL_PDN's bit for memory port m set or cleared (R454, R456). -/
def State.pdnMp (s : State) (m : Nat) (on : Bool) : State :=
  if on then
    if (s.rv 0x200A0).testBit m then s
    else if s.mpNamed m then s.logD uSluice 2 0x0709 m
    else (s.setRf 0x200A0 m m 1).mpPdn m
  else
    let s1 := s.setRf 0x200A0 m m 0
    if !(s.mp m).down then s1
    else
      let s2 := s1.updMp m (fun p => { p with down := false })
      let one := fun (t : State) (h : Nat) => if t.mpRuns && t.mpTarget m h && !t.mpRetired m then t.setHalf m h { link := 1 } else t
      one (one s2 0) 1

/-- SL_PDN's bit for core c set or cleared (R457). -/
def State.pdnCore (s : State) (c : Nat) (on : Bool) : State :=
  if (s.rv 0x200A0).testBit (7 + c) == on then s
  else
    let s1 := s.setRf 0x200A0 (7 + c) (7 + c) (b2n on)
    let e := s1.eng (64 + c)
    if on then (s1.setEng (64 + c) { e.cleared 0 true (s1.engCycles (64 + c)) with powered := false }).latBreakOf (4 + c)
    else (s1.setEng (64 + c) { e with powered := true }).coreStart c

/-- A write of SL_PDN. -/
def State.wrPdn (s : State) (v : Nat) : State :=
  let s1 := forUpTo 8 (fun m t => t.pdnMp m (v.testBit m)) s
  forUpTo 3 (fun c t => t.pdnCore (c + 1) (v.testBit (8 + c))) s1

/-- MP_POWER_DOWN (R456): the port's bit is set. -/
def execMpPowerDown (m : Fin 8) (s : State) : Host.Outcome State Fault Refusal := next (if s.alive then (s.busAccess s.hostCode).pdnMp m true else s)

/-- MP_POWER_UP (R454): the port's bit is cleared. -/
def execMpPowerUp (m : Fin 8) (s : State) : Host.Outcome State Fault Refusal := next (if s.alive then (s.busAccess s.hostCode).pdnMp m false else s)

/-- CORE_POWER_DOWN (R457): the bit of core 1, 2 or 3 is set. -/
def execCorePowerDown (c : Fin 3) (s : State) : Host.Outcome State Fault Refusal :=
  next (if s.alive then (s.busAccess s.hostCode).pdnCore (c + 1) true else s)

/-- CORE_POWER_UP (R457): the bit of core 1, 2 or 3 is cleared. -/
def execCorePowerUp (c : Fin 3) (s : State) : Host.Outcome State Fault Refusal :=
  next (if s.alive then (s.busAccess s.hostCode).pdnCore (c + 1) false else s)

/-! ### Output signals (R458) -/

/-- ALERT_N is driven low. -/
def State.alertLow (s : State) : Bool := s.alive && decide (s.err.vec &&& (2 ^ 32 - 1 - s.rv 0x30018 % 2 ^ 32) ≠ 0)

/-- FAULT_N is driven low. -/
def State.faultLow (s : State) : Bool := s.alive && (s.holding || s.sl.disc)

/-- THERM_TRIP_N is driven low. -/
def State.thermTripLow (s : State) : Bool := s.mode.thermTrip

end Sys2Proof.Machine
end

