-- ==== Sys2Proof/Machine/Jump.lean ====
section
/-! DEFINITION. The application of a jump of machine time: the stamps held are rebased and every pending instant is
evaluated again (R190, R403, R404, R419). -/

namespace Sys2Proof.Machine

/-! ### Stamps (R190) -/

/-- A stamp moved by a number of units. -/
def moveStamp (d : Nat) (x : BitVec 16) : BitVec 16 := BitVec.ofNat 16 (x.toNat + d)

/-- A request with its stamp moved. -/
def moveReq (d : Nat) (r : Req) : Req := { r with stamp := moveStamp d r.stamp }

/-- A message to an agent with the stamp of a Nack moved. -/
def moveOut (d : Nat) (m : OutMsg) : OutMsg :=
  match m with
  | .nack a t n => .nack a t { n with stamp := moveStamp d n.stamp }
  | m => m

/-- The body of a Knuckle message with its stamp moved. -/
def moveK (d : Nat) (b : KBody) : KBody :=
  match b with
  | .req r => .req (moveReq d r)
  | .out m => .out (moveOut d m)
  | b => b

/-- What a brine queue holds, with its request's stamp moved. -/
def moveBody (d : Nat) (b : BBody) : BBody := match b with | .req r => .req (moveReq d r) | y => y

/-- The stamps of a bed moved: those of the messages in its queues and of its rake's row visits. -/
def Bed.moveStamps (d : Nat) (x : Bed) : Bed :=
  { x with rowReq := x.rowReq.map (fun r => (r.1, r.2.map (fun e => { e with stamp := moveStamp d e.stamp }))), queues := x.queues.map (fun q => (q.1, { q.2 with msgs := q.2.msgs.map (fun m =>
    { m with body := moveBody d m.body, stamp := moveStamp d m.stamp }) })) }

/-- The stamps of a pan moved: those of its tracker entries, its prefetches, its write queues and its engine's commands. -/
def Pan.moveStamps (d : Nat) (x : Pan) : Pan :=
  { x with
    trks := x.trks.map (fun t => { t with rq := moveReq d t.rq })
    mdwq := x.mdwq.map (fun e => { e with stamp := moveStamp d e.stamp })
    wb := x.wb.map (fun e => { e with stamp := moveStamp d e.stamp })
    pfq := x.pfq.map (fun e => { e with stamp := moveStamp d e.stamp })
    cmds := x.cmds.map (fun e => { e with stamp := moveStamp d e.stamp }) }

/-- The stamps of a Hinge port moved. -/
def Hinge.moveStamps (d : Nat) (h : Hinge) : Hinge :=
  { h with
    outst := h.outst.map (fun o => { o with rq := o.rq.map (moveReq d) })
    egress := h.egress.map (fun e => { e with msg := moveOut d e.msg, stamp := moveStamp d e.stamp })
    rxAns := h.rxAns.map (fun e => { e with stamp := moveStamp d e.stamp }) }

/-- A message in a Knuckle egress queue with its stamps moved. -/
def moveE (d : Nat) (e : KEgress) : KEgress :=
  { e with msg := { e.msg with body := moveK d e.msg.body }, stamp := moveStamp d e.stamp }

/-- The stamps of a Knuckle link moved. -/
def Knuckle.moveStamps (d : Nat) (k : Knuckle) : Knuckle :=
  { k with
    egress := k.egress.map (moveE d)
    wait := k.wait.map (moveE d)
    rx := k.rx.map (fun e => { e with msg := { e.msg with body := moveK d e.msg.body }, stamp := moveStamp d e.stamp }) }

/-- The stamps of a memory port moved. -/
def MemPort.moveStamps (d : Nat) (x : MemPort) : MemPort :=
  { x with reqs := x.reqs.map (fun r => { r with stamp := moveStamp d r.stamp }) }

/-- The stamps of the messages on their way inside the device moved. -/
def Fabric.moveStamps (d : Nat) (f : Fabric) : Fabric :=
  { f with
    notes := f.notes.map (fun n => (n.1, moveStamp d n.2))
    inWait := f.inWait.map (fun m => { m with body := moveBody d m.body, stamp := moveStamp d m.stamp })
    mgmtIn := f.mgmtIn.map (fun m => (m.1, m.2.1, moveStamp d m.2.2)) }

/-- Every stamp that the device holds moved (R190). -/
def State.moveStamps (s : State) (d : Nat) : State :=
  { s with
    beds := s.beds.map (fun x => (x.1, x.2.moveStamps d))
    pans := s.pans.map (fun x => (x.1, x.2.moveStamps d))
    hinges := s.hinges.map (fun x => (x.1, x.2.moveStamps d))
    knuckles := s.knuckles.map (fun x => (x.1, x.2.moveStamps d))
    memports := s.memports.map (fun x => (x.1, x.2.moveStamps d))
    fab := s.fab.moveStamps d }

/-! ### Pending instants (R404) -/

/-- A pending instant evaluated again: what is due takes place at once, what is refused is dropped. -/
def State.again (s : State) (pend : Option Nat) (unit off : Nat) (due : Bool → State → State) (refuse : State → State) : State :=
  match pend with
  | none => s
  | some t =>
    let r := s.evalAt t unit off
    match r.1 with
    | .due => due false r.2
    | .past => due true r.2
    | .pending => r.2
    | .refused => refuse r.2

/-- The blocks with an arbiter set (R494). -/
def allArb : List ArbBlk :=
  .dev :: ((List.finRange 16).map .hp ++ (List.finRange 8).map .kl ++ (List.finRange 8).map .mp ++ (List.finRange 8).map .bed
    ++ (List.finRange 64).map .pan)

/-- Every pending instant of the device evaluated again (R404). -/
def State.reschedule (s : State) : State :=
  let s1 := allArb.foldl (fun t b => t.again (t.arbPendOf b) (arbUnit b) 0x918 (fun _ u => u.arbCommit b)
    (fun u => (u.setArbPend b none).setArbRefused b true)) s
  let s2 := s1.again s1.fab.routePend uMgmt 0x1408 (fun _ u => u.routeNow)
    (fun u => { u with fab := { u.fab with routePend := none, routeRefused := true } })
  let s3 := forUpTo 8 (fun b t => t.again (t.bed b).rakePend (uBed b) 0xC88 (fun _ u => u.rakeStart b)
    (fun u => u.updBed b (fun x => { x with rakePend := none, rakeRefused := true }))) s2
  let s4 := forUpTo 4 (fun c t => t.again (t.eng (64 + c)).timer (uEng (64 + c)) 0x10
    (fun _ u => u.updEng (64 + c) (fun e => { e with timer := none, ipend := e.ipend ||| 1 }))
    (fun u => u.updEng (64 + c) (fun e => { e with timer := none }))) s3
  let s5 := s4.again s4.hv.snapPend uHarvest 0x108
    (fun late u => { u with hv := { u.hv with snapPend := none, snapNow := true, snapLate := late } })
    (fun u => { u with hv := { u.hv with snapPend := none, snapRefused := true } })
  let s6 := s5.again s5.mode.pend uMgmt 0x310
    (fun _ u => ({ u with mode := { u.mode with pend := none } }).modeRequest (u.rf 0x308 11 8))
    (fun u => { u with mode := { u.mode with pend := none, refused := true } })
  let s7 := s6.again (s6.mode.cmdPend.map (·.1)) uAuth 0
    (fun _ u => match u.mode.cmdPend with
      | some (_, m) => ({ u with mode := { u.mode with cmdPend := none } }).cmdNow m
      | none => u)
    (fun u => { u with mode := { u.mode with cmdPend := none, refused := true } })
  s7.again s7.sl.stepPend uSluice 0x88 (fun _ u => u.stepCommit)
    (fun u => u.updSl (fun l => { l with stepPend := none, stepRefused := true }))

/-- The bandwidth windows that run over the jump discarded (R419). -/
def State.dropWindows (s : State) : State :=
  let s1 := (List.finRange 16).foldl (fun t p => t.bwStart (.hp p) false t.now) s
  let s2 := (List.finRange 8).foldl (fun t l => t.bwStart (.kl l) false t.now) s1
  (List.finRange 8).foldl (fun t m => t.bwStart (.mp m) false t.now) s2

/-- The application of a jump is due: at a tick position, after APPLY_NOW or at the instant of APPLY_TIMED (R403). -/
def State.jumpDue (s : State) : Bool :=
  s.mt.jumpPend && s.mt.atPos && (s.mt.applyNow || (match s.mt.applyPend with | some t => reached s.now t | none => false))

/-- JUMP_APPLY (R190, R403, R404): MT_OFFSET is added to every copy of machine time. -/
def execJumpApply (s : State) : Host.Outcome State Fault Refusal :=
  next (if !s.jumpDue then s
    else
      let off := s.mt.offset
      let s2 := s.updMt (fun m => { m.noJump with tick := (((m.tick : Int) + off) % (2 ^ 64 : Nat)).toNat, slew := 0 })
      let s3 := s2.moveStamps ((s2.stampNow + 65536 - s.stampNow) % 65536)
      let s4 := { s3 with hv := { s3.hv with lastPer := s3.now, lastDump := s3.now } }
      let s5 := ((s4.updMt (fun m => { m with coreMs := s4.now / 1000000 })).count uMt 0x107).dropWindows
      (s5.logD uMt 0 0x0606 (lowBits off 51)).reschedule.timePasses)

end Sys2Proof.Machine
end

