-- ==== Sys2Proof/Machine/RegRead.lean ====
section
/-! DEFINITION. What every register of the register space reads as (R9, R463 to R465, R491 to R495), and the windows that
hold no registers: image window, program stores and harvest shadow banks (R408, R473, R489). -/

namespace Sys2Proof.Machine

/-! ### Engine events as the registers show them (R369, R371, R389) -/

/-- Word w of an event descriptor (R369). -/
def EngEvent.word (e : EngEvent) (w : Nat) : Nat :=
  match w with
  | 0 => e.typ * 2 ^ 56 + e.trk * 2 ^ 46 + e.psi * 2 ^ 26 + e.tag * 2 ^ 15 + e.way * 2 ^ 11
  | 1 => e.agent.toNat * 2 ^ 52 + e.addr.toNat
  | 2 => e.g.toNat
  | 3 => e.pta.toNat * 2 ^ 52 + e.ptb.toNat * 2 ^ 40 + e.ptc.toNat * 2 ^ 28 + b2n e.victim * 2 ^ 27
  | 4 => e.time
  | _ => 0

/-- The queue that PAN_EVT_CUR of pan p selects: true for the background queue (R371). -/
def State.evtQ (s : State) (p : Nat) : Bool := (s.rv (panOff p 0xC40)).testBit 0

/-- The selected event of pan p: none before PAN_EVT_CUR has selected one, and after its removal (R371, R372, log
entry 19). -/
def State.selEvt (s : State) (p : Nat) : Option EngEvent :=
  if !(s.pan p).sel then none
  else if s.evtQ p then (s.pan p).bg.head? else (s.pan p).fg.head?

/-- A background event of the type is queued. -/
def Pan.hasBg (x : Pan) (typ : Nat) : Bool := x.bg.any (fun e => e.typ == typ)

/-! ### Status registers -/

/-- Bit a of the list says whether f holds of a. -/
def bitsWhere (n : Nat) (f : Nat → Bool) : Nat := (List.range n).foldl (fun acc a => acc + (if f a then 2 ^ a else 0)) 0

/-- DEV_IDENT (R21). -/
def State.rdIdent (s : State) : Nat := 0xF640 * 2 ^ 48 + b2n s.mode.head * 2 ^ 15 + s.mode.devid * 2 ^ 6

/-- DEV_MODE (R459). DRAINED reads 1 after reset, as R428 has it (log entry 33). -/
def State.rdMode (s : State) : Nat :=
  let m := s.mode
  m.cur.code * 2 ^ 60 + (if m.busy then m.target else m.cur).code * 2 ^ 56 + b2n m.busy * 2 ^ 55 + b2n s.drained * 2 ^ 54
    + b2n m.cur.dataEn * 2 ^ 53 + b2n m.budget * 2 ^ 43 + b2n m.thermal * 2 ^ 42
    + b2n (s.sl.disc || s.sl.discHold) * 2 ^ 41 + b2n s.sl.shed * 2 ^ 40

/-- MT_STATUS (R421). -/
def State.rdMt (s : State) : Nat :=
  let m := s.mt
  m.fseq * 2 ^ 48 + m.st * 2 ^ 34 + b2n (m.slew != 0) * 2 ^ 33 + b2n m.jumpPend * 2 ^ 32 + m.sticky + b2n m.frameOk

/-- HV_STATUS (R421). -/
def State.rdHv (s : State) : Nat :=
  let h := s.hv
  h.seq * 2 ^ 48 + b2n h.front * 2 ^ 47 + b2n h.busy.isSome * 2 ^ 46 + b2n h.skipped * 2 ^ 45 + b2n h.ovf * 2 ^ 44 + h.recs.length

/-- SL_SHED_STATUS (R459). -/
def State.rdShed (s : State) : Nat :=
  let l := s.sl
  b2n l.levelA * 128 + b2n l.levelBN * 64 + b2n l.agreed * 32 + b2n l.shed * 16 + b2n l.disc * 8

/-- SL_EST, in amperes (R459). -/
def State.rdEst (s : State) : Nat :=
  min 1023 (s.sl.e / 10) * 2 ^ 48 + min 1023 (s.sl.d / 10) * 2 ^ 32 + min 1023 (s.sl.fill / 10) * 2 ^ 16 + s.sl.duty

/-- SL_PDN_STATUS (R459). -/
def State.rdPdn (s : State) : Nat :=
  bitsWhere 8 (fun m => (s.mp m).down) + bitsWhere 3 (fun c => !(s.eng (65 + c)).powered) * 256

/-- HP_STATUS of port p (R285). -/
def State.rdHp (s : State) (p : Nat) : Nat :=
  let h := s.hinge p
  h.link0.st.code * 2 ^ 60 + h.link1.st.code * 2 ^ 56 + b2n h.link0.rev * 2 ^ 55 + b2n h.link1.rev * 2 ^ 54
    + bitsWhere 4 (fun a => s.agPresent p a && (h.linkOf a).st == .active && !h.gone.testBit a) * 2 ^ 48
    + (h.link0.polinv + h.link1.polinv * 256) % 65536 * 2 ^ 32 + h.resets * 2 ^ 24 + h.retrains * 2 ^ 16

/-- HP_RETRY_h and KL_RETRY (R285, R319). -/
def Link.rdRetry (k : Link) : Nat := k.txNext * 2 ^ 36 + k.txAck * 2 ^ 24 + k.rxExpect * 2 ^ 12 + k.occ

/-- Link half h of a port: half 1 holds nothing unless the port's MODE is 10 (R285). -/
def Hinge.halfLink (h : Hinge) (k : Nat) : Option Link :=
  if k = 0 then some h.link0 else if h.mode = 2 then some h.link1 else none

/-- HP_CREDIT_h (R285). -/
def Link.rdCredit (k : Link) : Nat := sget k.credAdv 1 0 * 2 ^ 32 + sget k.credAdv 2 0 * 2 ^ 16 + sget k.credAdv 3 0

/-- KL_STATUS of link l (R319). -/
def State.rdKl (s : State) (l : Nat) : Nat :=
  let k := s.kn l
  k.link.st.code * 2 ^ 60 + b2n k.link.rev * 2 ^ 59 + k.peerDev * 2 ^ 48 + k.link.polinv % 65536 * 2 ^ 32
    + k.resets * 2 ^ 24 + k.retrains * 2 ^ 16 + k.peerLink * 2 ^ 13

/-- MP_STATUS of memory port m (R321). -/
def State.rdMp (s : State) (m : Nat) : Nat :=
  let x := s.mp m
  x.h0.link * 2 ^ 62 + x.h1.link * 2 ^ 60 + x.h0.speed * 2 ^ 58 + x.h1.speed * 2 ^ 56 + x.h0.width * 2 ^ 51
    + x.h1.width * 2 ^ 46 + b2n x.h0.ready * 2 ^ 45 + b2n x.h1.ready * 2 ^ 44 + x.resets * 2 ^ 24
    + (x.reqs.filter (fun r => r.kind == 2)).length % 256

/-- BED_BRINE_QSTAT of bed b (R215). -/
def State.rdQstat (s : State) (b : Nat) : Nat :=
  let q := s.queue b (s.rf (bedOff b 0xA10) 9 0)
  let n := q.msgs.foldl (fun a m => a + m.cells.length) 0
  b2n (n == 0) * 2 ^ 63 + b2n q.underrun * 2 ^ 62 + n % 65536

/-- BED_RAKE_STATUS of bed b (R245). -/
def State.rdRake (s : State) (b : Nat) : Nat :=
  let x := s.bed b
  x.rakePasses * 2 ^ 32 + b2n x.rakePend.isSome * 2 ^ 31 + b2n x.rakeRefused * 2 ^ 30 + b2n (s.rakeBehind b) * 2 ^ 29
    + sget x.rakePos 0 0 % 65536

/-- BED_PWR_STATUS of bed b (R459). -/
def State.rdPwr (s : State) (b : Nat) : Nat :=
  let x := s.bed b
  x.step * 2 ^ 59 + x.volt * 2 ^ 48 + x.dieG % 1024 * 2 ^ 38 + x.stkG % 1024 * 2 ^ 28 + b2n x.skew * 2 ^ 27
    + b2n (decide (x.cap < s.bedWant b)) * 2 ^ 26 + x.rest * 2 ^ 24 + b2n x.chg.isSome * 2 ^ 23

/-- PAN_COH_STATUS of pan p (R163). -/
def State.rdCoh (s : State) (p : Nat) : Nat :=
  let x := s.pan p
  x.holds.length * 2 ^ 40 + x.rsvOcc * 2 ^ 34 + (x.trks.filter (fun t => t.ph == .detached)).length * 2 ^ 24

/-- PAN_ENG_STATUS of pan p (R389). -/
def State.rdEng (s : State) (p : Nat) : Nat :=
  let e := s.eng p
  let x := s.pan p
  e.pc.toNat % 65536 * 2 ^ 32 + x.fg.length * 2 ^ 26 + b2n (x.hasBg 4) * 2 ^ 25 + b2n (x.hasBg 3) * 2 ^ 24
    + b2n (x.hasBg 2) * 2 ^ 23 + b2n x.cleanLeft.isEmpty * 2 ^ 22 + x.slCount % 4 * 2 ^ 20
    + e.status.toNat % 4 * 2 ^ 18 + b2n (e.status.toNat.testBit 4) * 2 ^ 17
    + (match s.selEvt p with | some v => v.typ | none => 0) * 2 ^ 8

/-- SM_STATUS of core c (R390). -/
def State.rdSm (s : State) (c : Nat) : Nat :=
  let e := s.eng (64 + c)
  e.haltEpc.toNat % 2 ^ 32 * 2 ^ 32 + e.haltCode * 2 ^ 24 + b2n e.halted * 4 + b2n e.inReset * 2 + b2n (e.status.toNat.testBit 3)

/-- AUTH_STATUS (R488). -/
def State.rdAuth (s : State) : Nat :=
  let i := s.img
  i.lastGen * 2 ^ 48 + i.result * 2 ^ 40 + i.lastOpc * 2 ^ 24 + b2n i.genExh * 16 + b2n i.cntExh * 8 + b2n i.keySet * 4 + b2n i.authBusy * 2

/-- IMG_STATUS (R488). -/
def State.rdImg (s : State) : Nat :=
  let i := s.img
  i.code * 2 ^ 56 + i.sect * 2 ^ 48 + i.detail % 65536 * 2 ^ 32 + i.gen * 2 ^ 16 + b2n i.busy

/-- The arbiter block that a register's block and instance are. -/
def arbOf (b : RegBlk) (i : Nat) : ArbBlk :=
  match b with
  | .hp => .hp (Fin.ofNat 16 i)
  | .kl => .kl (Fin.ofNat 8 i)
  | .mp => .mp (Fin.ofNat 8 i)
  | .bed => .bed (Fin.ofNat 8 i)
  | .pan => .pan (Fin.ofNat 64 i)
  | _ => .dev

/-- QUARANTINED of an arbiter set's block (R214); 0 in the blocks where it is reserved. -/
def State.rdQuar (s : State) (b : RegBlk) (i : Nat) : Nat :=
  match b with
  | .hp => b2n (s.hinge i).quarantined
  | .kl => b2n (s.kn i).quarantined
  | .mp => b2n (s.mp i).quarantined
  | _ => 0

/-- A probe or commit register's REFUSED and PEND bits, at their common places 4 and 3. -/
def pendBits (refused pend : Bool) : Nat := b2n refused * 16 + b2n pend * 8

/-- The value of a register as a read by w shows it (R9, R491): stored bits and status bits. -/
def State.regVal (s : State) (w : Nat) (r : RegRef) : Nat :=
  let v := s.rv r.off
  let i := r.inst
  match r.row.name with
  | .DEV_IDENT => s.rdIdent
  | .DEV_MODE => s.rdMode
  | .DEV_MODE_CTL => v + b2n s.mode.cmdPend.isSome * 32 + pendBits s.mode.refused s.mode.pend.isSome
  | .DEV_LOCK => s.ru.vlog.length * 2 ^ 16 + b2n s.ru.vlogOvf * 4 + b2n s.ru.viol * 2 + b2n s.ru.lock
  | .DEV_RETIRE => s.img.retireMp % 256 * 256 + s.img.retireBed % 256
  | .DEV_BIST_STATUS => b2n s.mode.bist.isEmpty * 2 ^ 63 + s.mode.bistRefused * 2 ^ 12 + s.mode.bistFail
  | .DEV_ROUTE_CTL => v + b2n s.fab.epoch * 32 + pendBits s.fab.routeRefused s.fab.routePend.isSome
  | .MT_NOW => s.now
  | .MT_STATUS => s.rdMt
  | .MT_CTL => pendBits s.mt.applyRefused s.mt.applyPend.isSome
  | .MT_OFFSET => lowBits s.mt.offset 64
  | .HV_CTL => v + pendBits s.hv.snapRefused s.hv.snapPend.isSome
  | .HV_STATUS => s.rdHv
  | .HV_DUMP_STATUS => s.nextSlot * 2 ^ 52 + b2n s.hv.badBase * 2 ^ 51 + b2n s.hv.dump.isSome * 2 ^ 50 + s.hv.dumps
  | .SL_CTL => v + b2n s.sl.override_ * 65536
  | .SL_SHED_STATUS => s.rdShed
  | .SL_EST => s.rdEst
  | .SL_STEP_CTL => v + pendBits s.sl.stepRefused s.sl.stepPend.isSome
  | .SL_PDN_STATUS => s.rdPdn
  | .ERR_LOG_STATUS => s.err.seq * 2 ^ 32 + b2n s.err.ovf * 2 ^ 31 + s.err.log.length
  | .ERR_LOG_DROP => s.err.dropped
  | .ERR_VEC_STATUS => s.err.vec
  | .ERR_PF_STATUS => s.err.pfSeq * 2 ^ 32 + b2n s.err.pfOvf * 2 ^ 31 + s.err.pfDropped * 2 ^ 16 + s.err.pf.length
  | .LAT_WORD => s.rdLatch r.ix
  | .PAN_LAT => if w = 0x40 + i then s.rdLatch r.ix else 0
  | .MBX_SEL => if mbxReader i w then v else 0
  | .MBX_STATUS =>
    if mbxReader i w then
      b2n (s.mbxHas i) * 2 ^ 63 + b2n (s.ru.mbxStale.testBit i) * 2 ^ 62 + b2n (s.ru.mbxLost.testBit i) * 2 ^ 61
    else 0
  | .MBX_DATA => if mbxReader i w then v else 0
  | .MBX_DONE | .MBX_CMD | .MBX_SUBMIT | .AUTH_KEY | .SM_DOORBELL_ACK | .PAN_ENG_CMD => 0
  | .AUTH_STATUS => s.rdAuth
  | .AUTH_COUNTER => s.img.counter
  | .SM_STATUS => s.rdSm i
  | .SM_DOORBELL => (s.eng (64 + i)).doorbell
  | .SM_POL_STATUS => s.ru.polSeq * 2 ^ 32 + b2n s.ru.polOvf * 2 ^ 31 + s.ru.pol.length
  | .HP_STATUS => s.rdHp i
  | .HP_RETRY => match (s.hinge i).halfLink r.ix with | some k => k.rdRetry | none => 0
  | .HP_CREDIT => match (s.hinge i).halfLink r.ix with | some k => k.rdCredit | none => 0
  | .HP_AGENT_TMO => v + (s.hinge i).gone * 2 ^ 44 + (s.hinge i).dead * 2 ^ 40
  | .KL_STATUS => s.rdKl i
  | .KL_RETRY => (s.kn i).link.rdRetry
  | .KL_DISCARD => (s.kn i).discard
  | .MP_STATUS => s.rdMp i
  | .MP_IO_DATA => v + b2n (s.mp i).ioDone * 2 ^ 63 + (s.mp i).ioStatus * 2 ^ 60
  | .ARB_CTL =>
    v + pendBits (sget s.ru.arbRefused (arbBase (arbOf r.blk i)) false) (s.arbPendOf (arbOf r.blk i)).isSome
  | .ARB_STATUS => s.rdQuar r.blk i
  | .BED_BRINE_STATUS => (32768 - (s.bed i).cellsUsed) * 2 ^ 32 + (s.bed i).reqShared % 65536 * 2 ^ 16
  | .BED_BRINE_QSTAT => s.rdQstat i
  | .BED_ECC_STATUS => (s.bed i).exhausted
  | .BED_RAKE_STATUS => s.rdRake i
  | .BED_CHK_CTL => v + b2n (!(s.bed i).chkBusy) * 2 ^ 63
  | .BED_PWR_STATUS => s.rdPwr i
  | .PAN_CACHE_CTL => v + b2n (s.pan i).dataEn
  | .PAN_QUOTA_CTL => v + (s.pan i).sweepPsi * 2 ^ 32 + b2n (s.pan i).sweepBusy * 2
  | .PAN_CACHE_STATUS => (s.pan i).mdwq.length * 2 ^ 48 + (s.pan i).wb.length * 2 ^ 40 + (s.pan i).trks.length * 2 ^ 30
  | .PAN_MD_PROBE => v + b2n (s.pan i).mdDone * 2 ^ 63 + b2n (s.pan i).mdSrc * 2 ^ 62 + b2n (s.pan i).mdUnavail * 2 ^ 61
  | .PAN_COH_STATUS => s.rdCoh i
  | .PAN_LOST_STATUS => (s.pan i).lost.length
  | .PAN_ATOM_FLAGS => (s.pan i).atomFlags
  | .PAN_ATOM_STATUS => (s.pan i).comb.length
  | .PAN_ENG_CTL => (s.pan i).kick * 256 + b2n (s.eng i).halted
  | .PAN_ENG_STATUS => s.rdEng i
  | .PAN_EVT => match s.selEvt i with | some e => e.word r.ix | none => 0
  | .IMG_STATUS => s.rdImg
  | _ => v

/-- What a read by w does besides answering: RC fields are cleared, and a read of an empty mailbox sets STALE (R9,
R469). -/
def State.readEffect (s : State) (w : Nat) (r : RegRef) : State :=
  let i := r.inst
  match r.row.name with
  | .ERR_LOG_DROP => { s with err := { s.err with dropped := 0 } }
  | .KL_DISCARD => s.updKn i (fun k => { k with discard := 0 })
  | .BW_IN_PEAK | .BW_OUT_PEAK => s.setReg r.off 0
  | .MBX_DATA => if mbxReader i w then (s.rdMbxData i r.ix).2 else s
  | _ => s

/-! ### Configuration parity (R464, R465) -/

/-- A register whose parity bit disagrees is found: the fatal record, once for a register, and HOLD (R465). -/
def State.parityFault (s : State) (o : Nat) : State :=
  if s.ru.parityBad.contains o then s
  else ({ s with ru := { s.ru with parityBad := o :: s.ru.parityBad } }).logD uParity 3 0x0801 o

/-- The parity check at a read (R464). -/
def State.parityCheck (s : State) (r : RegRef) : State :=
  if r.row.par && !s.parityOk r.off then s.parityFault r.off else s

/-! ### The violation log (R466, R467) -/

/-- A write or read that R466 ignores: DEV_LOCK.REG_LOCK_VIOL, the record and vector REG_LOCK. -/
def State.violation (s : State) (w kind off data : Nat) : State :=
  let rec_ : List (BitVec 64) :=
    [BitVec.ofNat 64 (s.ru.vseq % 2 ^ 32 * 2 ^ 32 + w % 256 * 2 ^ 24 + kind * 2 ^ 22), BitVec.ofNat 64 s.now,
     BitVec.ofNat 64 (off % 2 ^ 26), BitVec.ofNat 64 data]
  let full := decide (16 ≤ s.ru.vlog.length)
  let s1 := { s with ru := { s.ru with
    viol := true, vseq := (s.ru.vseq + 1) % 2 ^ 32, vlog := (if full then s.ru.vlog.drop 1 else s.ru.vlog) ++ [rec_]
    vlogOvf := s.ru.vlogOvf || full } }
  s1.raise [7]

/-! ### Windows that hold no registers -/

/-- An entry of a shadow bank, INVALID where its word was found uncorrectable (R408, R244). -/
def State.bankWord (s : State) (b : Bool) (key : Nat) : Nat :=
  setBits (sget (s.hv.bank b) key 0).toNat 63 63
    (if s.hv.inval.contains (b2n b * 2 ^ 20 + key) then 1 else bitsOf (sget (s.hv.bank b) key 0).toNat 63 63)

/-- A doubleword of a window as it reads. -/
def State.winVal (s : State) (x : WinRef) : Nat :=
  match x with
  | .image k => (sget s.img.win k 0).toNat
  | .prog k => (sget s.img.prog k 0).toNat
  | .bank b k => s.bankWord b k

/-! ### A read (R462 to R465) -/

/-- The upper or lower half of a doubleword, as byte address bit 2 says. -/
def halfOf (v o : Nat) : Nat := if o % 8 < 4 then v % 2 ^ 32 else v / 2 ^ 32 % 2 ^ 32

/-- A read by w of the register r at byte offset o, once it is admitted: 32 bits are answered for registers whose
fields are all RO, and any other narrow or misaligned read answers zero and is logged (R462). -/
def State.readRow (s : State) (w o : Nat) (w32 : Bool) (r : RegRef) : Nat × State :=
  if w32 && r.row.roOnly && o % 4 == 0 then (halfOf (s.regVal w r) o, (s.parityCheck r).readEffect w r)
  else if !w32 && o % 8 == 0 then
    if r.row.par && !s.parityOk r.off then let f := s.free; (f.1.toNat, f.2.parityCheck r)
    else (s.regVal w r, s.readEffect w r)
  else (0, s.violation w 2 o 0)

/-- A read by w of byte offset o (R462 to R465). -/
def State.readReg (s : State) (w o : Nat) (w32 : Bool) : Nat × State :=
  let s1 := s.busAccess w
  match regAt o with
  | some r => s1.readRow w o w32 r
  | none =>
    match winAt o with
    | some x =>
      if !w32 && o % 8 == 0 then (s1.winVal x, s1)
      else
        match x with
        | .bank _ _ => if o % 4 = 0 then (halfOf (s1.winVal x) o, s1) else (0, s1)
        | _ => (0, s1.violation w 2 o 0)
    | none => (0, s1)

end Sys2Proof.Machine
end

