-- ==== Sys2Proof/Machine/RegWrite.lean ====
section
/-! DEFINITION. What a write of every register does (R9, R460 to R467, R493), and the two probes (R46 to R48, R88). The
commands of a command block and the writes of an engine to its own pan window are given in Auth and Muzia. -/

namespace Sys2Proof.Machine

/-! ### Probes -/

/-- A write of DEV_ADDR_PROBE (R48): DONE is cleared and a probe starts. -/
def State.wrAddrProbe (s : State) (v : Nat) : State :=
  let s1 := (s.setReg 0x100 (v % 2 ^ 52)).setRf 0x108 63 63 0
  { s1 with ru := { s1.ru with probeBusy := true } }

/-- The result of an address probe (R47, R48). -/
def State.probeResult (s : State) : Nat :=
  match s.homeOf (s.rv 0x100) with
  | some (d, l, _) => 2 ^ 63 + d * 2 ^ 56 + panOf l * 2 ^ 50 + l % 2 ^ 44
  | none => 2 ^ 63 + 2 ^ 62

/-- DEV_ADDR_PROBE (R48): the register is written. -/
def execDevAddrProbe (spa : BitVec 52) (s : State) : Host.Outcome State Fault Refusal :=
  .next (if s.alive then (s.busAccess s.hostCode).wrAddrProbe spa.toNat else s)

/-- ADDR_PROBE_DONE (R48): the running probe completes. -/
def execAddrProbeDone (s : State) : Host.Outcome State Fault Refusal :=
  .next (if s.ru.probeBusy then
      let s1 := s.setReg 0x108 s.probeResult
      { s1 with ru := { s1.ru with probeBusy := false } }
    else s)

/-- A write of PAN_MD_PROBE (R88): DONE is cleared and a probe starts. -/
def State.wrMdProbe (s : State) (p v : Nat) : State :=
  (s.setReg (panOff p 0x438) (v % 2 ^ 24)).updPan p (fun x => { x with mdProbe := some (v % 2 ^ 24), mdDone := false })

/-- A metadata probe completed with a word and its two flags. -/
def State.mdAnswer (s : State) (p word : Nat) (src unavail : Bool) : State :=
  (s.setReg (panOff p 0x440) word).updPan p (fun x => { x with mdProbe := none, mdDone := true, mdSrc := src, mdUnavail := unavail })

/-- PAN_MD_PROBE (R88): the register is written. -/
def execPanMdProbe (p : Fin 64) (v : BitVec 64) (s : State) : Host.Outcome State Fault Refusal :=
  .next (s.byHost (panOff p 0x438) (fun t => t.wrMdProbe p v.toNat))

/-- MD_PROBE_DONE (R88): the running probe completes with the newest copy of the word; err disturbs the cells that the
read senses. -/
def execMdProbeDone (p : Fin 64) (err : BitVec 1152) (s : State) : Host.Outcome State Fault Refusal :=
  .next (match (s.pan p).mdProbe with
    | none => s
    | some v =>
      let psi := v % 2 ^ 20
      let w := bitsOf v 23 20
      match (s.pan p).mdHeld psi with
      | some (b, _) => s.mdAnswer p (mdWord b w) true false
      | none =>
        if !s.stackUp p then s.mdAnswer p 0 false true
        else
          let r := s.readBlock p (slotKey psi 15) err
          let s1 := r.2.mdAnswer p (mdWord r.1.line w) false false
          if r.1.ue then s1.loseSet p psi 0x0010 psi else s1)

/-! ### Single registers -/

/-- Bits written 1 are cleared (R9). -/
def rw1c (old v : Nat) : Nat := old - (old &&& v)

/-- A write of ERR_VEC_STATUS: the bits written 1 clear, and with CORR_THRESH the count of corrected records starts anew
(R161). -/
def ErrUnit.clearVecs (e : ErrUnit) (v : Nat) : ErrUnit :=
  { e with vec := rw1c e.vec v, corr := if v.testBit 3 && e.vec.testBit 3 then 0 else e.corr }

/-- A write of DEV_LOCK (R466, R488). -/
def State.wrLock (s : State) (v : Nat) : State :=
  { s with ru := { s.ru with
    vlogOvf := s.ru.vlogOvf && !v.testBit 2, viol := s.ru.viol && !v.testBit 1, lock := s.ru.lock || v.testBit 0 } }

/-- LOCK (R466): 1 is written to DEV_LOCK.LOCK. -/
def execLock (s : State) : Host.Outcome State Fault Refusal := .next (if s.alive then (s.busAccess s.hostCode).wrLock 1 else s)

/-- A write of PAN_ATOM_CTL (R179, R183): COMB_IDLE applies at once; with COMB_EN 0 every entry is written back. -/
def State.wrAtomCtl (s : State) (p v : Nat) : State :=
  let s1 := s.setReg (panOff p 0x800) (bitsOf v 31 16 * 2 ^ 16 + v % 2)
  if v.testBit 0 then (s1.pan p).comb.foldl (fun t e => t.combIdleBack p e) s1
  else (s1.combFlush p).combDrain p

/-- PAN_ATOM_CTL (R179): the register is written. -/
def execPanAtomCtl (p : Fin 64) (v : BitVec 64) (s : State) : Host.Outcome State Fault Refusal :=
  .next (s.byHost (panOff p 0x800) (fun t => t.wrAtomCtl p v.toNat))

/-- A write of HP_LINK_CTL or KL_LINK_CTL (R285, R319): the times are stored, then RESET, CLOSE and OPEN act. -/
def State.wrLinkCtl (s : State) (r : PortRef) (off v : Nat) : State :=
  let s1 := s.setReg off (bitsOf v 47 16 * 2 ^ 16)
  if v.testBit 0 then s1.ctlReset r
  else
    let s2 := if v.testBit 1 then s1.ctlClose r else s1
    if v.testBit 2 then s2.ctlOpen r else s2

/-- A write of MP_CTL (R316, R321); RESET of a port that is down or retired is ignored (R493). -/
def State.wrMpCtl (s : State) (m v : Nat) : State :=
  let s1 := s.setReg (mpOff m 0x10) (v &&& 0xFFFF0002)
  if v.testBit 0 then s1.ctlMpReset m else s1

/-- A write of AUTH_KEY_k (R481): accepted once; KEY_SET follows the fourth. -/
def State.wrKey (s : State) (w k v : Nat) : State :=
  if s.img.keyWritten.testBit k then (s.count uMgmt 0x102).violation w 1 (0x50000 + 8 * k) v
  else
    let s1 := s.setReg (0x50000 + 8 * k) v
    let m := s.img.keyWritten ||| 2 ^ k
    { s1 with img := { s1.img with keyWritten := m, keySet := m == 15 } }

/-- AUTH_KEY (R481): writer w writes an AUTH_KEY register. -/
def execAuthKey (k : Fin 4) (v : BitVec 64) (w : BitVec 8) (s : State) : Host.Outcome State Fault Refusal :=
  .next (if s.alive && s.reaches w.toNat then (s.busAccess w.toNat).wrKey w.toNat k v.toNat else s)

/-- A write of MBX_STATUS: STALE and LOST clear (R469, R488). -/
def State.wrMbxStatus (s : State) (m v : Nat) : State :=
  { s with ru := { s.ru with
    mbxStale := if v.testBit 62 then putBit s.ru.mbxStale m false else s.ru.mbxStale
    mbxLost := if v.testBit 61 then putBit s.ru.mbxLost m false else s.ru.mbxLost } }

/-- UNDERRUN of the selected brine queue cleared (R208, R215). -/
def State.wrQstat (s : State) (b v : Nat) : State :=
  let n := s.rf (bedOff b 0xA10) 9 0
  if v.testBit 62 then s.setQueue b n { s.queue b n with underrun := false } else s

/-- The stored fields of a register take the bits written (R9). -/
def State.wrPlain (s : State) (r : RegRef) (v : Nat) : State :=
  if r.row.par then s.setReg r.off (v &&& storeMask r) else s

/-! ### Every register -/

/-- A write by w of the value v to register r of the service-region blocks. -/
def State.wrSvc (s : State) (w : Nat) (r : RegRef) (v : Nat) : State :=
  let i := r.inst
  match r.row.name with
  | .DEV_ADDR_PROBE => s.wrAddrProbe v
  | .DEV_MODE_CTL => s.wrModeCtl v
  | .DEV_LOCK => s.wrLock v
  | .DEV_BIST_CTL => s.wrBist v
  | .DEV_ROUTE_CTL => s.wrRoute v
  | .MT_STATUS => s.updMt (fun m => { m with sticky := rw1c m.sticky v })
  | .MT_CTL => s.wrMtCtl v
  | .HV_CTL => s.wrHvCtl v
  | .HV_STATUS => { s with hv := { s.hv with skipped := s.hv.skipped && !v.testBit 45, ovf := s.hv.ovf && !v.testBit 44 } }
  | .HV_DUMP_BASE => s.wrDumpBase v
  | .HV_DUMP_CTL => s.wrDumpCtl v
  | .SL_SHED_STATUS => if v.testBit 3 then s.wrDisc else s
  | .SL_STEP_CTL => s.wrStepCtl v
  | .SL_PDN => s.wrPdn v
  | .SL_BED_REQ => s.wrBedReq r.ix v
  | .ERR_LOG_STATUS => if v.testBit 31 then { s with err := { s.err with ovf := false } } else s
  | .ERR_VEC_STATUS => { s with err := s.err.clearVecs v }
  | .ERR_PF_STATUS => if v.testBit 31 then { s with err := { s.err with pfOvf := false } } else s
  | .LAT_WORD => s.wrLatch r.ix w v
  | .MBX_SEL => if mbxOwner i w then s.wrMbxSel i v else s
  | .MBX_STATUS => if mbxOwner i w then s.wrMbxStatus i v else s
  | .MBX_DONE => if mbxOwner i w then s.wrMbxDone i v else s
  | .MBX_CMD => if mbxOwner i w then s.setReg r.off v else s
  | .AUTH_KEY => s.wrKey w r.ix v
  | .SM_CTL => s.wrSmCtl i v
  | .SM_TIMER_CMP => s.wrTimer i v
  | .SM_DOORBELL => s.wrBell i v
  | .SM_DOORBELL_ACK => s.wrBellAck i v
  | .SM_MSG => s.wrMsg i w v
  | .SM_POL_STATUS => if v.testBit 31 then { s with ru := { s.ru with polOvf := false } } else s
  | _ => s.wrPlain r v

/-- A write of the value v to register r of a port, bed or pan. -/
def State.wrUnit (s : State) (r : RegRef) (v : Nat) : State :=
  let i := r.inst
  match r.row.name with
  | .HP_LINK_CTL => s.wrLinkCtl (.hp (Fin.ofNat 16 i)) r.off v
  | .KL_LINK_CTL => s.wrLinkCtl (.kl (Fin.ofNat 8 i)) r.off v
  | .MP_CTL => s.wrMpCtl i v
  | .MP_IO_ADDR => s.wrMpIo i v
  | .BED_BRINE_QSTAT => s.wrQstat i v
  | .BED_ERASE => s.wrErase i v
  | .BED_ECC_STATUS => s.updBed i (fun x => { x with exhausted := rw1c x.exhausted v })
  | .BED_BKT => s.wrBkt i r.ix v
  | .BED_RAKE_CTL => s.wrRake i v
  | .BED_CHK_CTL => s.wrChk i v
  | .BED_REST_CTL => s.wrRest i v
  | .PAN_QUOTA_CTL => s.wrQuotaCtl i v
  | .PAN_MD_PROBE => s.wrMdProbe i v
  | .PAN_ATOM_CTL => s.wrAtomCtl i v
  | .PAN_ATOM_FLAGS => s.updPan i (fun x => { x with atomFlags := rw1c x.atomFlags v })
  | .PAN_ENG_CTL => s.wrKick i v
  | .PAN_EVT_CUR | .PAN_ENG_CMD | .PAN_LAT => s
  | .ARB_CTL => s.wrArb (arbOf r.blk i) v
  | .BW_CTL =>
    match r.blk with
    | .hp => s.wrBwCtl (.hp (Fin.ofNat 16 i)) v
    | .kl => s.wrBwCtl (.kl (Fin.ofNat 8 i)) v
    | _ => s.wrBwCtl (.mp (Fin.ofNat 8 i)) v
  | _ => s.wrPlain r v

/-- A write by w of the value v to register r, once its width is right (R9, R466). -/
def State.wrRow (s : State) (w : Nat) (r : RegRef) (v : Nat) : State :=
  if s.ru.lock && r.row.lock != 0 then (s.count uMgmt 0x102).violation w 0 r.off v
  else
    match r.blk with
    | .dev | .arb => if r.row.name = .ARB_CTL then s.wrUnit r v else s.wrSvc w r v
    | .mth | .sl | .err | .lat | .mbx | .auth | .sm | .img => s.wrSvc w r v
    | .hp | .kl | .mp | .bed | .pan | .bw => s.wrUnit r v

/-- n doublewords of engine e's memories, from number lo, hold valid check bits (R244). -/
def State.sound (s : State) (e lo n : Nat) : State :=
  s.updEng e (fun x => { x with ue := x.ue.filter (fun k => decide (k < lo) || decide (lo + n ≤ k)) })

/-- A write into a window: the image window while no load runs, the program stores (R473, R489); the shadow banks are
never written (R412). -/
def State.wrWin (s : State) (x : WinRef) (v : Nat) : State :=
  match x with
  | .image k => if s.img.busy then s else { s with img := { s.img with win := sset s.img.win k (BitVec.ofNat 64 v) 0 } }
  | .prog k => ({ s with img := { s.img with prog := sset s.img.prog k (BitVec.ofNat 64 v) 0 } }).sound (min 64 (k / 2048)) (k - min 64 (k / 2048) * 2048) 1
  | .bank _ _ => s

/-- A write by w of the value v at byte offset o, full saying that it is one 64-bit access with all byte enables
(R462, R463, R466). -/
def State.writeReg (s : State) (w o v : Nat) (full : Bool) : State :=
  let s1 := s.busAccess w
  let ok := full && o % 8 == 0
  match regAt o with
  | some r => if ok then s1.wrRow w r v else (s1.count uMgmt 0x101).violation w 2 o v
  | none =>
    match winAt o with
    | some (.bank _ _) => s1
    | some x => if ok then s1.wrWin x v else (s1.count uMgmt 0x101).violation w 2 o v
    | none => s1

/-! ### The parity sweeper (R464) -/

/-- A stored bit of a register inverted without its parity bit: an upset of the register file. -/
def State.upset (s : State) (o bit : Nat) : State :=
  match regAt o with
  | some r =>
    if r.row.par && (if r.row.name = .AUTH_KEY then true else (storeMask r).testBit bit) then
      { s with
        regs := sset s.regs r.off (BitVec.ofNat 64 (s.raw r.off ^^^ 2 ^ bit)) (BitVec.ofNat 64 (resetAt r.off))
        parity := sset s.parity r.off (some ((sget s.parity r.off none).getD (parity64 (s.raw r.off)))) none }
    else s
  | none => s

/-- The registers whose parity bit disagrees with their bits. -/
def State.parityWrong (s : State) : List Nat :=
  ((s.regs.map (·.1)) ++ (s.parity.map (·.1))).eraseDups.filter (fun o =>
    match regAt o with
    | some r => r.row.par && !s.parityOk o
    | none => false)

/-- The number of instances of a block (R491). -/
def blkInsts (b : RegBlk) : Nat :=
  match b with
  | .mbx => 5
  | .sm => 4
  | .hp => 16
  | .kl | .mp | .bed => 8
  | .pan => 64
  | .arb | .bw => 0
  | .dev | .mth | .sl | .err | .lat | .auth | .img => 1

/-- The number of registers with a parity bit (R464). -/
def parityRegs : Nat :=
  [RegBlk.dev, .mth, .sl, .err, .lat, .mbx, .auth, .sm, .hp, .kl, .mp, .bed, .pan, .img].foldl (fun a b =>
    (List.range (blkInsts b)).foldl (fun a i =>
      (rowsOf b).foldl (fun a r => if r.par && regExists r.name i then a + r.cnt else a) a) a) 0

/-- The register bus granted to the sweeper for every register that it checks (R196, R464). -/
def State.sweepGrants (s : State) : State := (s.grant1 devArb 6 6 s.stamp16).count uMgmt 0x040 (parityRegs - 1)

/-- PARITY_SWEEP (R464, R465): stored bits that have flipped since the last sweep, then a sweep, from LOAD onward. -/
def execParitySweep (flips : List (BitVec 26 × Fin 64)) (s : State) : Host.Outcome State Fault Refusal :=
  let s1 := if s.alive then flips.foldl (fun t f => t.upset f.1.toNat f.2) s else s
  next (if s1.alive && s1.mode.cur != .blank then (s1.parityWrong.foldl (fun t o => t.parityFault o) s1).sweepGrants.count uParity 0x100 else s1)

end Sys2Proof.Machine
end

