-- ==== Sys2Proof/Machine/EngineCmd.lean ====
section
/-! DEFINITION. The commands by which a pan engine changes its pan (R76, R86, R109, R141, R145, R225, R371 to R377), rows
PAN_EVT_CUR to ENG_CMD_BAD. A command waits in the queue of eight until the pipeline has performed it. -/

namespace Sys2Proof.Machine

/-! ### The command word (R372) -/

/-- OP of a command word. -/
def cmdOp (w : BitVec 64) : Nat := bitsOf w.toNat 63 56
/-- AGENT of a command word. -/
def cmdAgent (w : BitVec 64) : BitVec 12 := BitVec.ofNat 12 (bitsOf w.toNat 55 44)
/-- DEV of a command word. -/
def cmdDev (w : BitVec 64) : BitVec 6 := BitVec.ofNat 6 (bitsOf w.toNat 43 38)
/-- PSI of a command word. -/
def cmdPsi (w : BitVec 64) : Nat := bitsOf w.toNat 37 18
/-- WAY of a command word. -/
def cmdWay (w : BitVec 64) : Nat := bitsOf w.toNat 17 14
/-- TAG of a command word. -/
def cmdTag (w : BitVec 64) : Nat := bitsOf w.toNat 13 3

/-- The pan accepts its engine's commands: while its home runs, in TEST, and during the entry to HOLD and in HOLD (R372, R429). -/
def State.cmdOpen (s : State) (p : Nat) : Bool := (s.mode.cur.runs || s.mode.cur == .test || s.holding) && !s.switching (p / 8)

/-- The command at the head of pan p's queue performed by f when its OP is the given one and the engine wins the pan's slot (R196,
R372): f answers whether it is done, and a command that is not stays at the head. -/
def State.engCmd (s : State) (p op : Nat) (f : BitVec 64 → Bool × State) : State :=
  match (s.pan p).cmds with
  | [] => s
  | w :: _ =>
    if !s.cmdOpen p || cmdOp w.word != op then s
    else
      let r := f w.word
      let l := s.admAskers p
      if !r.1 then r.2
      else
        match s.winner (panArb p 0) l with
        | some v =>
          if v.num = 25 then
            ((r.2.award (panArb p 0) l v).updPan p (fun x => { x with cmds := x.cmds.drop 1 })).count (uEng p) (0x120 + op)
          else s
        | none => s

/-! ### Selecting an event (R371) -/

/-- The cursor of the head event of a queue replaced. -/
def saveCursor (c : BitVec 64) (l : List EngEvent) : List EngEvent :=
  match l with
  | [] => []
  | e :: t => { e with cursor := c } :: t

/-- A write of PAN_EVT_CUR by the pan's engine (R371, R376). -/
def State.wrEvtCur (s : State) (p v : Nat) : State :=
  let c := (s.eng p).cursor
  let old := s.evtQ p
  let x := s.pan p
  let y : Pan :=
    if !x.sel then x else if old then { x with bg := saveCursor c x.bg } else { x with fg := saveCursor c x.fg }
  let head := if v.testBit 0 then y.bg.head? else y.fg.head?
  (((s.setPan p { y with sel := head.isSome, slCount := 0 }).setReg (panOff p 0xC40) (v % 2)).updEng p
    (fun e => { e with cursor := match head with | some h => h.cursor | none => 0 }))

/-- The engine executes: powered, out of reset, and not halted. -/
def Engine.runs (e : Engine) : Bool := e.powered && !e.inReset && !e.halted && !e.noCode

/-- PAN_EVT_CUR (R371): the engine of pan p selects a queue. -/
def execPanEvtCur (p : Fin 64) (q : Bool) (s : State) : Host.Outcome State Fault Refusal :=
  .next (if s.alive && (s.eng p).runs then (s.busAccess (0x40 + p)).wrEvtCur p (b2n q) else s)

/-! ### Metadata for a set command (R97) -/

/-- What came of asking for a set's metadata. -/
inductive Got where
  | ready | wait | lost
  deriving DecidableEq, Repr

/-- The metadata block of a pan set brought into the metadata cache for a command: from the cache, the write queue or
the stack, whose cells err disturbs (R60 to R62, R222, R223). -/
def State.bring (s : State) (p psi : Nat) (err : BitVec 1152) : Got × State :=
  let x := s.pan p
  if s.isLost p psi then (.lost, s)
  else
    match x.mdcFind psi with
    | some j => (.ready, (s.setPan p (x.mdcTouch (psi % 1024) j)).count p 0x10C)
    | none =>
      if (x.mdcFilling psi).isSome then (.wait, s)
      else
        match x.mdwq.find? (fun e => e.psi == psi) with
        | some e =>
          match (s.setPan p { x with mdwq := x.mdwq.filter (fun q => q.psi != psi) }).mdcRoom p psi with
          | .error _ => (.wait, s)
          | .ok (j, s1) => (.ready, ((s1.updPan p (fun y => y.mdcInstall psi j e.blk true)).count p 0x10D).count p 0x10E)
        | none =>
          if !s.stackUp p then (.wait, s.wake (p / 8))
          else
            match s.mdcRoom p psi with
            | .error _ => (.wait, s)
            | .ok (j, s1) =>
              let r := (s1.count p 0x10D).readBlock p (slotKey psi 15) err
              if r.1.ue then (.lost, r.2.loseSet p psi 0x0010 psi)
              else
                let f := r.2.fixCorrupt p psi r.1.line
                let s2 := f.2.updPan p (fun y => y.mdcInstall psi j f.1 (f.1 != r.1.line))
                (.ready, (if f.1 = r.1.line then s2 else s2.mdChange p psi id).demandWb p (slotKey psi 15) r.1)

/-! ### Snoops of an event (R109, R372, R373) -/

/-- The selected event of pan p with its tracker entry, when it has one. -/
def State.evtTrk (s : State) (p : Nat) : Option (EngEvent × Trk) :=
  match s.selEvt p with
  | none => none
  | some e => if e.trk = 0x3FF then none else ((s.pan p).trk e.trk).map (fun t => (e, t))

/-- SNP for the selected event (R372, R373): one answer is expected from each agent. The engine's commands are accepted in HOLD too (R429). -/
def State.engSnp (s : State) (p : Nat) (e : EngEvent) (t : Trk) (a : BitVec 12) : State :=
  if s.isGone p a then s.count p 0x136
  else
    match (t.getInv e.victim).snps.find? (fun x => x.tgt == .agent a) with
    | some x => if x.st == .held then s else s.sendSnp p t.id .inv a e.addr.toNat
    | none =>
      let r := s.issue p t.id e.psi e.tag .inv a false
      r.2.updTrk p t.id (fun t => t.setInv e.victim { t.getInv e.victim with snps := (t.getInv e.victim).snps ++ [r.1] })

/-- GSNP for the selected event (R109, R373): one answer is expected from each device. -/
def State.engGsnp (s : State) (p : Nat) (e : EngEvent) (t : Trk) (d : BitVec 6) : State :=
  let s1 := s.notice d.toNat e.agent (.gsnp e.addr (htagOf p t.id)) (some p)
  if (t.getInv e.victim).snps.any (fun x => x.tgt == .dev d) then s1
  else
    s1.updTrk p t.id (fun t => t.setInv e.victim
      { t.getInv e.victim with snps := (t.getInv e.victim).snps ++ [{ tgt := .dev d, since := s.now }] })

/-- SNP (R372): SnpInv to the agent that the command names. -/
def execSnp (p : Fin 64) (s : State) : Host.Outcome State Fault Refusal :=
  next (match s.evtTrk p with
    | none => s
    | some (e, t) => s.engCmd p 1 (fun w => (true, s.engSnp p e t (cmdAgent w))))

/-- GSNP (R372): a group snoop to the device that the command names. -/
def execGsnp (p : Fin 64) (s : State) : Host.Outcome State Fault Refusal :=
  next (match s.evtTrk p with
    | none => s
    | some (e, t) => s.engCmd p 2 (fun w => (true, s.engGsnp p e t (cmdDev w))))

/-! ### The quota sweep (R76) -/

/-- Non-free ways of class c in a set as the sweep counts them: reserved ways with the class of the incoming line, without
the ways that the sweep is evicting already. -/
def State.sweepHeld (s : State) (p psi c : Nat) : Nat :=
  let x := s.pan p
  let ws := mdWays (x.md psi)
  let res := x.reservedWays psi
  let going := fun (w : Nat) => x.trks.any (fun t =>
    t.kind == .sweep && t.psi == psi && (match t.vict with | some v => !v.gone && v.way == w | none => false))
  (res.filter (fun r => r.2 == c)).length +
    (ws.filter (fun a => !res.any (fun r => r.1 == a.1) && !a.2.free && a.2.pcls == c && !going a.1)).length

/-- The way that the sweep evicts for class c, if any: the highest RAGE among its ways that are neither reserved nor busy. -/
def State.sweepPick (s : State) (p psi c : Nat) : Option (Nat × Way) :=
  let x := s.pan p
  let res := x.reservedWays psi
  bestVictim ((mdWays (x.md psi)).filter (fun a =>
    !a.2.free && a.2.pcls == c && !res.any (fun r => r.1 == a.1) && !x.busy psi a.2.tag))

/-- The next eviction that the sweep owes pan set psi. -/
def State.sweepNext (s : State) (p psi : Nat) : Option (Nat × Way) :=
  (List.range 16).findSome? (fun c => if s.quota p c < s.sweepHeld p psi c then s.sweepPick p psi c else none)

/-- The evictions of one pan set, at most n; false when one waits for a tracker entry. -/
def State.sweepSet (s : State) (p psi n : Nat) : Bool × State :=
  match n with
  | 0 => (true, s)
  | m + 1 =>
    match s.sweepNext p psi with
    | none => (true, s)
    | some (w, e) =>
      match (s.pan p).newId false with
      | none => (false, s)
      | some k =>
        let s1 := s.addTrk p { id := k, kind := .sweep, psi := psi, tag := e.tag, ph := .run, rq := { stamp := s.stamp16 } }
        ((s1.startVictim p k psi w e).progress p k).sweepSet p psi m

/-- The sweep's position after pan set psi (R76, R372). -/
def Pan.swept (x : Pan) (psi cyc : Nat) : Pan :=
  { x with
    sweepPsi := if x.sweepRestart then 0 else (psi + 1) % 2 ^ 20
    sweepBusy := x.sweepBusy && (decide (psi ≠ 0xFFFFF) || x.sweepRestart)
    sweepRestart := false
    lastQuota := some cyc }

/-- A command is accepted no sooner than n pan cycles after the last of its kind (R372). -/
def State.paced (s : State) (p : Nat) (last : Option Nat) (n : Nat) : Bool :=
  match last with
  | none => true
  | some t => decide (t + n ≤ s.panCycles (p / 8))

/-- PACE of PAN_QUOTA_CTL (R87). -/
def State.pace (s : State) (p : Nat) : Nat := max 16 (s.rf (panOff p 0x410) 31 16)

/-- SET_QUOTA on one pan set. -/
def State.setQuota (s : State) (p psi : Nat) (err : BitVec 1152) : Bool × State :=
  let fin := fun (t : State) => t.updPan p (fun x => x.swept psi (s.panCycles (p / 8)))
  if !s.paced p (s.pan p).lastQuota (s.pace p) then (false, s)
  else if s.holding then (true, fin s)
  else
    match s.bring p psi err with
    | (.wait, s1) => (false, s1)
    | (.lost, s1) => (true, fin s1)
    | (.ready, s1) =>
      let r := s1.sweepSet p psi 16
      (r.1, if r.1 then fin r.2 else r.2)

/-- SET_QUOTA (R76, R372); err disturbs the cells of a metadata read. -/
def execSetQuota (p : Fin 64) (err : BitVec 1152) (s : State) : Host.Outcome State Fault Refusal :=
  next (s.engCmd p 3 (fun w => s.setQuota p (cmdPsi w) err))

/-! ### Entries for busy lines (R97, R429) -/

/-- A line of an engine command that waits for its line in the wait chain; one that waits already is enough. None when no
tracker entry is free. -/
def State.chainLine (s : State) (p psi tag : Nat) (k : TKind) : Option State :=
  if (s.pan p).trks.any (fun t => t.kind == k && t.psi == psi && t.tag == tag && t.ph == .chained) then some s
  else
    ((s.pan p).newId false).map (fun i =>
      s.addTrk p { id := i, kind := k, psi := psi, tag := tag, rq := { stamp := s.stamp16 } })

/-! ### The flush (R86) -/

/-- The flush of the ways of a list; false when a line has to wait. During the entry to HOLD busy lines are left as they
stand (R429). -/
def State.flushWays (s : State) (p psi : Nat) (errs : List (Fin 16 × BitVec 1152)) (l : List Nat) : Bool × State :=
  match l with
  | [] => (true, s)
  | w :: rest =>
    let e := mdWay ((s.pan p).md psi) w
    if !e.v then s.flushWays p psi errs rest
    else if (s.pan p).busy psi e.tag then
      (if s.holding then s.flushWays p psi errs rest
       else
        match s.chainLine p psi e.tag .flush with
        | none => (false, s)
        | some s1 => s1.flushWays p psi errs rest)
    else
      match s.flushWay p psi w e ((errs.filter (fun x => x.1.val == w)).foldl (fun a x => a ^^^ x.2) 0) with
      | (.wait, s1) => (false, s1)
      | (.done, s1) => s1.flushWays p psi errs rest
      | (.sharers, s1) => (s1.poisonTrk p psi e.tag).flushWays p psi errs rest

/-- SET_FLUSH (R86, R179, R372): the combining-buffer entries that are due go first; err disturbs the metadata block's cells, errs those of the ways. -/
def execSetFlush (p : Fin 64) (err : BitVec 1152) (errs : List (Fin 16 × BitVec 1152)) (s : State) :
    Host.Outcome State Fault Refusal :=
  next (s.engCmd p 4 (fun w =>
    let s0 := s.combDrain p
    if (s0.pan p).combDue then (false, if (s0.pan p).dataEn then s0.wake (p / 8) else s0)
    else
      match s0.bring p (cmdPsi w) err with
      | (.wait, s1) => (false, s1)
      | (.lost, s1) => (true, s1)
      | (.ready, s1) => s1.flushWays p (cmdPsi w) errs (List.range 15)))

/-! ### The dead-agent cleanup (R141) -/

/-- The set counted as visited for every gone agent that awaits cleanup. -/
def visit (psi : Nat) (c : Nat × Nat × Nat) : Nat × Nat × Nat :=
  if c.2.1.testBit psi then c else (c.1, c.2.1 + 2 ^ psi, c.2.2 + 1)

/-- The cleanup of the ways of a list; false when a line finds no tracker entry to wait in. -/
def State.cleanWays (s : State) (p psi : Nat) (l : List Nat) : Bool × State :=
  match l with
  | [] => (true, s)
  | w :: rest =>
    let e := mdWay ((s.pan p).md psi) w
    if e.free then s.cleanWays p psi rest
    else if (s.pan p).busy psi e.tag then
      (match s.chainLine p psi e.tag .clean with
       | none => (false, s)
       | some s1 => s1.cleanWays p psi rest)
    else (s.cleanWay p psi w e).cleanWays p psi rest

/-- SET_CLEAN on one pan set. -/
def State.setClean (s : State) (p psi : Nat) (err : BitVec 1152) : Bool × State :=
  let fin := fun (t : State) =>
    (t.updPan p (fun x => { x with lastClean := some (s.panCycles (p / 8)), cleanLeft := x.cleanLeft.map (visit psi) })).cleanReport p
  if !s.paced p (s.pan p).lastClean 32 then (false, s)
  else
    match s.bring p psi err with
    | (.wait, s1) => (false, s1)
    | (.lost, s1) => (true, fin s1)
    | (.ready, s1) =>
      let r := s1.cleanWays p psi (List.range 15)
      (r.1, if r.1 then fin r.2 else r.2)

/-- SET_CLEAN (R141, R372); err disturbs the cells of a metadata read. -/
def execSetClean (p : Fin 64) (err : BitVec 1152) (s : State) : Host.Outcome State Fault Refusal :=
  next (s.engCmd p 5 (fun w => s.setClean p (cmdPsi w) err))

/-! ### Single lines (R145, R225) -/

/-- LINE_CLEAR (R145): a transaction that clears the line when it is in P. -/
def State.lineClear (s : State) (p psi tag : Nat) : Bool × State :=
  match (s.pan p).newId false with
  | none => (false, s)
  | some k =>
    let t : Trk := { id := k, kind := .clear, psi := psi, tag := tag, ord := (s.pan p).ord, rq := { stamp := s.stamp16 } }
    let s1 := s.addTrk p t
    (true, if (s.pan p).mayStart t then s1.start p k else s1)

/-- LINE_CLEAR (R372). -/
def execLineClear (p : Fin 64) (s : State) : Host.Outcome State Fault Refusal :=
  next (s.engCmd p 6 (fun w => s.lineClear p (cmdPsi w) (cmdTag w)))

/-- A block that holds nothing current rewritten as zeros, with its record (R225), whose address for a way with V 0 is that of the line its TAG still
names (R246; log entry 194). -/
def State.superseded (s : State) (p psi w tag : Nat) (o : BlockOut) : State :=
  (s.writeLine p psi w 0).logErr
    { unit := p, cls := 0, code := 0x0103, addr := some (true, localOf p psi tag), detail := s.ueDetail p (slotKey psi w) o }

/-- The action of R225 on way w of a set whose metadata is in the cache: what became of the block is read again, since
a write may have replaced it. -/
def State.lineUeAct (s : State) (p psi w : Nat) (err : BitVec 1152) : Bool × State :=
  let e := mdWay ((s.pan p).md psi) w
  if !e.free && (s.pan p).busy psi e.tag && !s.holding then (false, s)
  else if !s.stackUp p then (false, s.wake (p / 8))
  else
    let r := s.readBlock p (slotKey psi w) err
    if !r.1.ue then (true, r.2)
    else if !e.v || e.ust = 2 || ((s.pan p).combFind psi e.tag).isSome then (true, r.2.superseded p psi w e.tag r.1)
    else if e.ust = 3 then (true, r.2)
    else if ((s.pan p).newId false).isNone then (false, s)
    else (true, (r.2.stackUe p psi w e.tag r.1).poisonTrk p psi e.tag)

/-- LINE_UE (R225, R372): err disturbs the metadata block's cells, errs those of the way. -/
def execLineUe (p : Fin 64) (err : BitVec 1152) (errs : List (Fin 16 × BitVec 1152)) (s : State) :
    Host.Outcome State Fault Refusal :=
  next (s.engCmd p 7 (fun w =>
    if cmdWay w = 15 then (true, s)
    else
      match s.bring p (cmdPsi w) err with
      | (.wait, s1) => (false, s1)
      | (.lost, s1) => (true, s1)
      | (.ready, s1) =>
        s1.lineUeAct p (cmdPsi w) (cmdWay w) ((errs.filter (fun x => x.1.val == cmdWay w)).foldl (fun a x => a ^^^ x.2) 0)))

/-! ### The end of an event, and of the engine (R372, R377) -/

/-- The event's routine still has work under way that its lines wait for; once a fatal record stands, the flush passes over the lines
that transactions hold (R429). -/
def Pan.evtWaits (x : Pan) (e : EngEvent) (holding : Bool) : Bool :=
  match e.typ with
  | 3 => !holding && x.trks.any (fun t => t.kind == .flush)
  | 4 => x.trks.any (fun t => t.kind == .clean)
  | 5 => x.trks.any (fun t => t.kind == .clear && t.psi == e.psi && t.tag == e.tag)
  | _ => false

/-- The event of a CLEAR_POISON command for the line at a system address (R145, R370); it waits while the queue is full. -/
def State.raisePoisonClear (s : State) (a : Nat) : State :=
  let l := s.localAddr a
  let r := s.raiseFg (panOf l) { typ := 5, psi := psiOf l, tag := tagOf l, addr := BitVec.ofNat 52 a }
  { r.2 with img := { r.2.img with cmdWait := !r.1 } }

/-- The address that the command being executed names in ARG_0. -/
def ImageUnit.arg0 (i : ImageUnit) : Nat := (i.cmd.getD 1 0).toNat

/-- Entries, blocks and a command that waited for room in the foreground queue (R225, R368, R389). -/
def State.fillFg (s : State) (p : Nat) : State :=
  let s1 :=
    if s.homeOpen then
      ((s.pan p).trks.filter (fun t => t.inv.grp.isSome || (t.getInv true).grp.isSome)).foldl (fun t u => t.progress p u.id) s
    else s
  let s2 := (s1.pan p).ueWait.foldl (fun (t : State) (u : Nat × Nat) =>
    let r := t.raiseFg p { typ := 6, psi := u.1, way := u.2 }
    if r.1 then r.2.updPan p (fun x => { x with ueWait := x.ueWait.drop 1 }) else t) s1
  let s3 := if s2.img.cmdWait && panOf (s2.localAddr s2.img.arg0) == p then s2.raisePoisonClear s2.img.arg0 else s2
  s3.kicks p

/-- The commands of the management host whose effect an event's end may complete: CLEAR_POISON and RETIRE_BED (R145,
R483, R487). -/
def State.authStep (s : State) (typ p : Nat) : State :=
  if typ = 5 ∧ s.img.opc = 5 then s.authEnd
  else if typ = 3 ∧ s.img.opc = 0xA ∧ s.panRetired p ∧ !(List.range 8).any (fun c => (s.pan (p / 8 * 8 + c)).flushing) then s.authEnd
  else s

/-- COMPLETE (R372): the selected event leaves its queue and its tracker entry goes on. -/
def State.complete (s : State) (p : Nat) : Bool × State :=
  match s.selEvt p with
  | none => (true, s)
  | some e =>
    if (s.pan p).evtWaits e s.holding then (false, s)
    else
      let q := s.evtQ p
      let s1 := (s.updPan p (fun x =>
        { x with
          sel := false
          fg := if q then x.fg else x.fg.drop 1
          bg := if q then x.bg.drop 1 else x.bg
          flushing := x.flushing && e.typ != 3 })).count (uEng p) (0x110 + e.typ)
      let s2 :=
        if e.trk = 0x3FF then s1
        else
          let t1 := s1.updTrk p e.trk (fun t => t.setInv e.victim { t.getInv e.victim with eng := false })
          t1.progress p e.trk
      (true, (s2.fillFg p).authStep e.typ p)

/-- COMPLETE (R372). -/
def execComplete (p : Fin 64) (s : State) : Host.Outcome State Fault Refusal :=
  next (s.engCmd p 8 (fun _ => s.complete p))

/-- A pan engine halts: the fatal record ENG_HALT, and HOLD (R377). -/
def State.engHalt (s : State) (p code cause : Nat) : State :=
  let epc := (s.eng p).epc.toNat % 65536
  (s.updEng p (fun e => { e with halted := true })).logD (uEng p) 3 0x0502
    (code + epc * 2 ^ 8 + cause * 2 ^ 24)

/-- HALT (R377). -/
def execHalt (p : Fin 64) (s : State) : Host.Outcome State Fault Refusal :=
  next (s.engCmd p 9 (fun _ => (true, s.engHalt p 0 1)))

/-- ENG_CMD_BAD (R372): an unused command, or a snoop for an event without a tracker entry, is accepted in the engine's turn, ignored and
recorded. -/
def execEngCmdBad (p : Fin 64) (s : State) : Host.Outcome State Fault Refusal :=
  next (match (s.pan p).cmds with
    | [] => s
    | w :: _ =>
      let op := cmdOp w.word
      let bad := op = 0 || 0xA ≤ op || ((op = 1 || op = 2) && (s.evtTrk p).isNone)
      match (if bad && s.cmdOpen p then s.slot (panArb p 0) (s.admAskers p) 25 else none) with
      | some t => (t.updPan p (fun x => { x with cmds := x.cmds.drop 1 })).logD (uEng p) 2 0x0503 op
      | none => s)

end Sys2Proof.Machine
end

