-- ==== Sys2Proof/Machine/Crypto.lean ====
section
/-! DEFINITION. The ciphers that the specification names (R474, R482, R485): AES-256, its CMAC cut to 8 bytes, and the
unwrapping of a key. Everything is lists of bytes, in the order of the standards. -/

namespace Sys2Proof.Machine

/-! ### AES-256 -/

/-- Multiplication by x in the field of AES. -/
def aesX (a : Nat) : Nat := if 128 ≤ a then (2 * a) ^^^ 0x11B else 2 * a

/-- Byte a of a substitution table of 16 rows, each with its first column highest. -/
def aesTable (rows : List Nat) (a : Nat) : Nat := rows.getD (a / 16) 0 / 256 ^ (15 - a % 16) % 256

/-- The substitution of AES (FIPS 197). -/
def aesSub (a : Nat) : Nat := aesTable
  [0x637C777BF26B6FC53001672BFED7AB76, 0xCA82C97DFA5947F0ADD4A2AF9CA472C0, 0xB7FD9326363FF7CC34A5E5F171D83115,
   0x04C723C31896059A071280E2EB27B275, 0x09832C1A1B6E5AA0523BD6B329E32F84, 0x53D100ED20FCB15B6ACBBE394A4C58CF,
   0xD0EFAAFB434D338545F9027F503C9FA8, 0x51A3408F929D38F5BCB6DA2110FFF3D2, 0xCD0C13EC5F974417C4A77E3D645D1973,
   0x60814FDC222A908846EEB814DE5E0BDB, 0xE0323A0A4906245CC2D3AC629195E479, 0xE7C8376D8DD54EA96C56F4EA657AAE08,
   0xBA78252E1CA6B4C6E8DD741F4BBD8B8A, 0x703EB5664803F60E613557B986C11D9E, 0xE1F8981169D98E949B1E87E9CE5528DF,
   0x8CA1890DBFE6426841992D0FB054BB16] a

/-- The inverse substitution (FIPS 197). -/
def aesUnsub (a : Nat) : Nat := aesTable
  [0x52096AD53036A538BF40A39E81F3D7FB, 0x7CE339829B2FFF87348E4344C4DEE9CB, 0x547B9432A6C2233DEE4C950B42FAC34E,
   0x082EA16628D924B2765BA2496D8BD125, 0x72F8F66486689816D4A45CCC5D65B692, 0x6C704850FDEDB9DA5E154657A78D9D84,
   0x90D8AB008CBCD30AF7E45805B8B34506, 0xD02C1E8FCA3F0F02C1AFBD0301138A6B, 0x3A9111414F67DCEA97F2CFCEF0B4E673,
   0x96AC7422E7AD3585E2F937E81C75DF6E, 0x47F11A711D29C5896FB7620EAA18BE1B, 0xFC563E4BC6D279209ADBC0FE78CD5AF4,
   0x1FDDA8338807C731B11210592780EC5F, 0x60517FA919B54A0D2DE57A9F93C99CEF, 0xA0E03B4DAE2AF5B0C8EBBB3C83539961,
   0x172B047EBA77D626E169146355210C7D] a

/-- Bytes combined one by one. -/
def xorBytes (a b : List Nat) : List Nat := List.zipWith (· ^^^ ·) a b

/-- The words of the key schedule from word i on, newest first in acc; rc is the round constant. -/
def aesExpand (n i rc : Nat) (acc : List (List Nat)) : List (List Nat) :=
  match n with
  | 0 => acc
  | k + 1 =>
    let t := acc.headD []
    let t' :=
      if i % 8 = 0 then xorBytes ((t.drop 1 ++ t.take 1).map aesSub) [rc, 0, 0, 0]
      else if i % 8 = 4 then t.map aesSub else t
    aesExpand k (i + 1) (if i % 8 = 0 then aesX rc else rc) (xorBytes (acc.getD 7 []) t' :: acc)

/-- The 15 round keys of a 32-byte key. -/
def aesKeys (key : List Nat) : List (List Nat) :=
  let w := (aesExpand 52 8 1 (chunks 4 8 key).reverse).reverse
  chunks 16 15 w.flatten

/-- ShiftRows by dir (1, or 3 for its inverse); byte r + 4c is row r of column c. -/
def aesShift (dir : Nat) (s : List Nat) : List Nat :=
  (List.range 16).map (fun i => s.getD ((i + 4 * (dir * (i % 4))) % 16) 0)

/-- MixColumns: each byte of a column a0 to a3 is 2 a0 + 3 a1 + a2 + a3 from its own row on, in the field of AES. -/
def aesMix (s : List Nat) : List Nat :=
  (List.range 16).map (fun i =>
    let a := fun j => s.getD (i / 4 * 4 + (i + j) % 4) 0
    aesX (a 0 ^^^ a 1) ^^^ a 1 ^^^ a 2 ^^^ a 3)

/-- The inverse of MixColumns: its matrix 14, 11, 13, 9 is that of MixColumns after 5, 0, 4, 0. -/
def aesUnmix (s : List Nat) : List Nat :=
  aesMix ((List.range 16).map (fun i =>
    let a := fun j => s.getD (i / 4 * 4 + (i + j) % 4) 0
    aesX (aesX (a 0 ^^^ a 2)) ^^^ a 0))

/-- One block enciphered. -/
def aesEncrypt (ks : List (List Nat)) (b : List Nat) : List Nat :=
  let s0 := xorBytes b (ks.headD [])
  let s := ((ks.drop 1).take 13).foldl (fun s k => xorBytes (aesMix (aesShift 1 (s.map aesSub))) k) s0
  xorBytes (aesShift 1 (s.map aesSub)) (ks.getD 14 [])

/-- One block deciphered. -/
def aesDecrypt (ks : List (List Nat)) (b : List Nat) : List Nat :=
  let s0 := xorBytes b (ks.getD 14 [])
  let s := ((ks.drop 1).take 13).reverse.foldl (fun s k => aesUnmix (xorBytes ((aesShift 3 s).map aesUnsub) k)) s0
  xorBytes ((aesShift 3 s).map aesUnsub) (ks.headD [])

/-! ### CMAC and key unwrapping -/

/-- The doubling of a 16-byte value, most significant byte first. -/
def cmacDouble (b : List Nat) : List Nat :=
  let v := b.foldl (fun a x => a * 256 + x) 0
  let d := if 2 ^ 127 ≤ v then (2 * v % 2 ^ 128) ^^^ 0x87 else 2 * v
  (bytesOf d 16).reverse

/-- The chaining over whole blocks before the last. -/
def cmacRun (ks : List (List Nat)) (n : Nat) (msg c : List Nat) : List Nat × List Nat :=
  match n with
  | 0 => (msg, c)
  | k + 1 => if msg.length ≤ 16 then (msg, c) else cmacRun ks k (msg.drop 16) (aesEncrypt ks (xorBytes c (msg.take 16)))

/-- The 16-byte CMAC of a message under a 32-byte key. -/
def cmac (key msg : List Nat) : List Nat :=
  let ks := aesKeys key
  let zero := List.replicate 16 0
  let k1 := cmacDouble (aesEncrypt ks zero)
  let r := cmacRun ks (msg.length / 16) msg zero
  let last :=
    if r.1.length = 16 then xorBytes r.1 k1
    else xorBytes (r.1 ++ 0x80 :: List.replicate (15 - r.1.length) 0) (cmacDouble k1)
  aesEncrypt ks (xorBytes r.2 last)

/-- The tag of a message as the device keeps it (R474, R482): 8 bytes in output order, byte 0 lowest. -/
def tagOfBytes (key msg : List Nat) : Nat := ofBytes ((cmac key msg).take 8)

/-- The unwrapping rounds t, t - 1, … 1 of a value A and its semiblocks. -/
def kwRounds (ks : List (List Nat)) (t : Nat) (a : List Nat) (r : List (List Nat)) : List Nat × List (List Nat) :=
  match t with
  | 0 => (a, r)
  | k + 1 =>
    let x := aesDecrypt ks (xorBytes a (bytesOf (k + 1) 8).reverse ++ r.getLastD [])
    kwRounds ks k (x.take 8) (x.drop 8 :: r.dropLast)

/-- The key in a 40-byte wrapped key, none when the integrity check fails (R485). -/
def kwUnwrap (key wrapped : List Nat) : Option (List Nat) :=
  let s := chunks 8 5 wrapped
  let r := kwRounds (aesKeys key) 24 (s.headD []) (s.drop 1)
  if r.1 = List.replicate 8 0xA6 then some r.2.flatten else none

end Sys2Proof.Machine
end

