-- ==== Sys2Proof/Machine/ImageCheck.lean ====
section
/-! DEFINITION. The checks of a Puson image in the image window (R33, R34, R36, R108, R313, R474 to R479). -/

namespace Sys2Proof.Machine

/-! ### Bytes and words of a table of doublewords -/

/-- Doubleword k of a table. -/
def dwOf (m : Sparse (BitVec 64)) (k : Nat) : Nat := (sget m k 0).toNat

/-- Byte a of a table of doublewords. -/
def byteOf (m : Sparse (BitVec 64)) (a : Nat) : Nat := bitsOf (dwOf m (a / 8)) (8 * (a % 8) + 7) (8 * (a % 8))

/-- The n bytes at byte a, little-endian (R473). -/
def leOf (m : Sparse (BitVec 64)) (a n : Nat) : Nat := ofBytes ((List.range n).map (fun i => byteOf m (a + i)))

/-- Doublewords lo to lo + n - 1 of a table, numbered from 0. -/
def sslice (m : Sparse (BitVec 64)) (lo n : Nat) : Sparse (BitVec 64) :=
  m.filterMap (fun x => if lo ≤ x.1 ∧ x.1 < lo + n then some (x.1 - lo, x.2) else none)

/-- The first n doublewords of a table from number lo replaced by those of x. -/
def sreplace (m : Sparse (BitVec 64)) (lo n : Nat) (x : Sparse (BitVec 64)) : Sparse (BitVec 64) :=
  (List.range n).foldl (fun acc k => sset acc (lo + k) (sget x k 0) 0) m

/-- The bytes of n doublewords of a table. -/
def allBytes (m : Sparse (BitVec 64)) (n : Nat) : List Nat := ((List.range n).map (fun k => bytesOf (dwOf m k) 8)).flatten

/-- The device's key as 32 bytes (R481). -/
def State.keyBytes (s : State) : List Nat := ((List.range 4).map (fun k => bytesOf (s.rv (0x50000 + 8 * k)) 8)).flatten

/-! ### Header and layout (R474) -/

/-- Why a load is refused: CODE, SECT and DETAIL (R478). -/
structure Refuse where
  code : Nat
  sect : Nat := 0
  detail : Nat := 0
  deriving DecidableEq, Repr

/-- The byte that the image header must hold at byte a, where one value alone is right. -/
def headByte (a : Nat) : Nat := if a < 8 then bitsOf 0x474D494E4F535550 (8 * a + 7) (8 * a) else if a = 8 then 1 else 0

/-- BAD_HEADER (R478): the first of the bytes with one right value that is wrong. -/
def badHeader (win : Sparse (BitVec 64)) : Option Refuse :=
  ((List.range 10 ++ (List.range 12).map (· + 20) ++ (List.range 96).map (· + 160)).find?
    (fun a => byteOf win a != headByte a)).map (fun a => { code := 2, detail := a })

/-- A section: type, offset and length in bytes, CRC. -/
structure Sect where
  typ : Nat
  off : Nat
  len : Nat
  crc : Nat
  deriving DecidableEq, Repr

/-- Entry i of the section table. -/
def sectAt (win : Sparse (BitVec 64)) (i : Nat) : Sect :=
  let a := 32 + 16 * i
  { typ := byteOf win a, off := leOf win (a + 4) 4, len := leOf win (a + 8) 4, crc := leOf win (a + 12) 4 }

/-- The length that a section of a type must have, where it is fixed (R475). -/
def fixedLen (typ : Nat) : Option Nat :=
  match typ with
  | 1 => some 64 | 2 => some 0x5800 | 3 => some 512 | 4 => some 128 | _ => none

/-- Entry i of the table is right, given the entries before it (R474). -/
def sectOk (win : Sparse (BitVec 64)) (total i : Nat) (before : List Sect) : Bool :=
  let e := sectAt win i
  let rsv := leOf win (33 + 16 * i) 3
  if e.typ = 0 then rsv == 0 && e.off == 0 && e.len == 0 && e.crc == 0 && !before.any (fun x => x.typ == 0)
  else
    decide (e.typ ≤ 7) && !before.any (fun x => x.typ == e.typ) && rsv == 0 && e.off % 8 == 0 && e.len % 8 == 0
      && decide (256 ≤ e.off) && decide (e.off + e.len ≤ total - 8)
      && (match fixedLen e.typ with | some n => e.len == n | none => true)
      && (e.typ != 7 || (e.len % 16 == 0 && decide (e.len ≤ 65536)))
      && !before.any (fun x => x.typ != 0 && decide (x.off < e.off + e.len) && decide (e.off < x.off + x.len) && x.len != 0 && e.len != 0)

/-- The table's entries from i on checked in order: all of them, or the first that fails. -/
def sectsFrom (win : Sparse (BitVec 64)) (total n i : Nat) (before : List Sect) : Except Nat (List Sect) :=
  match n with
  | 0 => .ok before
  | k + 1 => if sectOk win total i before then sectsFrom win total k (i + 1) (before ++ [sectAt win i]) else .error i

/-- BAD_LAYOUT (R474, R478), or the sections in table order. -/
def layout (win : Sparse (BitVec 64)) (arg : Nat) : Except Refuse (List Sect) :=
  let total := leOf win 16 4
  if total ≠ arg ∨ total % 8 ≠ 0 ∨ 0x800000 < total then .error { code := 5, detail := 0xFF }
  else
    match sectsFrom win total 8 0 [] with
    | .error i => .error { code := 5, detail := i }
    | .ok l => .ok (l.filter (fun x => x.typ != 0))

/-- The doublewords of the section of a type. -/
def bodyOf (win : Sparse (BitVec 64)) (l : List Sect) (typ : Nat) : Sparse (BitVec 64) :=
  match l.find? (fun x => x.typ == typ) with
  | some x => sslice win (x.off / 8) (x.len / 8)
  | none => []

/-- The length in bytes of the section of a type. -/
def lenOf (l : List Sect) (typ : Nat) : Nat := match l.find? (fun x => x.typ == typ) with | some x => x.len | none => 0

/-- BAD_CRC (R478): the first section in table order whose CRC is wrong. -/
def badCrc (win : Sparse (BitVec 64)) (l : List Sect) : Option Refuse :=
  (l.find? (fun x => crc32c (allBytes (sslice win (x.off / 8) (x.len / 8)) (x.len / 8)) != x.crc)).map
    (fun x => { code := 9, sect := x.typ })

/-! ### Single sections (R475, R476) -/

/-- BAD_STRUCT: the first byte that breaks R475. -/
def badStruct (b : Sparse (BitVec 64)) : Option Refuse :=
  ((List.range 64).find? (fun i =>
    let x := byteOf b i
    if i < 8 then !(decide (8 ≤ x) && decide (x ≤ 0x77)) else x != 0)).map (fun i => { code := 10, sect := 1, detail := i })

/-- BAD_ROUTE: the first entry with a reserved bit set, or the device's own entry not VALID. -/
def badRoute (b : Sparse (BitVec 64)) (me : Nat) : Option Refuse :=
  match (List.range 64).find? (fun d => dwOf b d &&& 0x8F07 != dwOf b d) with
  | some d => some { code := 11, sect := 3, detail := d }
  | none => if (dwOf b me).testBit 15 then none else some { code := 11, sect := 3, detail := me }

/-- A field of the POLICY section with its smallest and largest value: word, high bit, low bit, values (R476). -/
def polFields : List (Nat × Nat × Nat × Nat × Nat) :=
  (List.range 16).map (fun c => (0, 4 * c + 3, 4 * c, 1, 15)) ++ (List.range 16).map (fun c => (1, 4 * c + 3, 4 * c, 1, 15))
    ++ [(2, 3, 0, 0, 8), (2, 7, 4, 0, 8), (2, 36, 32, 0, 16), (2, 44, 40, 0, 16),
        (3, 11, 0, 0, 768), (3, 27, 16, 0, 768), (4, 19, 0, 1200, 604800), (4, 51, 32, 1200, 604800)]
    ++ (List.range 8).map (fun b => (5, 4 * b + 3, 4 * b, 0, 12)) ++ (List.range 8).map (fun b => (5, 4 * b + 35, 4 * b + 32, 0, 12))

/-- The pairs of a minimum and its maximum: word, high bit, low bit of each. -/
def polPairs : List ((Nat × Nat × Nat) × (Nat × Nat × Nat)) :=
  (List.range 16).map (fun c => ((0, 4 * c + 3, 4 * c), (1, 4 * c + 3, 4 * c)))
    ++ [((2, 3, 0), (2, 7, 4)), ((2, 36, 32), (2, 44, 40)), ((3, 11, 0), (3, 27, 16)), ((4, 19, 0), (4, 51, 32))]
    ++ (List.range 8).map (fun b => ((5, 4 * b + 3, 4 * b), (5, 4 * b + 35, 4 * b + 32)))

/-- The bits of word w of the POLICY section that hold fields. -/
def polUsed (w : Nat) : Nat :=
  match w with
  | 0 | 1 | 5 | 6 | 7 | 8 => 2 ^ 64 - 1
  | 2 => 0xFFFF1F1FFFFF00FF
  | 3 => 0x0FFF0FFF
  | 4 => 0x000FFFFF000FFFFF
  | _ => 0

/-- Word w of the POLICY section holds a field of a failing check (R478). -/
def polBad (b : Sparse (BitVec 64)) (w : Nat) : Bool :=
  let f := fun (x : Nat × Nat × Nat) => bitsOf (dwOf b x.1) x.2.1 x.2.2
  dwOf b w &&& polUsed w != dwOf b w
    || polFields.any (fun x => x.1 == w && (decide (f (x.1, x.2.1, x.2.2.1) < x.2.2.2.1) || decide (x.2.2.2.2 < f (x.1, x.2.1, x.2.2.1))))
    || polPairs.any (fun x => (x.1.1 == w || x.2.1 == w) && decide (f x.2 < f x.1))

/-- BAD_POLICY: the lowest word that holds a field of a failing check. -/
def badPolicy (b : Sparse (BitVec 64)) : Option Refuse :=
  ((List.range 16).find? (polBad b)).map (fun w => { code := 13, sect := 4, detail := w })

/-- The code length of a code section, its entries, and whether it is in the format of R475: hdr bytes precede the
code of at most cap bytes. -/
def codeOf (b : Sparse (BitVec 64)) (len hdr cap : Nat) : Nat × List Nat × Bool :=
  let n := dwOf b 0 % 2 ^ 32
  let ents := if hdr = 8 then [dwOf b 0 / 2 ^ 32] else [dwOf b 1 % 2 ^ 32, dwOf b 1 / 2 ^ 32, dwOf b 2 % 2 ^ 32, dwOf b 2 / 2 ^ 32]
  let ok := decide (hdr ≤ len) && (hdr == 8 || dwOf b 0 / 2 ^ 32 == 0) && decide (4 ≤ n) && decide (n ≤ cap) && n % 4 == 0
    && len == (hdr + n + 7) / 8 * 8 && (n % 8 == 0 || byteOf b (hdr + n) + byteOf b (hdr + n + 1) + byteOf b (hdr + n + 2) + byteOf b (hdr + n + 3) == 0)
    && ents.all (fun e => e % 4 == 0 && decide (e < n))
  (n, ents, ok)

/-- PAN_CODE and CORE_CODE as a section of a given length holds them. -/
def panCode (b : Sparse (BitVec 64)) (len : Nat) : Nat × List Nat × Bool := codeOf b len 8 16384
def coreCode (b : Sparse (BitVec 64)) (len : Nat) : Nat × List Nat × Bool := codeOf b len 24 524288

/-! ### REGINIT (R477) -/

/-- The registers that REGINIT never names. -/
def regBarred (n : RegName) : Bool :=
  match n with
  | .AUTH_KEY | .AUTH_STATUS | .AUTH_COUNTER | .MBX_SEL | .MBX_STATUS | .MBX_DONE | .MBX_DATA | .MBX_CMD | .MBX_SUBMIT
  | .LAT_WORD | .IMG_STATUS | .IMG_CRC | .DEV_ROUTE_SH | .DEV_ROUTE | .PAN_ENG_CMD | .PAN_EVT_CUR | .PAN_LAT => true
  | _ => false

/-- Entry j of REGINIT: offset and value. -/
def initAt (b : Sparse (BitVec 64)) (j : Nat) : Nat × Nat := (dwOf b (2 * j), dwOf b (2 * j + 1))

/-- The bits of a register that lie in fields which are neither RW nor RWL, reserved fields by the type their table gives them
(R8, R477). -/
def barMask (n : RegName) : Nat :=
  match n with
  | .DEV_MODE_CTL => 0xFF
  | .DEV_BIST_CTL | .SM_CTL | .MP_CTL | .PAN_CACHE_CTL => 1
  | .DEV_ROUTE_CTL | .ARB_CTL => 0x3F
  | .MT_CTL | .HV_CTL | .SL_STEP_CTL => 0x1F
  | .SL_CTL => 0x10000
  | .HP_LINK_CTL | .KL_LINK_CTL => 7
  | .HP_AGENT_TMO => 0xFF0000000000
  | .MP_IO_DATA => 0xFFFFFFFF00000000
  | .BED_RAKE_CTL => 6
  | .BED_CHK_CTL => 0x8000000000000000
  | .BED_REST_CTL => 2
  | .PAN_QUOTA_CTL => 0xFFFFFFFF0000FFFF
  | .PAN_MD_PROBE => 0xE000000000000000
  | .PAN_ENG_CTL => 0xFFFF
  | _ => 0

/-- An entry of REGINIT is valid (R477); what it writes to a reserved field of type RW is ignored (R8). -/
def initOk (e : Nat × Nat) : Bool :=
  decide (e.1 < 2 ^ 26) && e.1 % 8 == 0 &&
    (match regAt e.1 with
     | some r => r.row.par && !regBarred r.row.name && storeMask r != 0 && e.2 &&& barMask r.row.name == 0
     | none => false)

/-- The last entry below n that writes offset o. -/
def lastInit (b : Sparse (BitVec 64)) (n o : Nat) : Option Nat :=
  (List.range n).reverse.find? (fun j => (initAt b j).1 == o)

/-- The value that the register at offset o will hold after REGINIT. -/
def State.valAfter (s : State) (b : Sparse (BitVec 64)) (n o : Nat) : Nat :=
  match lastInit b n o with
  | some j => (initAt b j).2
  | none => s.rv o

/-- Decoder k as REGINIT will leave it. -/
def State.hdmAfter (s : State) (b : Sparse (BitVec 64)) (n k : Nat) : Option Hdm :=
  let v := fun o => s.valAfter b n (o + 32 * k)
  hdmOf (v 0x2000) (v 0x2008) (v 0x2010) (v 0x2018)

/-- MODE of memory port m as REGINIT will leave it. -/
def State.mpAfter (s : State) (b : Sparse (BitVec 64)) (n m : Nat) : Nat := s.valAfter b n (mpOff m 0) % 4

/-- Target t belongs to an enabled port (R312). -/
def targetOn (mode : Nat → Nat) (t : Nat) : Bool := if t % 2 = 0 then mode (t / 2) == 1 || mode (t / 2) == 2 else mode (t / 2) == 2

/-- Decoder h, the k-th, is right beside all decoders l (R313); ctl is its control word. -/
def hdmGood (mode : Nat → Nat) (l : List (Nat × Hdm)) (k ctl : Nat) (h : Hdm) : Bool :=
  let unit := 2 ^ 28 * h.ways
  let ts := (List.range h.ways).map h.tgt
  decide (bitsOf ctl 3 1 ≤ 4) && decide (bitsOf ctl 7 4 ≤ 6) && h.base % unit == 0 && h.size != 0 && h.size % unit == 0
    && decide (h.base + h.size ≤ 2 ^ 44)
    && !l.any (fun x => x.1 != k && decide (x.2.base < h.base + h.size) && decide (h.base < x.2.base + x.2.size))
    && ts.eraseDups.length == ts.length && ts.all (targetOn mode)

/-- BAD_REGINIT (R477, R478): the first invalid entry; then the first decoder that breaks R313, then the first port
with MODE 11, each named by the last entry that wrote one of its registers. -/
def State.badInit (s : State) (b : Sparse (BitVec 64)) (n : Nat) : Option Refuse :=
  match (List.range n).find? (fun j => !initOk (initAt b j)) with
  | some j => some { code := 15, sect := 7, detail := j }
  | none =>
    let hs := (List.range 16).filterMap (fun k => (s.hdmAfter b n k).map (fun h => (k, h)))
    match hs.find? (fun x => !hdmGood (s.mpAfter b n) hs x.1 (s.valAfter b n (0x2010 + 32 * x.1)) x.2) with
    | some (k, _) =>
      some { code := 15, sect := 7,
             detail := ([0x2000, 0x2008, 0x2010, 0x2018].map (fun o => (lastInit b n (o + 32 * k)).getD 0)).foldl max 0 }
    | none =>
      match (List.range 8).find? (fun m => s.mpAfter b n m == 3) with
      | some m => some { code := 15, sect := 7, detail := (lastInit b n (mpOff m 0)).getD 0 }
      | none => none

/-! ### MAP (R33, R34, R36, R108) -/

/-- Range entry n has a reserved bit set, or the unused granule (R33, R34). -/
def rangeReserved (w : Nat → Nat) (n : Nat) : Bool :=
  let w0 := w (4 * n)
  let w1 := w (4 * n + 1)
  let w2 := w (4 * n + 2)
  let w3 := w (4 * n + 3)
  w0 &&& 0x000FFFFFFFFFFFF1 != w0 || w1 &&& 0x000FFFFFFFFFF000 != w1 || w2 &&& 0x00000FFFFFFFF000 != w2
    || w3 &&& 0x0000FF000FFF0000 != w3 || bitsOf w0 11 10 == 3

/-- The device-list bytes of a range. -/
def rangeDevs (w : Nat → Nat) (r : Range) : List Nat := (List.range r.ways).map (fun j => poolByte w (r.dlist + j))

/-- The size of a range's window on each of its devices. -/
def Range.window (r : Range) : Nat := (r.limit + 1 - r.base) * 4096 / r.ways

/-- Two stretches of addresses meet. -/
def meets (a na b nb : Nat) : Bool := decide (a < b + nb) && decide (b < a + na)

/-- The stretch from lo to hi lies within enabled decoders, each stretch of them taken in turn. -/
def covered (hs : List Hdm) (n lo hi : Nat) : Bool :=
  match n with
  | 0 => decide (hi ≤ lo)
  | k + 1 =>
    if hi ≤ lo then true
    else
      match hs.find? (fun h => decide (h.base ≤ lo) && decide (lo < h.base + h.size)) with
      | some h => covered hs k (h.base + h.size) hi
      | none => false

/-- Range entry n, which is r, keeps R33, R34, R36 and R108 beside the valid entries before it. -/
def rangeOk (w : Nat → Nat) (route : Nat → Nat) (me : Nat) (hs : List Hdm) (before : List Range) (n : Nat) (r : Range) : Bool :=
  let devs := rangeDevs w r
  let lo := r.lbase * 4096
  let size := (r.limit + 1 - r.base) * 4096
  !rangeReserved w n && decide (r.base ≤ r.limit) && r.base * 4096 % r.gran == 0 && (r.limit + 1) * 4096 % r.gran == 0
    && size % (r.gran * r.ways) == 0 && lo % r.gran == 0 && decide (lo + r.window ≤ 2 ^ 44)
    && decide (r.dlist + r.ways ≤ 4096) && devs.all (fun d => decide (d < 64)) && devs.eraseDups.length == devs.length
    && devs.all (fun d => (route d).testBit 15) && w (0xA00 + r.bgrp) != 0
    && !before.any (fun x => meets x.base (x.limit + 1 - x.base) r.base (r.limit + 1 - r.base))
    && !before.any (fun x => (rangeDevs w x).any (fun d => devs.contains d) && meets (x.lbase * 4096) x.window lo r.window)
    && (!devs.contains me || covered hs 16 lo (lo + r.window))

/-- The entries from n on checked in order: the first that fails. -/
def rangesFrom (w : Nat → Nat) (route : Nat → Nat) (me : Nat) (hs : List Hdm) (k n : Nat) (before : List Range) : Option Nat :=
  match k with
  | 0 => none
  | j + 1 =>
    match rangeOf w n with
    | none => rangesFrom w route me hs j (n + 1) before
    | some r => if rangeOk w route me hs before n r then rangesFrom w route me hs j (n + 1) (before ++ [r]) else some n

/-- BAD_MAP: the index of the first failing range entry. -/
def badMap (b route : Sparse (BitVec 64)) (me : Nat) (hs : List Hdm) : Option Refuse :=
  (rangesFrom (dwOf b) (dwOf route) me hs 512 0 []).map (fun n => { code := 12, sect := 2, detail := n })

/-! ### The checks in order (R478, R479) -/

/-- The first refusal of a list of checks. -/
def firstRefuse (l : List (Option Refuse)) : Option Refuse := l.findSome? id

/-- GEN breaks R479. -/
def State.staleGen (s : State) (gen : Nat) : Option Refuse :=
  if s.img.genExh then some { code := 8 }
  else if gen > s.img.lastGen ∨ (gen = s.img.lastGen ∧ s.img.lastGen < 0xFFFF) then none
  else some { code := 7, detail := s.img.lastGen }

/-- The checks on the sections' contents. -/
def State.badBodies (s : State) (l : List Sect) : Option Refuse :=
  let win := s.img.win
  let b := bodyOf win l
  let n := lenOf l 7 / 16
  let hs := (List.range 16).filterMap (s.hdmAfter (b 7) n)
  firstRefuse
    [ badCrc win l, badStruct (b 1), badRoute (b 3) s.me, badMap (b 2) (b 3) s.me hs, badPolicy (b 4),
      if (panCode (b 5) (lenOf l 5)).2.2 then none else some { code := 14, sect := 5 },
      if (coreCode (b 6) (lenOf l 6)).2.2 then none else some { code := 14, sect := 6 },
      s.badInit (b 7) n ]

/-- The image in the window checked against the length that the command gave: its sections, or the first refusal
(R478). -/
def State.checkImage (s : State) (arg : Nat) : Except Refuse (List Sect) :=
  let win := s.img.win
  match badHeader win with
  | some r => .error r
  | none =>
    if leOf win 12 2 ≠ 0xF640 ∨ byteOf win 14 ≠ 0 then .error { code := 3 }
    else if byteOf win 15 ≠ 0xFF ∧ byteOf win 15 ≠ s.me then .error { code := 4, detail := byteOf win 15 }
    else
      match layout win arg with
      | .error r => .error r
      | .ok l =>
        let n := arg / 8 - 1
        if tagOfBytes s.keyBytes (allBytes win n) ≠ dwOf win n then .error { code := 6 }
        else
          match s.staleGen (leOf win 10 2) with
          | some r => .error r
          | none =>
            match s.badBodies l with
            | some r => .error r
            | none => .ok l

end Sys2Proof.Machine
end

