-- ==== Sys2Proof/Machine/Image.lean ====
section
/-! DEFINITION. Installing an image and a firmware blob (R475 to R480, R486): row LOAD_COMPLETE. -/

namespace Sys2Proof.Machine

/-! ### Code stores (R475, R480) -/

/-- Code of n bytes written into the program store that starts at doubleword lo; a last odd word leaves the word beside it
as it stands. -/
def codeInto (prog : Sparse (BitVec 64)) (lo n : Nat) (code : Sparse (BitVec 64)) : Sparse (BitVec 64) :=
  let q := sreplace prog lo (n / 8) code
  if n % 8 = 0 then q
  else
    let old := (sget q (lo + n / 8) 0).toNat
    sset q (lo + n / 8) (BitVec.ofNat 64 (old / 2 ^ 32 * 2 ^ 32 + (sget code (n / 8) 0).toNat % 2 ^ 32)) 0

/-- The first doubleword of the Saltmaster program store among the program stores. -/
def smStore : Nat := 64 * 2048

/-- A PAN_CODE body written: every pan program store and the entry of every pan engine (R475). -/
def State.putPanCode (s : State) (b : Sparse (BitVec 64)) (len : Nat) : State :=
  let c := panCode b len
  let code := sslice b 1 2048
  let ent := BitVec.ofNat 64 (c.2.1.headD 0)
  forUpTo 64 (fun p t => t.sound p 0 (c.1 / 8))
    { s with img := { s.img with
        prog := (List.range 64).foldl (fun q p => codeInto q (p * 2048) c.1 code) s.img.prog
        entries := (List.range 64).foldl (fun q p => sset q p ent 0) s.img.entries } }

/-- A CORE_CODE body written: the Saltmaster program store and the entries of the cores (R475). -/
def State.putCoreCode (s : State) (b : Sparse (BitVec 64)) (len : Nat) : State :=
  let c := coreCode b len
  ({ s with img := { s.img with
      prog := codeInto s.img.prog smStore c.1 (sslice b 3 65536)
      entries := (List.range 4).foldl (fun q k => sset q (64 + k) (BitVec.ofNat 64 (c.2.1.getD k 0)) 0) s.img.entries } }).sound 64 0 (c.1 / 8)

/-- Pan engine p restarted at its entry address, in privileged mode (R480, R486). -/
def State.panStart (s : State) (p : Nat) : State :=
  s.updEng p (fun e => { (e.cleared (s.entryOf p) false (s.engCycles p)) with noCode := false })

/-- Every data SRAM zero (R475). -/
def State.zeroSrams (s : State) : State :=
  (List.range 68).foldl (fun t e => t.updEng e (fun x => { x with sram := [], ue := [] })) s

/-! ### Installation (R480) -/

/-- The entries of REGINIT applied in order as writer 0x02, and the shadow priorities committed (R477). -/
def State.regInit (s : State) (b : Sparse (BitVec 64)) (n : Nat) : State :=
  let s1 := (List.range n).foldl (fun t j =>
    let e := initAt b j
    match regAt e.1 with
    | some r => t.wrRow 2 r e.2
    | none => t) s
  allArb.foldl (fun t a => t.arbCommit a) s1

/-- The tables, bounds and codes of an image put into force (R480). -/
def State.putSections (s : State) (l : List Sect) : State :=
  let b := bodyOf s.img.win l
  let s1 := { s with img := { s.img with map := b 2, pol := b 4, struct_ := b 1 } }
  let s2 := forUpTo 64 (fun d t => (t.setReg (0x1000 + 8 * d) (dwOf (b 3) d)).setReg (0x1200 + 8 * d) (dwOf (b 3) d)) s1
  (((s2.putPanCode (b 5) (lenOf l 5)).putCoreCode (b 6) (lenOf l 6)).zeroSrams).regInit (b 7) (lenOf l 7 / 16)

/-- IMG_STATUS and the CRC registers of an accepted image, and its generation (R479, R480). -/
def State.putStatus (s : State) (l : List Sect) : State :=
  let gen := leOf s.img.win 10 2
  let s1 := l.foldl (fun t x => t.setReg (0x1000040 + 8 * x.typ) x.crc) s
  { s1 with img := { s1.img with
      busy := false, inForce := true, gen := gen, code := 1, sect := 0, detail := 0, lastGen := gen,
      genExh := s1.img.genExh || gen == 0xFFFF } }

/-- An image that passed every check installed, the engines and cores started, and TRAIN entered (R385, R480). -/
def State.install (s : State) (l : List Sect) : State :=
  let s1 := (s.putSections l).putStatus l
  let s2 := (forUpTo 4 (fun c t => (t.updEng (64 + c) (fun e => { e with noCode := false })).coreStart c) (forUpTo 64 (fun p t => t.panStart p) s1)).checkRing
  ((s2.logD uLoader 0 0x0803 s2.img.gen).count uLoader 0x100).enterTrain

/-- A refused image: IMG_STATUS, the record, and the return to BLANK (R478). -/
def State.refuseImage (s : State) (r : Refuse) : State :=
  let s1 := { s with img := { s.img with busy := false, code := r.code, sect := r.sect, detail := r.detail, gen := leOf s.img.win 10 2 } }
  ((s1.logD uLoader 2 0x0802 (r.code + r.sect * 2 ^ 8 + r.detail % 2 ^ 16 * 2 ^ 16)).count uLoader 0x101).enterMode .blank

/-- The loader's end: installation or refusal (R478, R480). -/
def State.loadEnd (s : State) : State :=
  match s.checkImage s.img.total with
  | .ok l => s.install l
  | .error r => s.refuseImage r

/-- LOAD_COMPLETE (R478, R480): the loader finishes its checks. -/
def execLoadComplete (s : State) : Host.Outcome State Fault Refusal :=
  next (if s.mode.cur == .load && s.img.busy && !s.holding then s.loadEnd else s)

/-! ### Firmware (R486) -/

/-- The section body that a FIRMWARE_LOAD names: its doublewords and its length, when the range is whole. -/
def State.fwBody (s : State) (off len : Nat) : Sparse (BitVec 64) := sslice s.img.win (off / 8) (len / 8)

/-- The range holds a body of its type, and its tag is the CMAC under the current key (R486). -/
def State.fwOk (s : State) (pan : Bool) (off len tag : Nat) : Bool :=
  let b := s.fwBody off len
  len % 8 == 0 && (if pan then panCode b len else coreCode b len).2.2 && tagOfBytes s.keyBytes (allBytes b (len / 8)) == tag

/-- A core taken into the reset of R385 for its new code, and started again when RUN is 1 (R486). -/
def State.fwCore (s : State) (c : Nat) : State :=
  let t := s.updEng (64 + c) (fun e => { e with noCode := false })
  if (s.eng (64 + c)).powered then t.coreReset c 0 else t.coreStart c

/-- A firmware blob installed (R486). -/
def State.fwInstall (s : State) (pan : Bool) (off len : Nat) : State :=
  let b := s.fwBody off len
  let s1 := if pan then forUpTo 64 (fun p t => t.panStart p) (s.putPanCode b len) else forUpTo 4 (fun c t => t.fwCore c) (s.putCoreCode b len)
  s1.logD uLoader 0 0x0809 (b2n pan)

end Sys2Proof.Machine
end

