-- ==== Sys2Proof/Machine/Auth.lean ====
section
/-! DEFINITION. The command-authentication unit (R482 to R487): the checks of a command block, and the effects of the
critical commands, rows IMAGE_LOAD to BAD_OPCODE. -/

namespace Sys2Proof.Machine

/-! ### The block as it stands in MBX_CMD (R482) -/

/-- Word k of the block. -/
def State.blkWord (s : State) (k : Nat) : Nat := s.rv (mbxOff 0 (0x80 + 8 * k))

/-- ARG_k of the block. -/
def State.blkArg (s : State) (k : Nat) : Nat := s.blkWord (k + 1)

/-- OPC and DEV of the block. -/
def State.blkOpc (s : State) : Nat := bitsOf (s.blkWord 0) 63 48
def State.blkDev (s : State) : Nat := bitsOf (s.blkWord 0) 47 42

/-- The tag that the block should carry: the CMAC of its words 0 to 6 (R482). -/
def State.blkTag (s : State) : Nat :=
  tagOfBytes s.keyBytes ((List.range 7).map (fun k => bytesOf (s.blkWord k) 8)).flatten

/-! ### The checks (R483, R485) -/

/-- The bits of ARG_0 to ARG_4 that a command uses (R485). -/
def argMask (opc k : Nat) : Nat :=
  let all := 2 ^ 64 - 1
  match opc, k with
  | 1, 0 => 2 ^ 32 - 1
  | 3, 0 => 0x1F
  | 3, 1 => all
  | 4, _ => all
  | 5, 0 => 2 ^ 52 - 1
  | 6, 0 => 1
  | 7, 0 => 1
  | 7, 1 => all
  | 7, 2 => all
  | 8, 0 => 0x3F
  | 9, 0 => 7
  | 10, 0 => 7
  | _, _ => 0

/-- The mode that a MODE_CHANGE may name, by its code (R485). -/
def cmdModeOf (n : Nat) : Option Mode :=
  match n with
  | 5 => some .prove
  | 6 => some .service
  | 7 => some .drain
  | 9 => some .test
  | 10 => some .recover
  | 11 => some .hold
  | _ => none

/-- The offset and length of a FIRMWARE_LOAD. -/
def State.fwOff (s : State) : Nat := s.blkArg 1 % 2 ^ 32
def State.fwLen (s : State) : Nat := s.blkArg 1 / 2 ^ 32

/-- A reserved bit is set, or an argument is out of range. -/
def State.badArg (s : State) : Bool :=
  let opc := s.blkOpc
  bitsOf (s.blkWord 0) 41 0 != 0 || (List.range 5).any (fun k => s.blkArg k &&& argMask opc k != s.blkArg k)
    || (opc == 3 && (cmdModeOf (s.blkArg 0 % 16)).isNone)
    || (opc == 7 && (s.fwOff % 8 != 0 || decide (0x800000 < s.fwOff + s.fwLen)))

/-- Every event queue of every pan engine is empty. -/
def State.noEvents (s : State) : Bool := s.pans.all (fun x => x.2.fg.isEmpty && x.2.bg.isEmpty)

/-- The mode in force is listed for the command, with the condition that R485 attaches to it. -/
def State.modeListed (s : State) : Bool :=
  let m := s.mode.cur
  let up := m == .prove || m == .service || m == .drain || m == .lean || m == .recover
  match s.blkOpc with
  | 1 => m == .blank && !s.mode.busy
  | 5 | 10 => up
  | 7 => if s.blkArg 0 = 0 then up || m == .test else (m == .prove || m == .test || (m == .drain && s.drained)) && s.noEvents
  | 9 => up || m == .test
  | _ => true

/-- The check of the command's own (R485): UNWRAP_FAIL, NOT_HOME, BLOB_TAG. -/
def State.ownCheck (s : State) : Option Nat :=
  match s.blkOpc with
  | 4 => if (kwUnwrap s.keyBytes ((List.range 5).map (fun k => bytesOf (s.blkArg k) 8)).flatten).isNone then some 0x0B else none
  | 5 =>
    match s.homeOf (s.blkArg 0) with
    | some (d, _, _) => if d = s.me then none else some 0x0C
    | none => some 0x0C
  | 7 => if s.fwOk (s.blkArg 0 == 1) s.fwOff s.fwLen (s.blkArg 2) then none else some 0x0D
  | _ => none

/-- The first check that the submitted block fails, as a RESULT (R483). -/
def State.cmdCheck (s : State) : Option Nat :=
  let opc := s.blkOpc
  if s.img.authBusy then some 0x0A
  else if !s.img.keySet then some 0x02
  else if s.blkWord 7 ≠ s.blkTag then some 0x03
  else if s.blkDev ≠ s.me then some 0x04
  else if s.img.cntExh ∧ opc ≠ 4 then some 0x06
  else if s.img.cntExh = false ∧ s.blkWord 6 ≤ s.img.counter then some 0x05
  else if opc = 0 ∨ 10 < opc then some 0x07
  else if s.badArg then some 0x08
  else if !s.modeListed then some 0x09
  else s.ownCheck

/-- A refused block: RESULT, the record and the counts; nothing else changes (R483). -/
def State.cmdRefuse (s : State) (r : Nat) : State :=
  let s1 := { s with img := { s.img with result := r, lastOpc := s.blkOpc } }
  ((s1.count uAuth 0x101 (if r = 3 then 1 else 0)).count uAuth 0x102 (if r = 5 then 1 else 0)).logD uAuth 2 0x0804
    (s.blkOpc + r * 2 ^ 16 + s.blkDev * 2 ^ 24)

/-- An accepted block: RESULT, the counter, BUSY (R483, R484). -/
def State.cmdAccept (s : State) : State :=
  ({ s with img := { s.img with
      result := 1, lastOpc := s.blkOpc, authBusy := true, counter := s.blkWord 6
      cntExh := s.img.cntExh || s.blkWord 6 == 2 ^ 64 - 1
      cmd := (List.range 8).map (fun k => BitVec.ofNat 64 (s.blkWord k)) } }).count uAuth 0x100

/-! ### The effects (R485) -/

/-- IMAGE_LOAD: LOAD starts (R478). -/
def State.cmdLoad (s : State) (total : Nat) : State :=
  let s1 := s.enterMode .load
  ({ s1 with img := { s1.img with busy := true, total := total } }).authEnd

/-- DEVICE_RESET: the reset comes 1 µs after the completion (R438). -/
def State.cmdReset (s : State) : State := ({ s with mode := { s.mode with devResetAt := some (s.now + 1000) } }).authEnd

/-- MODE_CHANGE: CMD_DONE follows once the change is made, refused or scheduled (R426, R483). -/
def State.cmdMode (s : State) (a0 a1 : Nat) : State :=
  match cmdModeOf (a0 % 16) with
  | none => s.authEnd
  | some m =>
    let s1 := s.modeCmd m (if a0.testBit 4 then some a1 else none)
    if !s1.mode.cmdWait.isEmpty then s1
    else if s1.mode.busy && !s.mode.busy then s1
    else s1.authEnd

/-- The four key registers given a key (R484). -/
def State.putKey (s : State) (k : List Nat) : State :=
  (List.range 4).foldl (fun t i => t.setReg (0x50000 + 8 * i) (ofBytes ((k.drop (8 * i)).take 8))) s

/-- A new key: the counters start again (R484). -/
def State.freshCounters (s : State) : State :=
  { s with img := { s.img with counter := 0, lastGen := 0, cntExh := false, genExh := false } }

/-- KEY_ROTATE after its unwrap: the new key, both counts at 0, both exhaustions clear; nothing when the check failed (R484,
R485). -/
def State.keyDone (s : State) (k : Option (List Nat)) : State :=
  match k with
  | none => s.authEnd
  | some k => (((s.putKey k).freshCounters).logD uAuth 0 0x0806 0).authEnd

/-- KEY_ROTATE (R484, R485). -/
def State.cmdKey (s : State) (wrapped : List Nat) : State := s.keyDone (kwUnwrap s.keyBytes wrapped)

/-- SLUICE_OVERRIDE (R445). -/
def State.cmdSluice (s : State) (on : Bool) : State := (s.slOverride on).authEnd

/-- FIRMWARE_LOAD (R484). -/
def State.cmdFirmware (s : State) (pan : Bool) (off len : Nat) : State := (s.fwInstall pan off len).authEnd

/-- LATCH_BREAK (R472). -/
def State.cmdLatch (s : State) (n : Nat) : State := (s.latBreak n 1).authEnd

/-- Every request outstanding at port m fails, a write with its resend (R147, R315, R487). -/
def State.failPort (s : State) (m : Nat) : State :=
  let pass := fun (t : State) => (t.mp m).reqs.foldl (fun t r => t.reqFails m r 1) t
  pass (pass s)

/-- RETIRE_MEMPORT: the links go to electrical idle, and the requests fail (R487). -/
def State.cmdRetireMp (s : State) (m : Nat) : State :=
  let s1 := ({ s with img := { s.img with retireMp := s.img.retireMp ||| 2 ^ m } }).updMp m (fun p => { p with h0 := {}, h1 := {} })
  (s1.failPort m).authEnd

/-- RETIRE_BED: the flush of the bed's pans whose DATA_EN is 1, which drops to 0 at its start (R487). -/
def State.cmdRetireBed (s : State) (b : Nat) : State :=
  let s1 := { s with img := { s.img with retireBed := s.img.retireBed ||| 2 ^ b } }
  let s2 := forUpTo 8 (fun c t =>
    let p := 8 * b + c
    if (t.pan p).dataEn then ((t.combFlush p).updPan p (fun x => { x with flushing := true, dataEn := false })).raiseBg p 3
    else t) s1
  if (List.range 8).any (fun c => (s2.pan (8 * b + c)).flushing) then s2 else s2.authEnd

/-- The effect of an accepted block. -/
def State.cmdRun (s : State) : State :=
  let a := s.blkArg
  match s.blkOpc with
  | 1 => s.cmdLoad (a 0)
  | 2 => s.cmdReset
  | 3 => s.cmdMode (a 0) (a 1)
  | 4 => s.cmdKey ((List.range 5).map (fun k => bytesOf (a k) 8)).flatten
  | 5 => s.raisePoisonClear (a 0)
  | 6 => s.cmdSluice ((a 0).testBit 0)
  | 7 => s.cmdFirmware (a 0 == 1) s.fwOff s.fwLen
  | 8 => s.cmdLatch (a 0)
  | 9 => s.cmdRetireMp (a 0)
  | 10 => s.cmdRetireBed (a 0)
  | _ => s.authEnd

/-- A write of 1 to MBX_SUBMIT: the block as it stands is checked, then refused or executed (R482, R483). -/
def State.submit (s : State) : State :=
  match s.cmdCheck with
  | some r => s.cmdRefuse r
  | none => s.cmdAccept.cmdRun

/-! ### The rows -/

/-- The eight words of a block with OPC opc. -/
def blkWords (opc : Nat) (c : CmdBlk) : List (BitVec 64) :=
  [BitVec.ofNat 64 (opc % 65536 * 2 ^ 48 + c.dev.toNat * 2 ^ 42 + c.rsv.toNat), c.a0, c.a1, c.a2, c.a3, c.a4, c.counter, c.tag]

/-- The host writes a block into MBX_CMD_0 to MBX_CMD_7 of mailbox 0. -/
def State.putBlk (s : State) (opc : Nat) (c : CmdBlk) : State :=
  (List.range 8).foldl (fun t k => (t.busAccess s.hostCode).setReg (mbxOff 0 (0x80 + 8 * k)) ((blkWords opc c).getD k 0).toNat) s

/-- The host writes a block and submits it. -/
def State.submitBlk (s : State) (opc : Nat) (c : CmdBlk) : State :=
  if s.alive then ((s.putBlk opc c).busAccess s.hostCode).submit else s

/-- IMAGE_LOAD (R478, R485). -/
def execImageLoad (c : CmdBlk) (s : State) : Host.Outcome State Fault Refusal := next (s.submitBlk 1 c)
/-- DEVICE_RESET (R438, R485). -/
def execDeviceReset (c : CmdBlk) (s : State) : Host.Outcome State Fault Refusal := next (s.submitBlk 2 c)
/-- MODE_CHANGE (R427, R485). -/
def execModeChange (c : CmdBlk) (s : State) : Host.Outcome State Fault Refusal := next (s.submitBlk 3 c)
/-- KEY_ROTATE (R484, R485). -/
def execKeyRotate (c : CmdBlk) (s : State) : Host.Outcome State Fault Refusal := next (s.submitBlk 4 c)
/-- CLEAR_POISON (R145, R485). -/
def execClearPoison (c : CmdBlk) (s : State) : Host.Outcome State Fault Refusal := next (s.submitBlk 5 c)
/-- SLUICE_OVERRIDE (R445, R485). -/
def execSluiceOverride (c : CmdBlk) (s : State) : Host.Outcome State Fault Refusal := next (s.submitBlk 6 c)
/-- FIRMWARE_LOAD (R485, R486). -/
def execFirmwareLoad (c : CmdBlk) (s : State) : Host.Outcome State Fault Refusal := next (s.submitBlk 7 c)
/-- LATCH_BREAK (R472, R485). -/
def execLatchBreak (c : CmdBlk) (s : State) : Host.Outcome State Fault Refusal := next (s.submitBlk 8 c)
/-- RETIRE_MEMPORT (R485, R487). -/
def execRetireMemport (c : CmdBlk) (s : State) : Host.Outcome State Fault Refusal := next (s.submitBlk 9 c)
/-- RETIRE_BED (R485, R487). -/
def execRetireBed (c : CmdBlk) (s : State) : Host.Outcome State Fault Refusal := next (s.submitBlk 10 c)

/-- BAD_OPCODE (R483): a submitted block that a check refuses, whatever its OPC; a block that passes every check is one of
the commands above. -/
def execBadOpcode (opc : BitVec 16) (c : CmdBlk) (s : State) : Host.Outcome State Fault Refusal :=
  let s1 := (s.putBlk opc.toNat c).busAccess s.hostCode
  next (if !s.alive then s
    else
      match s1.cmdCheck with
      | some r => s1.cmdRefuse r
      | none => s)

end Sys2Proof.Machine
end

