-- ==== Sys2Proof/Machine/Policy.lean ====
section
/-! DEFINITION. What a Saltmaster core may store to the register space, and the bounds of the POLICY section (R366, R387,
R388, R430, R476). -/

namespace Sys2Proof.Machine

/-- Doubleword w of the POLICY section in force. -/
def State.pol (s : State) (w : Nat) : Nat := (sget s.img.pol w 0).toNat

/-- Field hi..lo of doubleword w of the POLICY section. -/
def State.polF (s : State) (w hi lo : Nat) : Nat := bitsOf (s.pol w) hi lo

/-- A number brought to the nearer bound. -/
def clampTo (lo hi v : Nat) : Nat := if v < lo then lo else if hi < v then hi else v

/-- A mask field in which only the permitted bits change (R387). -/
def maskTo (old mask v : Nat) : Nat := (old - (old &&& mask)) + (v &&& mask)

/-- A store to PAN_QUOTA with each class brought within its bounds, classes n - 1 to 0 (R476). -/
def State.quotaBound (s : State) (n v : Nat) : Nat :=
  match n with
  | 0 => 0
  | c + 1 => clampTo (s.polF 0 (4 * c + 3) (4 * c)) (s.polF 1 (4 * c + 3) (4 * c)) (bitsOf v (4 * c + 3) (4 * c)) * 2 ^ (4 * c) + s.quotaBound c v

/-- The bounded fields of a register (R387): the fields that a core's store writes, with what the register held, each
as asked and as the bounds leave it; and the minimum interval in µs. None for any other register. -/
def State.bounded (s : State) (r : RegRef) (v : Nat) : Option (Nat × Nat × Nat) :=
  let old := s.rv r.off
  match r.row.name with
  | .PAN_QUOTA => some (v, s.quotaBound 16 v, s.polF 6 31 0)
  | .PAN_BYPASS =>
    some (v % 2 ^ 20, clampTo (s.polF 2 3 0) (s.polF 2 7 4) (bitsOf v 19 16) * 2 ^ 16 + maskTo (old % 2 ^ 16) (s.polF 2 31 16) (v % 2 ^ 16),
      s.polF 6 63 32)
  | .PAN_PREFETCH =>
    some (v &&& 0xFFFFFFF01F,
      maskTo (bitsOf old 39 24) (s.polF 2 63 48) (bitsOf v 39 24) * 2 ^ 24
        + clampTo (s.polF 3 11 0) (s.polF 3 27 16) (bitsOf v 23 12) * 2 ^ 12 + clampTo (s.polF 2 36 32) (s.polF 2 44 40) (bitsOf v 4 0),
      s.polF 7 31 0)
  | .BED_RAKE_CTL =>
    let keep := old % 2 ^ 20
    some (bitsOf v 39 20 * 2 ^ 20 + keep, clampTo (s.polF 4 19 0) (s.polF 4 51 32) (bitsOf v 39 20) * 2 ^ 20 + keep, s.polF 7 63 32)
  | .SL_BED_REQ =>
    some (v % 32, clampTo (s.polF 5 (4 * r.ix + 3) (4 * r.ix)) (s.polF 5 (4 * r.ix + 35) (4 * r.ix + 32)) (v % 32), s.polF 8 31 0)
  | .PAN_QUOTA_CTL => some (v &&& 0xFFFF0001, v &&& 0xFFFF0001, s.polF 8 63 32)
  | _ => none

/-- The unit of a bounded register and its offset within that unit's window (R388). -/
def polPlace (r : RegRef) : Nat × Nat :=
  match r.blk with
  | .pan => (r.inst, r.off - panOff r.inst 0)
  | .bed => (uBed r.inst, r.off - bedOff r.inst 0)
  | _ => (uSluice, r.off - 0x20000)

/-- The last accepted store to a bounded register lies less than its minimum interval back (R387). -/
def State.tooSoon (s : State) (off us : Nat) : Bool :=
  let t := sget s.ru.polAt off 0
  t != 0 && us != 0 && decide (dt (t - 1) s.now < us * 1000)

/-- A core's store to a bounded register: asked are its fields as asked, got as the bounds leave them (R387, R388). -/
def State.polStore (s : State) (c : Nat) (r : RegRef) (v asked got us : Nat) : State :=
  let pl := polPlace r
  let det := pl.1 + pl.2 % 2 ^ 16 * 2 ^ 12
  let core := uEng (64 + c)
  if s.mode.cur == .recover || s.tooSoon r.off us then
    ((s.count core 0x107).logD core 0 0x0508 det).polLog pl.1 c pl.2 false true v (s.regVal (4 + c) r)
  else
    let t := ({ s with ru := { s.ru with polAt := sset s.ru.polAt r.off (s.now + 1) 0 } }).wrRow (4 + c) r got
    let w := t.regVal (4 + c) r
    if asked = got then (t.count core 0x105).polLog pl.1 c pl.2 false false v w
    else ((t.count core 0x106).logD core 0 0x0507 det).polLog pl.1 c pl.2 true false v w

/-- A store to a register that a core may not write (R366). -/
def State.denied (s : State) (c o : Nat) : State := (s.count (uEng (64 + c)) 0x108).logD (uEng (64 + c)) 2 0x0506 o

/-- Whether core c may store to register r outside the bounded fields (R366). -/
def coreMay (c : Nat) (r : RegRef) : Bool :=
  match r.row.name with
  | .PAN_ENG_CTL | .SM_DOORBELL | .LAT_WORD | .HV_CTL | .HV_SNAP_AT | .HV_STATUS | .HV_DUMP_BASE | .HV_DUMP_CTL | .HV_DUMP_STATUS => true
  | .SM_TIMER_CMP | .SM_DOORBELL_ACK | .SM_MSG => r.inst == c
  | .MBX_SEL | .MBX_STATUS | .MBX_DONE | .MBX_DATA => r.inst == 1 + c
  | _ => false

/-- A store of a doubleword by core c at byte offset o of the register space (R366). -/
def State.coreStore (s : State) (c o v : Nat) : State :=
  let s1 := s.busAccess (4 + c)
  match regAt o with
  | some r =>
    if o % 8 ≠ 0 then (s1.count uMgmt 0x101).violation (4 + c) 2 o v
    else
      match s1.bounded r v with
      | some (a, g, us) => s1.polStore c r v a g us
      | none => if coreMay c r then s1.wrRow (4 + c) r v else s1.denied c o
  | none => if (winAt o).isSome then s1.denied c o else s1

end Sys2Proof.Machine
end

