-- ==== Sys2Proof/Machine/Regs.lean ====
section
/-! DEFINITION. Register accesses by their writer (R9, R308, R363 to R366, R461 to R473), rows REGISTER_WRITE,
UNDEFINED_ACCESS, REGISTER_READ and IMAGE_WINDOW_WRITE. -/

namespace Sys2Proof.Machine

/-! ### The management host (R308, R462, R482) -/

/-- A write by the host of the value v at byte offset o; 1 to MBX_SUBMIT submits the command block (R482). -/
def State.hostWrite (s : State) (w o v : Nat) (full : Bool) : State :=
  let s1 := s.writeReg w o v full
  if full && o == mbxOff 0 0xC0 && v.testBit 0 then s1.submit else s1

/-- An access by the host through BAR0, or through the head's own BAR2 window: its read's data and status are kept (R308,
R425). -/
def State.bar0 (s : State) (a : HostAcc) : State :=
  let s1 := s.count uEndpoint 0x100
  if !s.regOpen a.off then s1.hostAbort
  else if a.wr then s1.hostWrite 0 a.off a.v (!a.w32)
  else
    let r := s1.readReg 0 a.off a.w32
    { r.2 with fab := { r.2.fab with hostStat := 1, hostData := BitVec.ofNat 64 r.1 } }

/-! ### A pan engine's own window (R363, R371, R372, R470) -/

/-- A store of a doubleword by pan engine p at offset o of its pan window. False: it waits, the command queue being full
(R372). -/
def State.panStore (s : State) (p o v : Nat) : Bool × State :=
  match regAt (panOff p o) with
  | none => (true, s.busAccess (0x40 + p))
  | some r =>
    let s1 := s.busAccess (0x40 + p)
    match r.row.name with
    | .PAN_EVT_CUR => (true, s1.wrEvtCur p v)
    | .PAN_ENG_CMD =>
      if 8 ≤ (s.pan p).cmds.length then (false, s)
      else (true, s1.updPan p (fun x => { x with cmds := x.cmds ++ [{ word := BitVec.ofNat 64 v, stamp := s1.stamp16 }] }))
    | .PAN_LAT => (true, s1.wrLatch r.ix (0x40 + p) v)
    | _ => (true, s1.wrRow (0x40 + p) r v)

/-! ### Any writer (R461) -/

/-- A write by writer w (R461): the host, a core, or a pan engine to its own window; the loader writes at an image's
installation alone. -/
def State.busWrite (s : State) (w o v : Nat) (full : Bool) : State :=
  if w = 0 then s.bar0 { dev := s.me, off := o, wr := true, w32 := !full, v := v }
  else if w = 1 then (if s.regOpen o then s.hostWrite 1 o v full else s)
  else if 4 ≤ w ∧ w ≤ 7 then (if (s.eng (60 + w)).runs && full && s.regOpen o then s.coreStore (w - 4) o v else s)
  else if 0x40 ≤ w ∧ w < 0x80 then
    let p := w - 0x40
    let base := panOff p 0
    if (s.eng p).runs && full && o % 8 == 0 && decide (base ≤ o) && decide (o < base + 0x10000) then (s.panStore p (o - base) v).2 else s
  else s

/-- REGISTER_WRITE (R9, R466): writer w writes v at byte offset off; full says that it is one 64-bit access with all byte
enables. -/
def execRegisterWrite (w : BitVec 8) (off : BitVec 26) (v : BitVec 64) (full : Bool) (s : State) :
    Host.Outcome State Fault Refusal :=
  next (if s.alive && s.reaches w.toNat then s.busWrite w.toNat off.toNat v.toNat full else s)

/-- No register and no window lies at byte offset o (R463). -/
def undefinedAt (o : Nat) : Bool := (regAt o).isNone && (winAt o).isNone

/-- UNDEFINED_ACCESS (R463): an access to an offset where nothing is defined is ignored and counted. -/
def execUndefinedAccess (w : BitVec 8) (off : BitVec 26) (wr : Bool) (s : State) : Host.Outcome State Fault Refusal :=
  next (if !s.alive || !s.reaches w.toNat || !undefinedAt off.toNat then s
    else if w = 0 then s.bar0 { dev := s.me, off := off.toNat, wr := wr, w32 := false, v := 0 }
    else s.busAccess w.toNat)

/-- REGISTER_READ (R462 to R465): reader w reads byte offset off, 32 bits wide when w32 says so; long is a PCIe read of more than
8 bytes, which the host alone can send; at an undefined offset R463 holds for it too. -/
def execRegisterRead (w : BitVec 8) (off : BitVec 26) (w32 long : Bool) (s : State) : Host.Outcome State Fault Refusal :=
  next (if !s.alive || !s.reaches w.toNat then s
    else if w = 0 then
      (if long && !undefinedAt off.toNat then (s.count uEndpoint 0x100).hostAbort
       else s.bar0 { dev := s.me, off := off.toNat, wr := false, w32 := w32, v := 0 })
    else if s.regOpen off.toNat then (s.readReg w.toNat off.toNat w32).2
    else s)

/-- IMAGE_WINDOW_WRITE (R473): the host writes doubleword k of the image window, by its own path to a head, or forwarded through
the Knuckle management channel. -/
def execImageWindowWrite (k : WinWord) (v : BitVec 64) (s : State) : Host.Outcome State Fault Refusal :=
  let w := b2n k.fwd
  next (if s.alive && s.reaches w then s.busWrite w (0x1080000 + 8 * k.k.toNat) v.toNat true else s)

end Sys2Proof.Machine
end

