-- ==== Sys2Proof/Machine/Mgmt.lean ====
section
/-! DEFINITION. The management channel (R307 to R310), rows HOST_BAR2_ACCESS to UNUSED_MGMT_OPCODE, and the privileged
requesters of the arbiters (R200), row ARB_PRIV_LIMIT. -/

namespace Sys2Proof.Machine

/-! ### The head (R308, R309) -/

/-- MVALID of device d (R320). -/
def State.mvalid (s : State) (d : Nat) : Bool := (s.route d).testBit 11

/-- MLINK of device d (R320). -/
def State.mlink (s : State) (d : Nat) : Nat := bitsOf (s.route d) 10 8

/-- The head may forward another access to device d: not past what R309 holds it to, and not by another link than an earlier one
that has not been performed (R301). -/
def State.mayFwd (s : State) (d : Nat) : Bool :=
  let l := s.fab.mgmt.filter (fun x => x.dev == d)
  (decide (l.length ≤ 1) || l.all (fun x => x.wr)) && l.all (fun x => x.link == s.mlink d) && decide (s.fab.mgmt.length < 256)

/-- The record of a failed write (R308). -/
def State.mgmtFail (s : State) (d status : Nat) : State := s.logD uMgmt 2 0x030B (d + 64 * status)

/-- A forwarded access that device d cannot be sent: Unsupported Request for a read, the record for a write, whose STATUS
the specification does not state (log entry 20). -/
def State.noPath (s : State) (a : HostAcc) : State :=
  if a.wr then (let f := s.free; f.2.mgmtFail a.dev (f.1.toNat % 8)) else { s with fab := { s.fab with hostStat := 3 } }

/-- An access forwarded as MRD or MWR, with the lowest MTAG that is free (R308). -/
def State.fwdAcc (s : State) (a : HostAcc) : State :=
  if !s.mvalid a.dev then s.noPath a
  else
    let t := freeId (s.fab.mgmt.map (·.mtag)) 0 255
    let m : Mgmt :=
      { opc := if a.wr then 1 else 0, ddev := BitVec.ofNat 6 a.dev, sdev := BitVec.ofNat 6 s.me, mtag := BitVec.ofNat 8 t,
        offset := BitVec.ofNat 26 a.off, w32 := a.w32, data := if a.wr then BitVec.ofNat 64 a.v else 0 }
    ((s.pushMgmt m).2.count uEndpoint 0x101) |> fun s1 =>
      { s1 with fab := { s1.fab with mgmt := s1.fab.mgmt ++ [{ mtag := t, dev := a.dev, wr := a.wr, at_ := s1.now, link := s.mlink a.dev }] } }

/-- The waiting host accesses forwarded, each device's in order, as far as R309 admits. -/
def State.fwdQueue (s : State) : State :=
  let r := s.fab.hostQ.foldl (fun (acc : State × List HostAcc) a =>
    if acc.2.any (fun b => b.dev == a.dev) || !acc.1.mayFwd a.dev then (acc.1, acc.2 ++ [a]) else (acc.1.fwdAcc a, acc.2)) (s, [])
  { r.1 with fab := { r.1.fab with hostQ := r.2 } }

/-- HOST_BAR2_ACCESS (R308): the host accesses BAR2 window dev of the head at byte offset off. -/
def execHostBar2Access (dev : BitVec 6) (off : BitVec 26) (wr w32 : Bool) (v : BitVec 64) (s : State) :
    Host.Outcome State Fault Refusal :=
  let a : HostAcc := { dev := dev.toNat, off := off.toNat, wr := wr, w32 := w32, v := v.toNat }
  next (if !s.alive || !s.mode.head then s
    else if dev.toNat = s.me then s.bar0 a
    else ({ s with fab := { s.fab with hostQ := s.fab.hostQ ++ [a] } }).fwdQueue)

/-- A forwarded access outstanding with an MTAG removed. -/
def State.endFwd (s : State) (t : Nat) : State :=
  ({ s with fab := { s.fab with mgmt := s.fab.mgmt.filter (fun x => x.mtag != t) } })

/-- The end of a forwarded access: status 0 completed, 1 and 2 as R307, 7 for a timeout (R308). -/
def State.fwdDone (s : State) (x : MgmtOut) (status : Nat) (data : BitVec 64) : State :=
  let s1 := s.endFwd x.mtag
  let s2 :=
    if x.wr then (if status = 0 then s1 else s1.mgmtFail x.dev status)
    else if status = 0 then { s1 with fab := { s1.fab with hostStat := 1, hostData := data } }
    else s1.hostAbort
  s2.fwdQueue

/-! ### A device that is accessed (R308, R441) -/

/-- The oldest management message taken off when its opcode satisfies f. -/
def State.takeMgmt (s : State) (f : Nat → Bool) (g : Nat → Mgmt → State → State) : State :=
  match s.fab.mgmtIn with
  | [] => s
  | (l, m, _) :: rest =>
    if s.alive && f m.opc.toNat then g l m { s with fab := { s.fab with mgmtIn := rest } } else s

/-- An MCPL sent: by the management route, or by the link on which the access arrived while no image is in force (R441). -/
def State.reply (s : State) (l : Nat) (m : Mgmt) (status : Nat) (data : Nat) : State :=
  let c : Mgmt := { opc := 2, ddev := m.sdev, sdev := BitVec.ofNat 6 s.me, mtag := m.mtag, w32 := m.w32,
                    data := BitVec.ofNat 64 data, status := BitVec.ofNat 3 status }
  if s.img.inForce then (s.pushMgmt c).2
  else s.kwrite l { msg := { kvc := 6, re := s.fab.epoch, body := .mgmt c }, stamp := s.stamp16 }

/-- The head's device ID learnt from an access (log entry 14). -/
def State.learnHead (s : State) (m : Mgmt) : State := { s with fab := { s.fab with headId := some m.sdev.toNat } }

/-- MRD (R308): a forwarded read is performed in its turn and answered. -/
def execMrd (s : State) : Host.Outcome State Fault Refusal :=
  next (s.takeMgmt (· == 0) (fun l m t =>
    let t1 := t.learnHead m
    if t1.regOpen m.offset.toNat then
      let r := t1.readReg 1 m.offset.toNat m.w32
      r.2.reply l m 0 r.1
    else t1.reply l m 2 0))

/-- MWR (R308): a forwarded write is performed in its turn and answered. -/
def execMwr (s : State) : Host.Outcome State Fault Refusal :=
  next (s.takeMgmt (· == 1) (fun l m t =>
    let t1 := t.learnHead m
    if t1.regOpen m.offset.toNat then (t1.hostWrite 1 m.offset.toNat m.data.toNat (!m.w32)).reply l m 0 0
    else t1.reply l m 2 0))

/-- MCPL (R308): a completion reaches the head; one that matches no outstanding access is discarded. -/
def execMcpl (s : State) : Host.Outcome State Fault Refusal :=
  next (s.takeMgmt (· == 2) (fun _ m t =>
    match t.fab.mgmt.find? (fun x => x.mtag == m.mtag.toNat && x.dev == m.sdev.toNat) with
    | some x => t.fwdDone x m.status.toNat m.data
    | none => t))

/-- MCPL_TIMEOUT (R308): no completion of the access with the MTAG has come within 1 ms. -/
def execMcplTimeout (mtag : BitVec 8) (s : State) : Host.Outcome State Fault Refusal :=
  next (match s.fab.mgmt.find? (fun x => x.mtag == mtag.toNat) with
    | some x => if 1000000 ≤ dt x.at_ s.now then s.fwdDone x 7 0 else s
    | none => s)

/-- MVEC (R310): a vector of another device reaches the head, which issues its MSI-X entry. -/
def execMvec (s : State) : Host.Outcome State Fault Refusal :=
  next (s.takeMgmt (· == 3) (fun _ m t =>
    if t.mode.head then
      ({ t with fab := { t.fab with msix := (32 * m.sdev.toNat + m.mtag.toNat % 32) :: t.fab.msix } }).count uEndpoint 0x103
    else t))

/-- UNUSED_MGMT_OPCODE (R307): discarded and counted by its link. -/
def execUnusedMgmtOpcode (s : State) : Host.Outcome State Fault Refusal :=
  next (s.takeMgmt (fun o => decide (4 ≤ o)) (fun l _ t => t.count (uKn l) 0x120))

/-! ### Privileged requesters (R200) -/

/-- The arbiter n of a block. -/
def arbId (b : ArbBlk) (n : Nat) : ArbId := { base := arbBase b, unit := arbUnit b, index := n }

/-- The bit of a privileged requester in RESET_MASK of a block and its number among the requesters of the block's arbiter n, when it is
one of them (R196, R214): the host path of the management block is meant on a head, its Knuckle channel elsewhere. -/
def State.privBit (s : State) (b : ArbBlk) (n : Nat) (r : Priv) : Option (Nat × Nat) :=
  match b, n, r with
  | .dev, 0, .mgmt => some (32, s.hostCode)
  | .kl _, 0, .mgmt => some (32, 88)
  | .mp _, 0, .mgmt => some (32, 65)
  | .pan p, 3, .rake k => if k.val = p.val / 8 then some (32, 2) else none
  | .dev, 0, .core c => some (33 + c.val, 2 + c.val)
  | _, _, _ => none

/-- The unit number of a privileged requester. -/
def privUnit (r : Priv) : Nat :=
  match r with
  | .mgmt => uMgmt
  | .core c => uEng (64 + c)
  | .rake b => uRake b

/-- The reset of the management block: the access in progress ends, a host access with Completer Abort, a forwarded one
with STATUS 001 (R200, R307). -/
def State.mgmtReset (s : State) : State :=
  match s.fab.mgmtIn with
  | (l, m, _) :: rest =>
    if m.opc = 0 ∨ m.opc = 1 then ({ s with fab := { s.fab with mgmtIn := rest } }).reply l m 1 0
    else if s.mode.head then s.hostAbort else s
  | [] => if s.mode.head then s.hostAbort else s

/-- The sideband reset of a privileged requester (R200); a rake repeats its row, which changes no state. -/
def State.privReset (s : State) (r : Priv) : State :=
  match r with
  | .mgmt => s.mgmtReset
  | .core c => s.coreReset c 1
  | .rake _ => s

/-- A privileged requester's hold of an arbiter's resource: the one in progress, or one that began held cycles ago (R197, R200). -/
def State.privHold (s : State) (a : ArbId) (num held : Nat) : State :=
  let r := s.arb a
  match r.hold with
  | some (n, t) => if n = num then s.setArb a { r with hold := some (n, min t (s.arbCycle a - held)) } else s
  | none => s.setArb a { r with hold := some (num, s.arbCycle a - held), warned := false }

/-- The hold of an arbiter's resource by a requester has lasted MAX_HOLD plus BREAK_GRACE cycles (R200). -/
def State.overHeld (s : State) (b : ArbBlk) (a : ArbId) (num : Nat) : Bool :=
  match (s.arb a).hold with
  | some (n, t) => n == num && decide (t + s.maxHold b + s.breakGrace b ≤ s.arbCycle a)
  | none => false

/-- A hold of a privileged requester that has passed the limit: the requester is reset and the grant ended, or one record of the hold
is written, as RESET_MASK has it (R200). -/
def State.privLimit (s : State) (b : ArbBlk) (a : ArbId) (r : Priv) (bit : Nat) : State :=
  let d := privUnit r + a.index * 2 ^ 12
  let x := s.arb a
  if (s.rv (arbBase b + 0x908)).testBit bit then
    (if x.warned then s else (s.setArb a { x with warned := true }).logD (arbUnit b) 2 0x0402 d)
  else ((s.setArb a { x with hold := none, warned := false }).privReset r).logD (arbUnit b) 2 0x0403 d

/-- ARB_PRIV_LIMIT (R200): privileged requester r.r holds the resource of arbiter n of block b, and has for r.held cycles. -/
def execArbPrivLimit (b : ArbBlk) (n : Fin 8) (r : PrivHold) (s : State) : Host.Outcome State Fault Refusal :=
  next (match (if s.alive then s.privBit b n.val r.r else none) with
    | none => s
    | some (bit, num) =>
      let a := arbId b n
      let s1 := s.privHold a num r.held
      if s1.overHeld b a num then s1.privLimit b a r.r bit else s1)

end Sys2Proof.Machine
end

