-- ==== Sys2Proof/Machine/Muzia.lean ====
section
/-! DEFINITION. The Muzia engines: registers, instruction words, address maps, store buffers, exceptions, and the course of one
instruction (R323 to R329, R336 to R343, R350 to R352, R358 to R365, R374 to R381, R386). A command gives the instruction
that the engine executes at its PC (log entry 21). -/

namespace Sys2Proof.Machine

/-! ### Registers and STATUS (R324 to R326) -/

/-- Engine e is a Saltmaster core. -/
def isCore (e : Nat) : Bool := decide (64 ≤ e)

/-- General register r of an engine; g0 reads as zero (R324). -/
def Engine.rg (x : Engine) (r : Nat) : BitVec 64 := if r = 0 then 0 else sget x.g r 0

/-- General register r written; a write of g0 is discarded (R324). -/
def Engine.setG (x : Engine) (r : Nat) (v : BitVec 64) : Engine := if r = 0 then x else { x with g := sset x.g r v 0 }

/-- General register r of engine e. -/
def State.rg (s : State) (e : Nat) (r : BitVec 5) : BitVec 64 := (s.eng e).rg r.toNat

/-- General register r of engine e written. -/
def State.setG (s : State) (e : Nat) (r : BitVec 5) (v : BitVec 64) : State := s.updEng e (fun x => x.setG r.toNat v)

/-- STATUS.MODE: 0 user, 1 privileged, 2 routine (R326). -/
def Engine.mode (x : Engine) : Nat := bitsOf x.status.toNat 1 0
/-- STATUS.HACT. -/
def Engine.hact (x : Engine) : Bool := x.status.toNat.testBit 4
/-- STATUS.IE. -/
def Engine.ie (x : Engine) : Bool := x.status.toNat.testBit 2

/-! ### Instruction words (R328) -/

def wordR (op : Nat) (rd rs rt : BitVec 5) (fn : Nat) : Nat :=
  op * 2 ^ 26 + rd.toNat * 2 ^ 21 + rs.toNat * 2 ^ 16 + rt.toNat * 2 ^ 11 + fn
def wordI (op : Nat) (rd rs : BitVec 5) (imm : Nat) : Nat := op * 2 ^ 26 + rd.toNat * 2 ^ 21 + rs.toNat * 2 ^ 16 + imm
def wordB (op : Nat) (a : BArgs) : Nat := op * 2 ^ 26 + a.rs.toNat * 2 ^ 21 + a.rt.toNat * 2 ^ 16 + a.off.toNat
def wordJ (op : Nat) (off : BitVec 26) : Nat := op * 2 ^ 26 + off.toNat
def wordL (op : Nat) (a : LArgs) : Nat :=
  op * 2 ^ 26 + b2n a.lv * 2 ^ 25 + a.rs.toNat * 2 ^ 20 + a.imm.toNat * 2 ^ 10 + a.len.toNat
def wordS (a : SArgs) (sub : Nat) : Nat := 6 * 2 ^ 26 + a.rd.toNat * 2 ^ 21 + a.rs.toNat * 2 ^ 16 + a.sr.toNat * 2 ^ 8 + sub

/-! ### Address maps (R363, R364) -/

/-- What an engine address names: program store, data SRAM (low is the half of a core that only privileged mode may
use), registers, or nothing. -/
inductive Zone where
  | prog | low | high | regs | none
  deriving DecidableEq, Repr

/-- The zone of an engine address. -/
def zoneOf (core : Bool) (a : Nat) : Zone :=
  if core then
    (if a < 0x80000 then .prog
     else if 0x100000 ≤ a ∧ a < 0x200000 then .low
     else if 0x200000 ≤ a ∧ a < 0x300000 then .high
     else if 0x100000000 ≤ a ∧ a < 0x104000000 then .regs else .none)
  else
    (if a < 0x4000 then .prog
     else if 0x10000 ≤ a ∧ a < 0x12000 then .high
     else if 0x20000 ≤ a ∧ a < 0x30000 then .regs else .none)

/-- The data SRAM, as a zone. -/
def Zone.isSram (z : Zone) : Bool := z == .low || z == .high

/-- A mode may use a zone of the data SRAM. -/
def sramMay (m : Nat) (z : Zone) : Bool := z == .high || (z == .low && m == 1)

/-- A load of size bytes is permitted in mode m; zx says that it extends with zeros. -/
def mayLoad (core : Bool) (m : Nat) (z : Zone) (size : Nat) (zx : Bool) : Bool :=
  match z with
  | .prog => m != 0
  | .low | .high => sramMay m z
  | .regs => m != 0 && (size == 8 || (size == 4 && (core || !zx)))
  | .none => false

/-- A store of size bytes at address a is permitted in mode m; in routine mode only three registers of the pan window
are (R363). -/
def mayStore (core : Bool) (m : Nat) (z : Zone) (size a : Nat) : Bool :=
  match z with
  | .prog => m != 0 && decide (4 ≤ size)
  | .low | .high => sramMay m z
  | .regs => size == 8 && (m == 1 || (m == 2 && !core && (a == 0x20C40 || a == 0x20C80 || a == 0x20438)))
  | .none => false

/-! ### Local memories (R350 to R352, R379 to R381) -/

/-- The engine whose state holds the data SRAM and the marks of uncorrectable words of engine e: the cores share those
of core 0's record. -/
def memEng (e : Nat) : Nat := if e < 64 then e else 64

/-- The doubleword of the program stores that holds byte address a of engine e. -/
def progIx (e a : Nat) : Nat := (if e < 64 then e * 2048 else smStore) + a / 8

/-- The doubleword at byte address a of the data SRAM is marked uncorrectable, or of the program store. -/
def State.isUe (s : State) (e a : Nat) : Bool := (s.eng (memEng e)).ue.contains (a / 8)

/-- A doubleword's mark cleared. -/
def State.clearUe (s : State) (e a : Nat) : State := s.updEng (memEng e) (fun x => { x with ue := x.ue.filter (fun k => k != a / 8) })

/-- The doubleword of the data SRAM at byte address a. -/
def State.sramDw (s : State) (e a : Nat) : Nat := (sget (s.eng (memEng e)).sram (a / 8) 0).toNat

/-- The doubleword of the data SRAM at byte address a written. -/
def State.setSramDw (s : State) (e a v : Nat) : State :=
  s.updEng (memEng e) (fun x => { x with sram := sset x.sram (a / 8) (BitVec.ofNat 64 v) 0 })

/-- A doubleword with size bytes at byte address a replaced by v. -/
def mergeDw (d a size v : Nat) : Nat := setBits d (8 * (a % 8) + 8 * size - 1) (8 * (a % 8)) v

/-- size bytes at byte address a of a doubleword. -/
def partDw (d a size : Nat) : Nat := bitsOf d (8 * (a % 8) + 8 * size - 1) (8 * (a % 8))

/-- A store written to the data SRAM; a narrow one into an uncorrectable word leaves it uncorrectable, with the record
of R244 (R380). -/
def State.sramWrite (s : State) (e a size v : Nat) : State :=
  if size = 8 then (s.setSramDw e a v).clearUe e a
  else
    let t := s.setSramDw e a (mergeDw (s.sramDw e a) a size v)
    if s.isUe e a then t.logD (uEng e) 1 0x0108 (9 + 16 * (a / 8)) else t

/-- The oldest store of the buffer drained (R380). -/
def State.drainOne (s : State) (e : Nat) : State :=
  match (s.eng e).sbuf with
  | [] => s
  | w :: rest => (s.updEng e (fun x => { x with sbuf := rest })).sramWrite e w.addr w.size w.val

/-- n stores of the buffer drained, oldest first. -/
def State.drainN (s : State) (e n : Nat) : State := (List.range n).foldl (fun t _ => t.drainOne e) s

/-- The buffer drained completely (R380). -/
def State.drain (s : State) (e : Nat) : State := s.drainN e (s.eng e).sbuf.length

/-- Entries of the store buffer (R380). -/
def sbCap (e : Nat) : Nat := if e < 64 then 4 else 16

/-- An event counter of an engine: k is its place in the pan engine's list of R420, c in the core's. -/
def State.engCount (s : State) (e k c : Nat) : State := s.count (uEng e) (if e < 64 then 0x130 + k else 0x100 + c)

/-- A store put into the buffer; it first makes room when the buffer is full (R380). -/
def State.bufStore (s : State) (e a size v : Nat) : State :=
  let t := if sbCap e ≤ (s.eng e).sbuf.length then (s.engCount e 2 3).drainOne e else s
  t.updEng e (fun x => { x with sbuf := x.sbuf ++ [{ addr := a, size := size, val := v }] })

/-- A buffered store touches the size bytes at a. -/
def SbEntry.overlaps (w : SbEntry) (a size : Nat) : Bool := decide (w.addr < a + size) && decide (a < w.addr + w.size)

/-- A buffered store contains the size bytes at a. -/
def SbEntry.covers (w : SbEntry) (a size : Nat) : Bool := decide (w.addr ≤ a) && decide (a + size ≤ w.addr + w.size)

/-- The stores of the buffer to be drained before none overlaps the size bytes at a. -/
def drainLen (l : List SbEntry) (a size : Nat) : Nat :=
  match l with
  | [] => 0
  | _ :: rest => if l.any (fun x => x.overlaps a size) then 1 + drainLen rest a size else 0

/-- The words that a window entry holds laid over a doubleword. -/
def CwEntry.lay (c : CwEntry) (d : Nat) : Nat :=
  (if c.lo then c.val % 2 ^ 32 else d % 2 ^ 32) + (if c.hi then c.val / 2 ^ 32 % 2 ^ 32 else d / 2 ^ 32) * 2 ^ 32

/-- The doubleword at byte address a of the program store of engine e, as a fetch sees it. -/
def State.storeDw (s : State) (e a : Nat) : Nat := (sget s.img.prog (progIx e a) 0).toNat

/-- The entry of the code-write window for the doubleword at byte address a. -/
def State.cwAt (s : State) (e a : Nat) : Option CwEntry := (s.eng e).cwin.find? (fun c => c.dw == a / 8)

/-- The doubleword at byte address a of the engine's program store, its pending code writes included (R351). -/
def State.progDw (s : State) (e a : Nat) : Nat :=
  match s.cwAt e a with
  | some c => c.lay (s.storeDw e a)
  | none => s.storeDw e a

/-- The window holds every one of the size bytes at a. -/
def State.cwCovers (s : State) (e a size : Nat) : Bool :=
  match s.cwAt e a with
  | some c => if size = 8 then c.lo && c.hi else if a % 8 < 4 then c.lo else c.hi
  | none => false

/-- Doublewords of the code-write window (R350). -/
def cwCap (e : Nat) : Nat := if e < 64 then 16 else 64

/-- A store of 4 or 8 bytes put into a window entry. -/
def CwEntry.put (c : CwEntry) (a size v : Nat) : CwEntry :=
  { dw := c.dw, val := mergeDw c.val a size v, lo := c.lo || a % 8 == 0, hi := c.hi || size == 8 || a % 8 == 4 }

/-- A store of 4 or 8 bytes into the code-write window: into its doubleword's entry, or a new one (R350). None when that
finds the window full. -/
def State.cwStore (s : State) (e a size v : Nat) : Option State :=
  let w := (s.eng e).cwin
  if w.any (fun c => c.dw == a / 8) then
    some (s.updEng e (fun x => { x with cwin := x.cwin.map (fun c => if c.dw == a / 8 then c.put a size v else c) }))
  else if cwCap e ≤ w.length then none
  else some (s.updEng e (fun x => { x with cwin := x.cwin ++ [({ dw := a / 8, val := 0, lo := false, hi := false } : CwEntry).put a size v] }))

/-- One window entry written to the program store; half a doubleword that is uncorrectable stays so (R351, R380). -/
def State.cwDrain (s : State) (e : Nat) (c : CwEntry) : State :=
  let a := 8 * c.dw
  let t := { s with img := { s.img with prog := sset s.img.prog (progIx e a) (BitVec.ofNat 64 (c.lay (s.storeDw e a))) 0 } }
  if c.lo && c.hi then t.clearUe e a else if s.isUe e a then t.logD (uEng e) 1 0x0108 (9 + 16 * c.dw) else t

/-- The code-write window drained into the program store, oldest entry first (R351). -/
def State.drainCode (s : State) (e : Nat) : State :=
  ((s.eng e).cwin.foldl (fun t c => t.cwDrain e c) s).updEng e (fun x => { x with cwin := [] })

/-! ### Exceptions and interrupts (R358 to R362, R374, R376, R386) -/

/-- STATUS at the entry of a handler: privileged, interrupts off, handler active, DET as it was (R360). -/
def entryStatus (st : Nat) (ebd : Bool) : Nat := st &&& 8 ||| 0x11 ||| b2n ebd * 32

/-- The entry of a handler with a cause, a value and a vector offset (R360). -/
def Engine.enter (x : Engine) (cause eval off : Nat) : Engine :=
  { x with
    estatus := x.status
    status := BitVec.ofNat 64 (entryStatus x.status.toNat x.slot.isSome)
    epc := (x.slot.map (·.owner)).getD x.pc
    ecause := BitVec.ofNat 64 cause
    eval := BitVec.ofNat 64 eval
    pc := BitVec.ofNat 64 (x.evec.toNat + off)
    slot := none
    hold := false
    stepEnd := false
    waiting := false }

/-- A double fault: a pan engine halts, a core halts with its record and vector (R361, R377, R386). -/
def State.doubleFault (s : State) (e : Nat) : State :=
  let x := s.eng e
  let code := x.ecause.toNat % 256
  if e < 64 then s.engHalt e code 0
  else
    ((s.updEng e (fun x => { x with halted := true, haltEpc := x.epc, haltCode := code })).logD (uEng e) 2 0x0504 code).raise
      [20 + (e - 64)]

/-- What every STEP_LIMIT does beside its exception: it is counted, and recorded (R374, R376). -/
def State.stepNoted (s : State) (e : Nat) : State :=
  let typ := match s.selEvt e with | some v => v.typ | none => 0
  ((s.updPan e (fun x => { x with slCount := x.slCount + 1 })).engCount e 4 0).logD (uEng e) 2 0x0501
    (typ + (s.eng e).epc.toNat % 65536 * 256)

/-- A STEP_LIMIT that enters the handler: the fourth halts the engine (R376). -/
def State.stepLimit (s : State) (e : Nat) : State :=
  let t := s.stepNoted e
  if 4 ≤ (t.pan e).slCount then t.engHalt e 0x0E 2 else t

/-- The record of an uncorrectable word that an access met, at byte address a (R244). -/
def State.ueRecord (s : State) (e a : Nat) : State := s.logD (uEng e) 1 0x0108 (9 + 16 * (a / 8))

/-- An exception with a cause code and its EVAL (R358 to R361); MEM_UE has its record (R244), and STEP_LIMIT its own in a handler too
(R374). -/
def State.exc (s : State) (e code eval : Nat) : State :=
  let s0 := if code = 0x0B then s.ueRecord e eval else s
  if (s0.eng e).hact then (if code = 0x0E then s0.stepNoted e else s0).doubleFault e
  else
    let t := (s0.drain e).updEng e (fun x => x.enter code eval (0x10 * code))
    if code = 0x0E then t.stepLimit e else t

/-! ### The course of one instruction (R337 to R345, R359, R374) -/

/-- How an instruction ends: it completes and execution goes on in sequence; it completes and goes on at an address; it is a
branch or jump, with its target when taken; it raises an exception; or it has to wait and does nothing yet. hold: no
interrupt is taken before the next instruction. -/
inductive Done where
  | next (s : State) (hold : Bool)
  | goto (s : State) (pc : BitVec 64) (hold : Bool)
  | branch (target : Option (BitVec 64)) (link : Bool)
  | raise (s : State) (code eval : Nat)
  | wait (s : State)

/-- What the checks before execution need to know of an instruction: its word, whether it is a control transfer, whether it
raises ILLEGAL in a delay slot, whether its unused fields are zero and the engine implements it, whether it is STEP, and whether it is a
conditional branch. -/
structure Ins where
  word : Nat
  xfer : Bool := false
  noSlot : Bool := false
  legal : Bool := true
  step : Bool := false
  cond : Bool := false

/-- Loop level lv of an engine. -/
def Engine.loop (x : Engine) (lv : Nat) : LoopLvl := sget x.loops lv {}

/-- The level, if any, whose body ends at the PC (R340, R341). -/
def Engine.atLe (x : Engine) (lv : Nat) : Bool := (x.loop lv).lc != 0 && (x.loop lv).le == x.pc && !x.hact

/-- The cause that stops an instruction before it executes, with its EVAL (R359). -/
def State.before (s : State) (e : Nat) (i : Ins) : Option (Nat × Nat) :=
  let x := s.eng e
  let a := x.pc.toNat
  if x.mode = 2 ∧ 256 ≤ x.count then some (0x0E, 0)
  else if zoneOf (isCore e) a != .prog then some (5, a)
  else if s.isUe e a then some (0x0B, a / 8 * 8)
  else if (x.atLe 0 || x.atLe 1) && (i.xfer || x.slot.isSome) then some (3, a)
  else if !i.legal || (i.noSlot && x.slot.isSome) then some (1, i.word)
  else none

/-- The next address after sequential completion at the PC, and the loop registers that follow (R340). hact is the HACT
in force for the instruction. -/
def Engine.advance (x : Engine) (hact : Bool) : Engine :=
  let at_ := fun (y : Engine) lv => (y.loop lv).lc != 0 && (y.loop lv).le == y.pc && !hact
  let back := fun (y : Engine) lv =>
    { y with loops := sset y.loops lv { y.loop lv with lc := (y.loop lv).lc - 1 } {}, pc := (y.loop lv).ls }
  let drop := fun (y : Engine) lv => { y with loops := sset y.loops lv { y.loop lv with lc := 0 } {} }
  let one := fun (y : Engine) =>
    if at_ y 0 then (if (y.loop 0).lc = 1 then (let z := drop y 0; { z with pc := z.pc + 4 }) else back y 0)
    else { y with pc := y.pc + 4 }
  if at_ x 1 then (if (x.loop 1).lc = 1 then one (drop x 1) else back x 1) else one x

/-- The engine after an instruction has completed in sequence: a delay slot writes the link and goes to the target of a
taken transfer, any other address comes from the loop logic (R336, R337, R340). -/
def Engine.complete (x : Engine) (hact : Bool) : Engine :=
  match x.slot with
  | none => x.advance hact
  | some b =>
    let y := if b.link then x.setG 31 (b.owner + 8) else x
    let z := { y with slot := none }
    match b.target with
    | some t => { z with pc := t }
    | none => z.advance hact

/-- The step count after an instruction (R374): m and m' are the modes before and after it. -/
def stepCount (step : Bool) (m m' n : Nat) : Nat :=
  if m' ≠ 2 then n else if m ≠ 2 || step then 0 else n + 1

/-- A conditional branch of core e counted as mispredicted or not (R382, R420): with DET 1 a branch is predicted not taken; else the
specification leaves it to the predictor, and the count is a free value, 0 or 1 (log entry 25). -/
def State.predicted (s : State) (e : Nat) (taken : Bool) : State :=
  if (s.eng e).status.toNat.testBit 3 then s.count (uEng e) 0x102 (b2n taken)
  else { s.count (uEng e) 0x102 (Config.freeNat s.freeIx % 2) with freeIx := s.freeIx + 1 }

/-- What every completed instruction leaves behind: the step count, the hold, and its count (R345, R374, R420). -/
def State.retire (s : State) (e m : Nat) (i : Ins) (hold : Bool) : State :=
  let t := s.updEng e (fun x => { x with count := stepCount i.step m x.mode x.count, hold := hold, stepEnd := i.step })
  if e < 64 then t else t.count (uEng e) 0x100

/-- One instruction of engine e (R323 to R362). -/
def State.runIns (s : State) (e : Nat) (i : Ins) (body : State → Done) : State :=
  let x := s.eng e
  if !s.alive || !x.runs || x.waiting then s
  else
    match s.before e i with
    | some (c, v) => s.exc e c v
    | none =>
      match body s with
      | .wait t => t
      | .raise t c v => t.exc e c v
      | .next t hold => (t.updEng e (fun y => y.complete x.hact)).retire e x.mode i hold
      | .goto t pc hold => (t.updEng e (fun y => { y with pc := pc })).retire e x.mode i hold
      | .branch target link =>
        let t := (s.updEng e (fun y => { y with pc := y.pc + 4, slot := some { owner := x.pc, target := target, link := link } })).retire
          e x.mode i false
        if i.cond && isCore e then t.predicted e target.isSome else t

/-- An instruction that only computes a value of its destination register (R331 to R333, R354). -/
def State.runG (s : State) (e : Nat) (i : Ins) (rd : BitVec 5) (f : State → BitVec 64) : State :=
  s.runIns e i (fun t => .next (t.setG e rd (f t)) false)

/-- An instruction that is permitted when ok holds, and else raises PRIV with its word (R325, R344). -/
def State.priv (s : State) (ok : Bool) (i : Ins) (k : Done) : Done := if ok then k else .raise s 2 i.word

end Sys2Proof.Machine
end

