-- ==== Sys2Proof/Machine/MuziaInt.lean ====
section
/-! DEFINITION. Muzia integer computation: opcodes 0x00, 0x01, 0x08 to 0x0F and CRC32C (R331 to R333, R354), rows ADD to SRAI
and CRC32C. -/

namespace Sys2Proof.Machine

/-! ### Shared operations -/

/-- 1 for true, as a doubleword. -/
def flag64 (b : Bool) : BitVec 64 := if b then 1 else 0

/-- An R-format instruction: its fn[5:0] under an opcode, and whether rt must be zero (R328, R329). -/
def insR (op fn : Nat) (unary : Bool) (a : RArgs) : Ins :=
  { word := wordR op a.rd a.rs a.rt (a.u.toNat * 64 + fn), legal := a.u == 0 && (!unary || a.rt == 0) }

/-- An operation of two registers (R332, R333). -/
def State.runBin (s : State) (e op fn : Nat) (a : RArgs) (f : BitVec 64 → BitVec 64 → BitVec 64) : State :=
  s.runG e (insR op fn false a) a.rd (fun t => f (t.rg e a.rs) (t.rg e a.rt))

/-- An operation of one register; rt is unused (R332). -/
def State.runUn (s : State) (e fn : Nat) (a : RArgs) (f : BitVec 64 → BitVec 64) : State :=
  s.runG e (insR 0 fn true a) a.rd (fun t => f (t.rg e a.rs))

/-- An operation of a register and a 16-bit immediate (R331). -/
def State.runImm (s : State) (e op : Nat) (a : IArgs) (f : BitVec 64 → BitVec 16 → BitVec 64) : State :=
  s.runG e { word := wordI op a.rd a.rs a.imm.toNat } a.rd (fun t => f (t.rg e a.rs) a.imm)

/-- SHIFTI of one kind: imm16[15:8] is unused (R331). -/
def State.runShift (s : State) (e kind : Nat) (a : ShArgs) (f : BitVec 64 → Nat → BitVec 64) : State :=
  s.runG e { word := wordI 0x0F a.rd a.rs (a.u.toNat * 256 + kind * 64 + a.sh.toNat), legal := a.u == 0 } a.rd
    (fun t => f (t.rg e a.rs) a.sh.toNat)

/-- A shift uses the low six bits of its count (R332). -/
def sh6 (v : BitVec 64) : Nat := v.toNat % 64

/-- Leading zero bits of a doubleword, 0 to 64. -/
def clz64 (v : BitVec 64) : BitVec 64 := if v = 0 then 64 else BitVec.ofNat 64 (63 - Nat.log2 v.toNat)

/-- One bits of a doubleword. -/
def popc64 (v : BitVec 64) : BitVec 64 := BitVec.ofNat 64 ((List.range 64).filter (fun k => v.toNat.testBit k)).length

/-- The bytes of a doubleword in reverse order. -/
def bswap64 (v : BitVec 64) : BitVec 64 :=
  BitVec.ofNat 64 ((List.range 8).foldl (fun a k => a * 256 + v.toNat / 256 ^ k % 256) 0)

/-- The high half of the signed 128-bit product. -/
def mulh64 (x y : BitVec 64) : BitVec 64 := BitVec.ofInt 64 (x.toInt * y.toInt / 2 ^ 64)

/-- The high half of the unsigned 128-bit product. -/
def mulhu64 (x y : BitVec 64) : BitVec 64 := BitVec.ofNat 64 (x.toNat * y.toNat / 2 ^ 64)

/-- The signed quotient rounded towards zero; all ones for a division by zero (R333). -/
def div64 (x y : BitVec 64) : BitVec 64 :=
  if y = 0 then BitVec.allOnes 64 else BitVec.ofInt 64 (Int.tdiv x.toInt y.toInt)

/-- The unsigned quotient; all ones for a division by zero (R333). -/
def divu64 (x y : BitVec 64) : BitVec 64 := if y = 0 then BitVec.allOnes 64 else BitVec.ofNat 64 (x.toNat / y.toNat)

/-- The signed remainder, with the dividend's sign; the dividend for a division by zero (R333). -/
def rem64 (x y : BitVec 64) : BitVec 64 := if y = 0 then x else BitVec.ofInt 64 (Int.tmod x.toInt y.toInt)

/-- The unsigned remainder; the dividend for a division by zero (R333). -/
def remu64 (x y : BitVec 64) : BitVec 64 := if y = 0 then x else BitVec.ofNat 64 (x.toNat % y.toNat)

/-! ### Register operations (R332) -/

/-- ADD (R332): sum. -/
def execAddR (e : Fin 68) (a : RArgs) (s : State) : Host.Outcome State Fault Refusal :=
  .next (s.runBin e 0 0x00 a (fun x y => x + y))

/-- SUB (R332): difference. -/
def execSubR (e : Fin 68) (a : RArgs) (s : State) : Host.Outcome State Fault Refusal :=
  .next (s.runBin e 0 0x01 a (fun x y => x - y))

/-- AND (R332): bitwise and. -/
def execAndR (e : Fin 68) (a : RArgs) (s : State) : Host.Outcome State Fault Refusal :=
  .next (s.runBin e 0 0x02 a (fun x y => x &&& y))

/-- OR (R332): bitwise or. -/
def execOrR (e : Fin 68) (a : RArgs) (s : State) : Host.Outcome State Fault Refusal :=
  .next (s.runBin e 0 0x03 a (fun x y => x ||| y))

/-- XOR (R332): bitwise exclusive or. -/
def execXorR (e : Fin 68) (a : RArgs) (s : State) : Host.Outcome State Fault Refusal :=
  .next (s.runBin e 0 0x04 a (fun x y => x ^^^ y))

/-- ANDN (R332): rs and not rt. -/
def execAndn (e : Fin 68) (a : RArgs) (s : State) : Host.Outcome State Fault Refusal :=
  .next (s.runBin e 0 0x05 a (fun x y => x &&& ~~~y))

/-- SLL (R332): shift left. -/
def execSll (e : Fin 68) (a : RArgs) (s : State) : Host.Outcome State Fault Refusal :=
  .next (s.runBin e 0 0x06 a (fun x y => x <<< sh6 y))

/-- SRL (R332): shift right, zeros in. -/
def execSrl (e : Fin 68) (a : RArgs) (s : State) : Host.Outcome State Fault Refusal :=
  .next (s.runBin e 0 0x07 a (fun x y => x >>> sh6 y))

/-- SRA (R332): shift right, sign in. -/
def execSra (e : Fin 68) (a : RArgs) (s : State) : Host.Outcome State Fault Refusal :=
  .next (s.runBin e 0 0x08 a (fun x y => x.sshiftRight (sh6 y)))

/-- CLT (R332): 1 when rs < rt as signed values. -/
def execClt (e : Fin 68) (a : RArgs) (s : State) : Host.Outcome State Fault Refusal :=
  .next (s.runBin e 0 0x09 a (fun x y => flag64 (x.slt y)))

/-- CLTU (R332): 1 when rs < rt as unsigned values. -/
def execCltu (e : Fin 68) (a : RArgs) (s : State) : Host.Outcome State Fault Refusal :=
  .next (s.runBin e 0 0x0A a (fun x y => flag64 (x.ult y)))

/-- MIN (R332): the lesser signed value. -/
def execMin (e : Fin 68) (a : RArgs) (s : State) : Host.Outcome State Fault Refusal :=
  .next (s.runBin e 0 0x0B a (fun x y => if x.slt y then x else y))

/-- MAX (R332): the greater signed value. -/
def execMax (e : Fin 68) (a : RArgs) (s : State) : Host.Outcome State Fault Refusal :=
  .next (s.runBin e 0 0x0C a (fun x y => if x.slt y then y else x))

/-- MINU (R332): the lesser unsigned value. -/
def execMinu (e : Fin 68) (a : RArgs) (s : State) : Host.Outcome State Fault Refusal :=
  .next (s.runBin e 0 0x0D a (fun x y => if x.ult y then x else y))

/-- MAXU (R332): the greater unsigned value. -/
def execMaxu (e : Fin 68) (a : RArgs) (s : State) : Host.Outcome State Fault Refusal :=
  .next (s.runBin e 0 0x0E a (fun x y => if x.ult y then y else x))

/-- CLZ (R332): leading zero bits. -/
def execClz (e : Fin 68) (a : RArgs) (s : State) : Host.Outcome State Fault Refusal :=
  .next (s.runUn e 0x0F a clz64)

/-- POPC (R332): one bits. -/
def execPopc (e : Fin 68) (a : RArgs) (s : State) : Host.Outcome State Fault Refusal :=
  .next (s.runUn e 0x10 a popc64)

/-- BSWAP (R332): bytes reversed. -/
def execBswap (e : Fin 68) (a : RArgs) (s : State) : Host.Outcome State Fault Refusal :=
  .next (s.runUn e 0x11 a bswap64)

/-! ### Multiply and divide (R333) -/

/-- MUL (R333): the low half of the product. -/
def execMul (e : Fin 68) (a : RArgs) (s : State) : Host.Outcome State Fault Refusal :=
  .next (s.runBin e 1 0x00 a (fun x y => x * y))

/-- MULH (R333): the high half of the signed product. -/
def execMulh (e : Fin 68) (a : RArgs) (s : State) : Host.Outcome State Fault Refusal :=
  .next (s.runBin e 1 0x01 a mulh64)

/-- MULHU (R333): the high half of the unsigned product. -/
def execMulhu (e : Fin 68) (a : RArgs) (s : State) : Host.Outcome State Fault Refusal :=
  .next (s.runBin e 1 0x02 a mulhu64)

/-- DIV (R333): signed quotient. -/
def execDiv (e : Fin 68) (a : RArgs) (s : State) : Host.Outcome State Fault Refusal :=
  .next (s.runBin e 1 0x03 a div64)

/-- DIVU (R333): unsigned quotient. -/
def execDivu (e : Fin 68) (a : RArgs) (s : State) : Host.Outcome State Fault Refusal :=
  .next (s.runBin e 1 0x04 a divu64)

/-- REM (R333): signed remainder. -/
def execRem (e : Fin 68) (a : RArgs) (s : State) : Host.Outcome State Fault Refusal :=
  .next (s.runBin e 1 0x05 a rem64)

/-- REMU (R333): unsigned remainder. -/
def execRemu (e : Fin 68) (a : RArgs) (s : State) : Host.Outcome State Fault Refusal :=
  .next (s.runBin e 1 0x06 a remu64)

/-! ### Immediate operations (R331) -/

/-- ADDI (R331): sum with the sign-extended immediate. -/
def execAddi (e : Fin 68) (a : IArgs) (s : State) : Host.Outcome State Fault Refusal :=
  .next (s.runImm e 0x08 a (fun x i => x + i.signExtend 64))

/-- ANDI (R331): and with the zero-extended immediate. -/
def execAndi (e : Fin 68) (a : IArgs) (s : State) : Host.Outcome State Fault Refusal :=
  .next (s.runImm e 0x09 a (fun x i => x &&& i.setWidth 64))

/-- ORI (R331): or with the zero-extended immediate. -/
def execOri (e : Fin 68) (a : IArgs) (s : State) : Host.Outcome State Fault Refusal :=
  .next (s.runImm e 0x0A a (fun x i => x ||| i.setWidth 64))

/-- XORI (R331): exclusive or with the zero-extended immediate. -/
def execXori (e : Fin 68) (a : IArgs) (s : State) : Host.Outcome State Fault Refusal :=
  .next (s.runImm e 0x0B a (fun x i => x ^^^ i.setWidth 64))

/-- CLTI (R331): 1 when rs is less, as signed values. -/
def execClti (e : Fin 68) (a : IArgs) (s : State) : Host.Outcome State Fault Refusal :=
  .next (s.runImm e 0x0C a (fun x i => flag64 (x.slt (i.signExtend 64))))

/-- CLTIU (R331): 1 when rs is less than the sign-extended immediate, as unsigned values. -/
def execCltiu (e : Fin 68) (a : IArgs) (s : State) : Host.Outcome State Fault Refusal :=
  .next (s.runImm e 0x0D a (fun x i => flag64 (x.ult (i.signExtend 64))))

/-- ADDHI (R331): sum with the sign-extended immediate shifted left by 16. -/
def execAddhi (e : Fin 68) (a : IArgs) (s : State) : Host.Outcome State Fault Refusal :=
  .next (s.runImm e 0x0E a (fun x i => x + (i.signExtend 64 <<< 16)))

/-- SLLI (R331): shift left. -/
def execSlli (e : Fin 68) (a : ShArgs) (s : State) : Host.Outcome State Fault Refusal :=
  .next (s.runShift e 0 a (fun x n => x <<< n))

/-- SRLI (R331): logical shift right. -/
def execSrli (e : Fin 68) (a : ShArgs) (s : State) : Host.Outcome State Fault Refusal :=
  .next (s.runShift e 1 a (fun x n => x >>> n))

/-- SRAI (R331): arithmetic shift right. -/
def execSrai (e : Fin 68) (a : ShArgs) (s : State) : Host.Outcome State Fault Refusal :=
  .next (s.runShift e 2 a (fun x n => x.sshiftRight n))

/-! ### CRC32C (R354) -/

/-- The low n bytes of a doubleword, byte 0 first. -/
def lowBytes (v : BitVec 64) (n : Nat) : List Nat := (List.range n).map (fun k => v.toNat / 256 ^ k % 256)

/-- CRC32C (R354): the accumulator in rs[31:0] after the low 1, 2, 4 or 8 bytes of rt. -/
def execCrc32c (e : Fin 68) (a : CrcArgs) (s : State) : Host.Outcome State Fault Refusal :=
  .next (s.runG e { word := wordR 4 a.rd a.rs a.rt (a.u.toNat * 4 + a.sz.toNat), legal := a.u == 0 } a.rd
    (fun t => BitVec.ofNat 64 (crc32cRun ((t.rg e a.rs).toNat % 2 ^ 32) (lowBytes (t.rg e a.rt) (2 ^ a.sz.toNat)))))

end Sys2Proof.Machine
end

