-- ==== Sys2Proof/Machine/MuziaMem.lean ====
section
/-! DEFINITION. Muzia loads, stores, AMO and BMOV (R334, R335, R350, R351, R353, R363 to R365, R379 to R381), rows LB to
AMO_CAS and BMOV. -/

namespace Sys2Proof.Machine

/-! ### Effective addresses and registers on the bus -/

/-- The effective address g[rs] + sext(imm16) (R334). -/
def State.effAddr (s : State) (e : Nat) (a : IArgs) : Nat := (s.rg e a.rs + a.imm.signExtend 64).toNat

/-- The writer code of an engine (R461). -/
def engCode (e : Nat) : Nat := if isCore e then 4 + (e - 64) else 0x40 + e

/-- The offset in the register space that address x of an engine reaches (R363, R364). -/
def regOffOf (e x : Nat) : Nat := if isCore e then x - 0x100000000 else panOff e (x - 0x20000)

/-- A value of size bytes extended to 64 bits, with its sign or with zeros. -/
def extend (zx : Bool) (size v : Nat) : BitVec 64 :=
  let w := 8 * size
  let u := v % 2 ^ w
  BitVec.ofNat 64 (if !zx && u.testBit (w - 1) then u + (2 ^ 64 - 2 ^ w) else u)

/-! ### Loads (R334, R351, R365, R381) -/

/-- The buffered store that decides how a load of size bytes at x is served: the youngest that overlaps it (R381). -/
def State.youngest (s : State) (e x size : Nat) : Option SbEntry :=
  ((s.eng e).sbuf.filter (fun w => w.overlaps x size)).getLast?

/-- A load from the data SRAM (R381): its value, or the uncorrectable word that it meets, and the state. -/
def State.sramLoad (s : State) (e x size : Nat) : Option Nat × State :=
  match s.youngest e x size with
  | none => (if s.isUe e x then none else some (partDw (s.sramDw e x) x size), s)
  | some w =>
    if w.covers x size then (some (w.val / 256 ^ (x - w.addr) % 256 ^ size), s)
    else
      let t := (s.drainN e (drainLen (s.eng e).sbuf x size)).engCount e 3 4
      (if t.isUe e x then none else some (partDw (t.sramDw e x) x size), t)

/-- A load from the engine's program store (R351). -/
def State.progLoad (s : State) (e x size : Nat) : Option Nat :=
  if s.isUe e x && !s.cwCovers e x size then none else some (partDw (s.progDw e x) x size)

/-- A load from the register space, after the store buffer has drained (R365): 32 bits wide for 4 bytes. A unit that BIST
owns answers nothing, and the value is free. -/
def State.regLoad (s : State) (e x size : Nat) : Nat × State :=
  let t := s.drain e
  let o := regOffOf e x
  if t.regOpen o then t.readReg (engCode e) o (size == 4) else let f := t.free; (f.1.toNat, f.2)

/-- What a load does once its checks have passed. -/
def State.loadFrom (s : State) (e x size : Nat) : Option Nat × State :=
  match zoneOf (isCore e) x with
  | .prog => (s.progLoad e x size, s)
  | .regs => let r := s.regLoad e x size; (some r.1, r.2)
  | _ => s.sramLoad e x size

/-- A load of size bytes (R334). -/
def State.runLoad (s : State) (e op size : Nat) (zx : Bool) (a : IArgs) : State :=
  s.runIns e { word := wordI op a.rd a.rs a.imm.toNat } (fun t =>
    let x := t.effAddr e a
    if x % size ≠ 0 then .raise t 6 x
    else if !mayLoad (isCore e) (t.eng e).mode (zoneOf (isCore e) x) size zx then .raise t 8 x
    else
      let r := t.loadFrom e x size
      match r.1 with
      | none => .raise r.2 0x0B (x / 8 * 8)
      | some v => .next (r.2.setG e a.rd (extend zx size v)) false)

/-- LB (R334): a byte, sign-extended. -/
def execLb (e : Fin 68) (a : IArgs) (s : State) : Host.Outcome State Fault Refusal :=
  .next (s.runLoad e 0x10 1 false a)

/-- LBU (R334): a byte, zero-extended. -/
def execLbu (e : Fin 68) (a : IArgs) (s : State) : Host.Outcome State Fault Refusal :=
  .next (s.runLoad e 0x11 1 true a)

/-- LH (R334): 2 bytes, sign-extended. -/
def execLh (e : Fin 68) (a : IArgs) (s : State) : Host.Outcome State Fault Refusal :=
  .next (s.runLoad e 0x12 2 false a)

/-- LHU (R334): 2 bytes, zero-extended. -/
def execLhu (e : Fin 68) (a : IArgs) (s : State) : Host.Outcome State Fault Refusal :=
  .next (s.runLoad e 0x13 2 true a)

/-- LW (R334): 4 bytes, sign-extended. -/
def execLw (e : Fin 68) (a : IArgs) (s : State) : Host.Outcome State Fault Refusal :=
  .next (s.runLoad e 0x14 4 false a)

/-- LWU (R334): 4 bytes, zero-extended. -/
def execLwu (e : Fin 68) (a : IArgs) (s : State) : Host.Outcome State Fault Refusal :=
  .next (s.runLoad e 0x15 4 true a)

/-- LD (R334): 8 bytes. -/
def execLd (e : Fin 68) (a : IArgs) (s : State) : Host.Outcome State Fault Refusal :=
  .next (s.runLoad e 0x16 8 true a)

/-! ### Stores (R334, R350, R363 to R365, R380) -/

/-- A store to the register space, after the store buffer has drained (R365); it waits while a pan engine's command queue
is full (R372). A unit that BIST owns takes nothing. -/
def State.regStore (s : State) (e x v : Nat) : Done :=
  let t := s.drain e
  let o := regOffOf e x
  if !t.regOpen o then .next t false
  else if isCore e then .next (t.coreStore (e - 64) o v) false
  else
    let r := t.panStore e (x - 0x20000) v
    if r.1 then .next r.2 false else .wait r.2

/-- What a store does once its checks have passed: CWIN_FULL is the only exception left (R350). -/
def State.storeTo (s : State) (e x size v : Nat) : Done :=
  match zoneOf (isCore e) x with
  | .prog =>
    match s.cwStore e x size v with
    | none => .raise s 0x0A x
    | some t => .next t false
  | .regs => s.regStore e x v
  | _ => .next (s.bufStore e x size v) false

/-- A store of the low size bytes of g[rd] (R334). -/
def State.runStore (s : State) (e op size : Nat) (a : IArgs) : State :=
  s.runIns e { word := wordI op a.rd a.rs a.imm.toNat } (fun t =>
    let x := t.effAddr e a
    if x % size ≠ 0 then .raise t 7 x
    else if !mayStore (isCore e) (t.eng e).mode (zoneOf (isCore e) x) size x then .raise t 9 x
    else t.storeTo e x size ((t.rg e a.rd).toNat % 256 ^ size))

/-- SB (R334): the low byte of rd stored. -/
def execSb (e : Fin 68) (a : IArgs) (s : State) : Host.Outcome State Fault Refusal :=
  .next (s.runStore e 0x18 1 a)

/-- SH (R334): the low 2 bytes of rd stored. -/
def execSh (e : Fin 68) (a : IArgs) (s : State) : Host.Outcome State Fault Refusal :=
  .next (s.runStore e 0x19 2 a)

/-- SW (R334): the low 4 bytes of rd stored. -/
def execSw (e : Fin 68) (a : IArgs) (s : State) : Host.Outcome State Fault Refusal :=
  .next (s.runStore e 0x1A 4 a)

/-- SD (R334): the low 8 bytes of rd stored. -/
def execSd (e : Fin 68) (a : IArgs) (s : State) : Host.Outcome State Fault Refusal :=
  .next (s.runStore e 0x1B 8 a)

/-! ### AMO (R335) -/

/-- A number of size bytes read as a signed value. -/
def signedOf (size v : Nat) : Int := if v.testBit (8 * size - 1) then (v : Int) - (2 ^ (8 * size) : Nat) else v

/-- AMO fn[3:0] under f, which takes the old value, the low bytes of g[rt] and those of g[rd] (R335). -/
def State.runAmo (s : State) (e fn : Nat) (a : AmoArgs) (f : Nat → Nat → Nat → Nat → Nat) : State :=
  s.runIns e { word := wordR 3 a.rd a.rs a.rt (a.u.toNat * 64 + a.sz.toNat * 16 + fn), legal := a.u == 0 && decide (2 ≤ a.sz.toNat) }
    (fun t =>
      let size := if a.sz = 2 then 4 else 8
      let x := (t.rg e a.rs).toNat
      let z := zoneOf (isCore e) x
      if x % size ≠ 0 then .raise t 7 x
      else if !(z.isSram && sramMay (t.eng e).mode z) then .raise t 9 x
      else
        let t1 := t.drain e
        if t1.isUe e x then .raise t1 0x0B (x / 8 * 8)
        else
          let old := partDw (t1.sramDw e x) x size
          let new := f size old ((t1.rg e a.rt).toNat % 256 ^ size) ((t1.rg e a.rd).toNat % 256 ^ size)
          .next ((t1.sramWrite e x size (new % 256 ^ size)).setG e a.rd (extend false size old)) false)

/-- AMO_ADD (R335): memory receives the sum. -/
def execAmoAdd (e : Fin 68) (a : AmoArgs) (s : State) : Host.Outcome State Fault Refusal :=
  .next (s.runAmo e 0 a (fun _ o v _ => o + v))

/-- AMO_AND (R335): memory receives bitwise and. -/
def execAmoAnd (e : Fin 68) (a : AmoArgs) (s : State) : Host.Outcome State Fault Refusal :=
  .next (s.runAmo e 1 a (fun _ o v _ => o &&& v))

/-- AMO_OR (R335): memory receives bitwise or. -/
def execAmoOr (e : Fin 68) (a : AmoArgs) (s : State) : Host.Outcome State Fault Refusal :=
  .next (s.runAmo e 2 a (fun _ o v _ => o ||| v))

/-- AMO_XOR (R335): memory receives bitwise exclusive or. -/
def execAmoXor (e : Fin 68) (a : AmoArgs) (s : State) : Host.Outcome State Fault Refusal :=
  .next (s.runAmo e 3 a (fun _ o v _ => o ^^^ v))

/-- AMO_SMIN (R335): memory receives the lesser signed value. -/
def execAmoSmin (e : Fin 68) (a : AmoArgs) (s : State) : Host.Outcome State Fault Refusal :=
  .next (s.runAmo e 4 a (fun n o v _ => if signedOf n v < signedOf n o then v else o))

/-- AMO_SMAX (R335): memory receives the greater signed value. -/
def execAmoSmax (e : Fin 68) (a : AmoArgs) (s : State) : Host.Outcome State Fault Refusal :=
  .next (s.runAmo e 5 a (fun n o v _ => if signedOf n o < signedOf n v then v else o))

/-- AMO_UMIN (R335): memory receives the lesser unsigned value. -/
def execAmoUmin (e : Fin 68) (a : AmoArgs) (s : State) : Host.Outcome State Fault Refusal :=
  .next (s.runAmo e 6 a (fun _ o v _ => if v < o then v else o))

/-- AMO_UMAX (R335): memory receives the greater unsigned value. -/
def execAmoUmax (e : Fin 68) (a : AmoArgs) (s : State) : Host.Outcome State Fault Refusal :=
  .next (s.runAmo e 7 a (fun _ o v _ => if o < v then v else o))

/-- AMO_SWAP (R335): memory receives g[rt]. -/
def execAmoSwap (e : Fin 68) (a : AmoArgs) (s : State) : Host.Outcome State Fault Refusal :=
  .next (s.runAmo e 8 a (fun _ _ v _ => v))

/-- AMO_CAS (R335): memory receives g[rt] when the old value equals the low bytes of g[rd]. -/
def execAmoCas (e : Fin 68) (a : AmoArgs) (s : State) : Host.Outcome State Fault Refusal :=
  .next (s.runAmo e 9 a (fun _ o v c => if o = c then v else o))

/-! ### BMOV (R353) -/

/-- The n bytes at x lie within [lo, hi). -/
def inRange (x n lo hi : Nat) : Bool := decide (lo ≤ x) && decide (x + n ≤ hi)

/-- A BMOV may read, or write, n bytes at x in mode m (R353, R364): no byte needs no permission. -/
def bmovSrcOk (m x n : Nat) : Bool :=
  n == 0 || (m == 1 && (inRange x n 0 0x80000 || inRange x n 0x100000 0x300000)) || inRange x n 0x200000 0x300000
def bmovDstOk (m x n : Nat) : Bool := n == 0 || (m == 1 && inRange x n 0x100000 0x300000) || inRange x n 0x200000 0x300000

/-- The byte at x of a core's program store or data SRAM, as the core's own load returns it. -/
def State.srcByte (s : State) (e x : Nat) : Nat :=
  partDw (if zoneOf true x == .prog then s.progDw e x else s.sramDw e x) x 1

/-- A source byte at x lies in an uncorrectable word. -/
def State.srcUe (s : State) (e x : Nat) : Bool :=
  s.isUe e x && !(zoneOf true x == .prog && s.cwCovers e x 1)

/-- The bytes from x to y, below the end of one doubleword, moved from src in state s0 to the data SRAM at dst + i. -/
def State.bmovPart (s : State) (s0 : State) (e src dst x y : Nat) : State :=
  let v := (List.range (y - x)).foldl (fun v i => v + s0.srcByte e (src + (x - dst) + i) * 256 ^ i) 0
  if x < y then s.sramWrite e x (y - x) v else s

/-- n bytes moved from src to dst as if through an intermediate buffer, doubleword by doubleword of the destination. -/
def State.bmove (s : State) (e src dst n : Nat) : State :=
  (List.range (n / 8 + 2)).foldl (fun t k =>
    let b := (dst / 8 + k) * 8
    t.bmovPart s e src dst (Nat.max dst b) (Nat.min (dst + n) (b + 8))) s

/-- BMOV (R353): g[rt] bytes, at most 4,096, from address g[rs] to address g[rd]; Saltmaster cores only. -/
def execBmov (e : Fin 68) (a : BmovArgs) (s : State) : Host.Outcome State Fault Refusal :=
  let n := (s.rg e a.rt).toNat
  .next (s.runIns e
    { word := wordR 5 a.rd a.rs a.rt a.u.toNat, legal := isCore e && a.u == 0 && decide (n ≤ 4096) }
    (fun t =>
      let src := (t.rg e a.rs).toNat
      let dst := (t.rg e a.rd).toNat
      if !bmovSrcOk (t.eng e).mode src n then .raise t 8 src
      else if !bmovDstOk (t.eng e).mode dst n then .raise t 9 dst
      else
        let t1 := t.drain e
        match (List.range n).find? (fun i => t1.srcUe e (src + i)) with
        | some i => .raise t1 0x0B ((src + i) / 8 * 8)
        | none => .next (t1.bmove e src dst n) false))

end Sys2Proof.Machine
end

