-- ==== Sys2Proof/Machine/MuziaFlow.lean ====
section
/-! DEFINITION. Muzia control transfers and hardware loops (R336 to R340), rows BEQ to LOOPI. -/

namespace Sys2Proof.Machine

/-! ### Branches (R336, R337) -/

/-- The target of a transfer at the PC with a word offset. -/
def relTarget (pc off : BitVec 64) : BitVec 64 := pc + 4 + (off <<< 2)

/-- A conditional branch on g[rs] and g[rt]. -/
def State.runBranch (s : State) (e op : Nat) (a : BArgs) (c : BitVec 64 → BitVec 64 → Bool) : State :=
  s.runIns e { word := wordB op a, xfer := true, noSlot := true, cond := true } (fun t =>
    .branch (if c (t.rg e a.rs) (t.rg e a.rt) then some (relTarget (t.eng e).pc (a.off.signExtend 64)) else none) false)

/-- BEQ (R336): taken when equal. -/
def execBeq (e : Fin 68) (a : BArgs) (s : State) : Host.Outcome State Fault Refusal :=
  .next (s.runBranch e 0x20 a (fun x y => x == y))

/-- BNE (R336): taken when not equal. -/
def execBne (e : Fin 68) (a : BArgs) (s : State) : Host.Outcome State Fault Refusal :=
  .next (s.runBranch e 0x21 a (fun x y => x != y))

/-- BLT (R336): taken when less, signed. -/
def execBlt (e : Fin 68) (a : BArgs) (s : State) : Host.Outcome State Fault Refusal :=
  .next (s.runBranch e 0x22 a (fun x y => x.slt y))

/-- BGE (R336): taken when greater or equal, signed. -/
def execBge (e : Fin 68) (a : BArgs) (s : State) : Host.Outcome State Fault Refusal :=
  .next (s.runBranch e 0x23 a (fun x y => !x.slt y))

/-- BLTU (R336): taken when less, unsigned. -/
def execBltu (e : Fin 68) (a : BArgs) (s : State) : Host.Outcome State Fault Refusal :=
  .next (s.runBranch e 0x24 a (fun x y => x.ult y))

/-- BGEU (R336): taken when greater or equal, unsigned. -/
def execBgeu (e : Fin 68) (a : BArgs) (s : State) : Host.Outcome State Fault Refusal :=
  .next (s.runBranch e 0x25 a (fun x y => !x.ult y))

/-- BRA and CALL (R336). -/
def State.runJ (s : State) (e op : Nat) (off : BitVec 26) (link : Bool) : State :=
  s.runIns e { word := wordJ op off, xfer := true, noSlot := true } (fun t =>
    .branch (some (relTarget (t.eng e).pc (off.signExtend 64))) link)

/-- BRA (R336). -/
def execBra (e : Fin 68) (off : BitVec 26) (s : State) : Host.Outcome State Fault Refusal := .next (s.runJ e 0x28 off false)

/-- CALL (R336): the link is written when the delay slot completes. -/
def execCall (e : Fin 68) (off : BitVec 26) (s : State) : Host.Outcome State Fault Refusal := .next (s.runJ e 0x29 off true)

/-- JMP and CALLR (R336): rd is unused, and a target that is not a multiple of 4 raises FETCH_ALIGN. -/
def State.runJr (s : State) (e op : Nat) (a : IArgs) (link : Bool) : State :=
  s.runIns e { word := wordI op a.rd a.rs a.imm.toNat, xfer := true, noSlot := true, legal := a.rd == 0 } (fun t =>
    let x := t.rg e a.rs + a.imm.signExtend 64
    if x.toNat % 4 ≠ 0 then .raise t 4 x.toNat else .branch (some x) link)

/-- JMP (R336). -/
def execJmp (e : Fin 68) (a : IArgs) (s : State) : Host.Outcome State Fault Refusal := .next (s.runJr e 0x2A a false)

/-- CALLR (R336): the link is written when the delay slot completes. -/
def execCallr (e : Fin 68) (a : IArgs) (s : State) : Host.Outcome State Fault Refusal := .next (s.runJr e 0x2B a true)

/-! ### Hardware loops (R339) -/

/-- The set-up of a loop level with a count; a count of zero skips the body (R339). -/
def State.runLoop (s : State) (e op : Nat) (a : LArgs) (unused : Bool) (n : State → BitVec 64) : State :=
  s.runIns e { word := wordL op a, xfer := true, noSlot := true, legal := unused && decide (2 ≤ a.len.toNat) } (fun t =>
    let pc := (t.eng e).pc
    let l : LoopLvl := { ls := pc + 4, le := pc + BitVec.ofNat 64 (4 * a.len.toNat), lc := n t }
    .goto (t.updEng e (fun x => { x with loops := sset x.loops (b2n a.lv) l {} })) (if l.lc = 0 then l.le + 4 else l.ls) false)

/-- LOOP (R339): the count is g[rs][31:0]; imm10 is unused. -/
def execLoop (e : Fin 68) (a : LArgs) (s : State) : Host.Outcome State Fault Refusal :=
  .next (s.runLoop e 0x2C a (a.imm == 0) (fun t => BitVec.ofNat 64 ((t.rg e a.rs).toNat % 2 ^ 32)))

/-- LOOPI (R339): the count is imm10; rs is unused. -/
def execLoopi (e : Fin 68) (a : LArgs) (s : State) : Host.Outcome State Fault Refusal :=
  .next (s.runLoop e 0x2D a (a.rs == 0) (fun _ => a.imm.setWidth 64))

end Sys2Proof.Machine
end

