-- ==== Sys2Proof/Machine/MuziaFp.lean ====
section
/-! DEFINITION. Muzia floating point, on Saltmaster cores only (R355 to R357), rows FADD to FABS. -/

namespace Sys2Proof.Machine

/-- The format that P selects. -/
def fmtOf (p : Bool) : Fmt := if p then fp64 else fp32

/-- The bits of a register that an operation of format f uses (R355). -/
def Fmt.bitsIn (f : Fmt) (v : BitVec 64) : Nat := v.toNat % 2 ^ f.width

/-- A floating-point instruction: its fn[4:0], and whether rt must be zero (R328, R329, R356). -/
def insF (e fn : Nat) (unary : Bool) (a : FArgs) : Ins :=
  { word := wordR 2 a.rd a.rs a.rt (b2n a.p * 1024 + a.u.toNat * 32 + fn)
    legal := isCore e && a.u == 0 && (!unary || a.rt == 0) }

/-- A floating-point operation: f answers the result and the flags from RM and the two registers; the flags are sticky in
FCSR (R355). -/
def State.runF (s : State) (e fn : Nat) (unary : Bool) (a : FArgs) (f : Rnd → BitVec 64 → BitVec 64 → Nat × Nat) : State :=
  s.runIns e (insF e fn unary a) (fun t =>
    let r := f (rndOf (bitsOf (t.eng e).fcsr.toNat 9 8)) (t.rg e a.rs) (t.rg e a.rt)
    .next ((t.updEng e (fun x => { x with fcsr := x.fcsr ||| BitVec.ofNat 64 r.2 })).setG e a.rd (BitVec.ofNat 64 r.1)) false)

/-- An operation of two values of the format. -/
def State.runF2 (s : State) (e fn : Nat) (a : FArgs) (f : Fmt → Rnd → FV → FV → Nat × Nat) : State :=
  let g := fmtOf a.p
  s.runF e fn false a (fun r x y => f g r (g.dec (g.bitsIn x)) (g.dec (g.bitsIn y)))

/-- An operation of two bit patterns of the format. -/
def State.runFb (s : State) (e fn : Nat) (a : FArgs) (f : Fmt → Nat → Nat → Nat × Nat) : State :=
  let g := fmtOf a.p
  s.runF e fn false a (fun _ x y => f g (g.bitsIn x) (g.bitsIn y))

/-- An operation of one register. -/
def State.runF1 (s : State) (e fn : Nat) (a : FArgs) (f : Fmt → Rnd → BitVec 64 → Nat × Nat) : State :=
  s.runF e fn true a (fun r x _ => f (fmtOf a.p) r x)

/-- FADD (R356): sum. -/
def execFadd (e : Fin 68) (a : FArgs) (s : State) : Host.Outcome State Fault Refusal :=
  .next (s.runF2 e 0 a Fmt.addV)

/-- FSUB (R356): difference. -/
def execFsub (e : Fin 68) (a : FArgs) (s : State) : Host.Outcome State Fault Refusal :=
  .next (s.runF2 e 1 a (fun f r x y => f.addV r x y.neg))

/-- FMUL (R356): product. -/
def execFmul (e : Fin 68) (a : FArgs) (s : State) : Host.Outcome State Fault Refusal :=
  .next (s.runF2 e 2 a Fmt.mulV)

/-- FDIV (R356): quotient. -/
def execFdiv (e : Fin 68) (a : FArgs) (s : State) : Host.Outcome State Fault Refusal :=
  .next (s.runF2 e 3 a Fmt.divV)

/-- FSQRT (R356): square root. -/
def execFsqrt (e : Fin 68) (a : FArgs) (s : State) : Host.Outcome State Fault Refusal :=
  .next (s.runF1 e 4 a (fun f r x => f.sqrtV r (f.dec (f.bitsIn x))))

/-- FMIN (R356): minimumNumber. -/
def execFmin (e : Fin 68) (a : FArgs) (s : State) : Host.Outcome State Fault Refusal :=
  .next (s.runFb e 5 a (fun f x y => f.minMax false x y))

/-- FMAX (R356): maximumNumber. -/
def execFmax (e : Fin 68) (a : FArgs) (s : State) : Host.Outcome State Fault Refusal :=
  .next (s.runFb e 6 a (fun f x y => f.minMax true x y))

/-- FEQ (R356): 1 when equal. -/
def execFeq (e : Fin 68) (a : FArgs) (s : State) : Host.Outcome State Fault Refusal :=
  .next (s.runFb e 7 a Fmt.eqB)

/-- FLT (R356): 1 when less. -/
def execFlt (e : Fin 68) (a : FArgs) (s : State) : Host.Outcome State Fault Refusal :=
  .next (s.runFb e 8 a (fun f x y => f.ltB false x y))

/-- FLE (R356): 1 when less or equal. -/
def execFle (e : Fin 68) (a : FArgs) (s : State) : Host.Outcome State Fault Refusal :=
  .next (s.runFb e 9 a (fun f x y => f.ltB true x y))

/-- FCVT.I (R356): to a signed 64-bit integer under RM. -/
def execFcvtI (e : Fin 68) (a : FArgs) (s : State) : Host.Outcome State Fault Refusal :=
  .next (s.runF1 e 10 a (fun f r x => (f.dec (f.bitsIn x)).toInt r))

/-- FCVT.F (R356): from a signed 64-bit integer under RM. -/
def execFcvtF (e : Fin 68) (a : FArgs) (s : State) : Host.Outcome State Fault Refusal :=
  .next (s.runF1 e 11 a (fun f r x => f.ofInt r x.toNat))

/-- FCVT.P (R356): from the other format: to FP64 exactly, or to FP32 under RM. -/
def execFcvtP (e : Fin 68) (a : FArgs) (s : State) : Host.Outcome State Fault Refusal :=
  .next (s.runF1 e 12 a (fun f r x => let g := fmtOf (!a.p); f.conv r (g.dec (g.bitsIn x))))

/-- FNEG (R356): the sign inverted. -/
def execFneg (e : Fin 68) (a : FArgs) (s : State) : Host.Outcome State Fault Refusal :=
  .next (s.runF1 e 13 a (fun f _ x => (f.bitsIn x ^^^ 2 ^ (f.width - 1), 0)))

/-- FABS (R356): the sign cleared. -/
def execFabs (e : Fin 68) (a : FArgs) (s : State) : Host.Outcome State Fault Refusal :=
  .next (s.runF1 e 14 a (fun f _ x => (f.bitsIn x % 2 ^ (f.width - 1), 0)))

end Sys2Proof.Machine
end

