-- ==== Sys2Proof/Machine/MuziaSys.lean ====
section
/-! DEFINITION. Muzia system instructions, the end of a WAIT, and interrupt entry (R325 to R327, R344 to R349, R351, R358,
R360, R362, R374 to R376, R383), rows MFS to INTERRUPT_ENTRY. -/

namespace Sys2Proof.Machine

/-! ### Special registers (R325) -/

/-- The special registers, by what they are. -/
inductive SpReg where
  | status | epc | ecause | eval | estatus | evec | sscr
  | ls (lv : Nat) | le (lv : Nat) | lc (lv : Nat)
  | cursor | fcsr | cycle | mtime | ipend | imask
  deriving DecidableEq, Repr

/-- The special register that a number names on an engine; none for a number that the table does not list, or a register that
the engine lacks. -/
def spOf (core : Bool) (n : Nat) : Option SpReg :=
  match n with
  | 0x00 => some .status | 0x01 => some .epc | 0x02 => some .ecause | 0x03 => some .eval | 0x04 => some .estatus
  | 0x05 => some .evec | 0x06 => some .sscr
  | 0x08 => some (.ls 0) | 0x09 => some (.le 0) | 0x0A => some (.lc 0)
  | 0x0C => some (.ls 1) | 0x0D => some (.le 1) | 0x0E => some (.lc 1)
  | 0x10 => if core then none else some .cursor
  | 0x11 => if core then some .fcsr else none
  | 0x12 => some .cycle | 0x13 => some .mtime | 0x18 => some .ipend | 0x19 => some .imask
  | _ => none

/-- MFS is permitted in mode m: 0 user, 1 privileged, 2 routine. -/
def SpReg.mayRead (r : SpReg) (m : Nat) : Bool :=
  match r with
  | .sscr => m == 1
  | .ls _ | .le _ | .lc _ | .fcsr | .cycle | .mtime => true
  | _ => m != 0

/-- MTS is never permitted. -/
def SpReg.readOnly (r : SpReg) : Bool := r == .cycle || r == .mtime || r == .ipend

/-- MTS is permitted in mode m. -/
def SpReg.mayWrite (r : SpReg) (m : Nat) : Bool :=
  match r with
  | .ls _ | .le _ | .lc _ | .fcsr => true
  | .cursor => m != 0
  | _ => m == 1

/-- The value of a special register. -/
def State.spGet (s : State) (e : Nat) (r : SpReg) : BitVec 64 :=
  let x := s.eng e
  match r with
  | .status => x.status | .epc => x.epc | .ecause => x.ecause | .eval => x.eval | .estatus => x.estatus
  | .evec => x.evec | .sscr => x.sscr
  | .ls lv => (x.loop lv).ls | .le lv => (x.loop lv).le | .lc lv => (x.loop lv).lc
  | .cursor => x.cursor | .fcsr => x.fcsr
  | .cycle => BitVec.ofNat 64 (s.engCycles e - x.cycleBase)
  | .mtime => BitVec.ofNat 64 s.now
  | .ipend => BitVec.ofNat 64 (s.ipendOf e)
  | .imask => x.imask

/-- STATUS written by MTS: EBD is kept, and DET is a core's (R326). -/
def statusWrite (core : Bool) (old v : BitVec 64) : BitVec 64 := (old &&& 0x20) ||| (v &&& (if core then 0x1F else 0x17))

/-- A special register written by MTS. -/
def Engine.spSet (x : Engine) (core : Bool) (r : SpReg) (v : BitVec 64) : Engine :=
  let loop := fun (lv : Nat) (f : LoopLvl → LoopLvl) => { x with loops := sset x.loops lv (f (x.loop lv)) {} }
  match r with
  | .status => { x with status := statusWrite core x.status v }
  | .epc => { x with epc := v }
  | .ecause => { x with ecause := v &&& 0x80000000000000FF }
  | .eval => { x with eval := v }
  | .estatus => { x with estatus := v }
  | .evec => { x with evec := v &&& ~~~0x3FF }
  | .sscr => { x with sscr := v }
  | .ls lv => loop lv (fun l => { l with ls := v &&& ~~~3 })
  | .le lv => loop lv (fun l => { l with le := v &&& ~~~3 })
  | .lc lv => loop lv (fun l => { l with lc := v &&& 0xFFFFFFFF })
  | .cursor => { x with cursor := v }
  | .fcsr => { x with fcsr := v &&& 0x31F }
  | .imask => { x with imask := v &&& 0xFFFFFFFF }
  | .cycle | .mtime | .ipend => x

/-- A value of STATUS.MODE that the engine never holds (R326, R344). -/
def badMode (core : Bool) (m : Nat) : Bool := m == 3 || (m == 2 && core)

/-- MFS (R325, R344): rd receives special register SR. -/
def execMfs (e : Fin 68) (a : SArgs) (s : State) : Host.Outcome State Fault Refusal :=
  let sp := spOf (isCore e) a.sr.toNat
  let i : Ins := { word := wordS a 1, legal := sp.isSome && a.rs == 0 }
  .next (s.runIns e i (fun t =>
    match sp with
    | none => .raise t 1 i.word
    | some r => t.priv (r.mayRead (t.eng e).mode) i (.next (t.setG e a.rd (t.spGet e r)) false)))

/-- MTS (R325, R326, R344, R345): special register SR receives g[rs]. -/
def execMts (e : Fin 68) (a : SArgs) (s : State) : Host.Outcome State Fault Refusal :=
  let sp := spOf (isCore e) a.sr.toNat
  let v := s.rg e a.rs
  let st := sp == some .status
  let i : Ins :=
    { word := wordS a 2, noSlot := st
      legal := a.rd == 0 && !(st && badMode (isCore e) (v.toNat % 4)) && (match sp with | some r => !r.readOnly | none => false) }
  .next (s.runIns e i (fun t =>
    match sp with
    | none => .raise t 1 i.word
    | some r => t.priv (r.mayWrite (t.eng e).mode) i (.next (t.updEng e (fun x => x.spSet (isCore e) r v)) st)))

/-! ### Mode changes (R327, R344 to R346) -/

/-- STATUS.MODE replaced. -/
def Engine.setMode (x : Engine) (m : Nat) : Engine := { x with status := BitVec.ofNat 64 (setBits x.status.toNat 1 0 m) }

/-- MODE (R344, R345): the mode in SR[1:0] from the next instruction on. -/
def execMode (e : Fin 68) (a : SArgs) (s : State) : Host.Outcome State Fault Refusal :=
  let m := a.sr.toNat % 4
  let i : Ins :=
    { word := wordS a 3, noSlot := true
      legal := a.rd == 0 && a.rs == 0 && decide (a.sr.toNat < 4) && !badMode (isCore e) m }
  .next (s.runIns e i (fun t =>
    let from_ := (t.eng e).mode
    t.priv (from_ == 1 || (from_ == 2 && m != 1)) i (.next (t.updEng e (fun x => x.setMode m)) true)))

/-- ESTATUS as RESUME copies it into STATUS: the fields that STATUS has on the engine (R326, R346). -/
def statusOfSaved (core : Bool) (v : BitVec 64) : BitVec 64 := v &&& (if core then 0x3F else 0x37)

/-- The mode that a core, or a pan engine, takes from a free value where ESTATUS.MODE holds one that it never holds. -/
def freeMode (core : Bool) (f : BitVec 64) : Nat := if core then f.toNat % 2 else f.toNat % 3

/-- RESUME (R346): the PC from EPC and STATUS from ESTATUS; the instruction at EPC runs before any interrupt is taken. -/
def execResume (e : Fin 68) (a : SArgs) (s : State) : Host.Outcome State Fault Refusal :=
  let i : Ins :=
    { word := wordS a 4, xfer := true, noSlot := true, legal := a.rd == 0 && a.rs == 0 && a.sr == 0 }
  .next (s.runIns e i (fun t =>
    let x := t.eng e
    let t1 := t.updEng e (fun x => { x with status := statusOfSaved (isCore e) x.estatus })
    let t2 := if badMode (isCore e) (x.estatus.toNat % 4) then
        (let f := t1.free; f.2.updEng e (fun x => x.setMode (freeMode (isCore e) f.1)))
      else t1
    t.priv (x.mode == 1) i (.goto t2 (x.epc &&& ~~~3) true)))

/-- TRAP and DEBUG (R344, R346): the exception with SR as its value, permitted in every mode. -/
def State.runTrap (s : State) (e sub code : Nat) (a : SArgs) : State :=
  s.runIns e { word := wordS a sub, xfer := true, noSlot := true, legal := a.rd == 0 && a.rs == 0 } (fun t =>
    .raise t code a.sr.toNat)

/-- TRAP (R344). -/
def execTrap (e : Fin 68) (a : SArgs) (s : State) : Host.Outcome State Fault Refusal := .next (s.runTrap e 5 0x0C a)

/-- DEBUG (R344). -/
def execDebug (e : Fin 68) (a : SArgs) (s : State) : Host.Outcome State Fault Refusal := .next (s.runTrap e 6 0x0D a)

/-! ### Fences, IFLUSH, STEP, WAIT (R347 to R349, R351, R374 to R376, R380) -/

/-- IFLUSH (R351): the code-write window drains; fetch state is no part of this model. -/
def execIflush (e : Fin 68) (a : SArgs) (s : State) : Host.Outcome State Fault Refusal :=
  let i : Ins := { word := wordS a 7, noSlot := true, legal := a.rd == 0 && a.rs == 0 && a.sr == 0 }
  .next (s.runIns e i (fun t => t.priv ((t.eng e).mode != 0) i (.next (t.drainCode e) false)))

/-- A FENCE of one kind; rd and rs are unused. -/
def State.runFence (s : State) (e sr : Nat) (rd rs : BitVec 5) (f : State → State) : State :=
  s.runIns e { word := wordS { rd := rd, rs := rs, sr := BitVec.ofNat 8 sr } 8, legal := rd == 0 && rs == 0 } (fun t =>
    .next (f t) false)

/-- FENCE (R347, R380): the store buffer drains. -/
def execFenceInstruction (e : Fin 68) (rd rs : BitVec 5) (s : State) : Host.Outcome State Fault Refusal :=
  .next (s.runFence e 0 rd rs (fun t => t.drain e))

/-- FENCE.DEVICE (R347, R380): the store buffer drains; every earlier register access has taken effect already. -/
def execFenceDevice (e : Fin 68) (rd rs : BitVec 5) (s : State) : Host.Outcome State Fault Refusal :=
  .next (s.runFence e 1 rd rs (fun t => t.drain e))

/-- FENCE.CODE (R347): fetch state alone, which is no part of this model; the code-write window stays. -/
def execFenceCode (e : Fin 68) (rd rs : BitVec 5) (s : State) : Host.Outcome State Fault Refusal :=
  .next (s.runFence e 2 rd rs (fun t => t))

/-- STEP (R348, R374, R376): a step of a micro-routine closes, on a pan engine in routine mode; with W, CURSOR receives
g[rs]. -/
def execStep (e : Fin 68) (a : SArgs) (s : State) : Host.Outcome State Fault Refusal :=
  let w := a.sr.toNat.testBit 0
  let i : Ins :=
    { word := wordS a 9, noSlot := true, step := true, legal := !isCore e && a.rd == 0 && decide (a.sr.toNat < 2) }
  .next (s.runIns e i (fun t =>
    let v := t.rg e a.rs
    let t1 := (t.drain e).updEng e (fun x => if w then { x with cursor := v } else x)
    t.priv ((t.eng e).mode == 2) i (.next ((t1.updPan e (fun x => { x with slCount := 0 })).engCount e 0 0) false)))

/-- IPEND and IMASK have a set bit in common (R349, R362). -/
def State.irq (s : State) (e : Nat) : Bool := s.ipendOf e &&& (s.eng e).imask.toNat != 0

/-- WAIT (R349): the engine stops fetching until an interrupt source is pending and enabled. -/
def execWait (e : Fin 68) (a : SArgs) (s : State) : Host.Outcome State Fault Refusal :=
  let i : Ins := { word := wordS a 0x0A, noSlot := true, legal := a.rd == 0 && a.rs == 0 && a.sr == 0 }
  .next (s.runIns e i (fun t =>
    t.priv ((t.eng e).mode == 1) i (.next ((t.drain e).updEng e (fun x => { x with waiting := !t.irq e })) false)))

/-- WAIT_WAKE (R349): a source has become pending and enabled, and execution continues after WAIT. -/
def execWaitWake (e : Fin 68) (s : State) : Host.Outcome State Fault Refusal :=
  .next (if s.alive && (s.eng e).runs && (s.eng e).waiting && s.irq e then s.updEng e (fun x => { x with waiting := false }) else s)

/-! ### Interrupt entry (R360, R362, R383) -/

/-- An engine may take an interrupt at this boundary (R362, R375). -/
def State.irqOpen (s : State) (e : Nat) : Bool :=
  let x := s.eng e
  s.alive && x.runs && x.ie && !x.hact && s.irq e && x.slot.isNone && !x.hold && (x.mode != 2 || x.stepEnd)

/-- The lowest-numbered pending and enabled source. -/
def State.irqSource (s : State) (e : Nat) : Nat :=
  ((List.range 32).find? (fun n => (s.ipendOf e).testBit n && (s.eng e).imask.toNat.testBit n)).getD 0

/-- Source n is an edge source of the engine (R383). -/
def edgeSource (core : Bool) (n : Nat) : Bool := core && (n == 1 || n == 4 || n == 5)

/-- INTERRUPT_ENTRY (R360, R362, R380, R383): the engine enters its handler for the lowest source; an edge source is pending no
longer. -/
def execInterruptEntry (e : Fin 68) (s : State) : Host.Outcome State Fault Refusal :=
  .next (if s.irqOpen e then
      let n := s.irqSource e
      ((s.drain e).updEng e (fun x =>
        { x.enter (2 ^ 63 + n) 0 (0x200 + 0x10 * n) with
          ipend := if edgeSource (isCore e) n then setBits x.ipend n n 0 else x.ipend })).engCount e 1 1
    else s)

end Sys2Proof.Machine
end

