-- ==== Sys2Proof/Machine/Power.lean ====
section
/-! DEFINITION. Power, the reset levels and their pins, a rail out of its range, and the JTAG TAP (R22, R426, R437, R438, R440,
R441, R495, R506, R512), rows POWER_ON to DEV_RESET_N_RELEASE, RAIL_OUT_OF_RANGE and TAP_INSTRUCTION. -/

namespace Sys2Proof.Config

/-- A free state of the machine, one for each index, as the head of a list: what a rail out of its range leaves undefined is
taken from it (log entry 24). -/
opaque freeState : Nat → List Machine.State

end Sys2Proof.Config

namespace Sys2Proof.Machine

/-! ### What a reset clears and keeps (R437, R495) -/

/-- The stored register at offset o is kept across device reset: a key register, an erasure, or a bucket (R495). -/
def keptOffset (o : Nat) : Bool :=
  (decide (0x50000 ≤ o) && decide (o < 0x50020)) ||
  (decide (0x200000 ≤ o) && decide (o < 0x300000) &&
    (o % 0x20000 == 0xB08 || (decide (0xB40 ≤ o % 0x20000) && decide (o % 0x20000 < 0xB40 + 36 * 8))))

/-- A table with only the kept registers. -/
def keptOnly {α : Type} (l : Sparse α) : Sparse α := l.filter (fun e => keptOffset e.1)

/-- A bed as a device reset leaves it: EXHAUSTED is kept, and which channels have been reported (R229, R437). -/
def Bed.cleared (x : Bed) : Bed := { exhausted := x.exhausted, exhRaised := x.exhRaised }

/-- The machine as a device reset leaves it, with the mode given: the kept state of R437 and R495, the straps, and everything else
at its reset value. -/
def State.cleared (s : State) (m : Mode) : State :=
  forUpTo 8 (fun b t => t.setBed b (s.bed b).cleared)
    { State.reset with
      pending := s.pending
      freeIx := s.freeIx
      mt := { s.mt with applyPend := none, applyNow := false, applyRefused := false }
      hv := { State.reset.hv with lastPer := s.now, lastDump := s.now }
      regs := keptOnly s.regs
      parity := keptOnly s.parity
      err := { seq := s.err.seq, fatal := s.err.fatal, pfSeq := s.err.pfSeq }
      ru := { polSeq := s.ru.polSeq }
      img := { keyWritten := s.img.keyWritten, keySet := s.img.keySet, counter := s.img.counter, lastGen := s.img.lastGen,
               genExh := s.img.genExh, cntExh := s.img.cntExh, retireBed := s.img.retireBed, retireMp := s.img.retireMp }
      mode := { cur := m, target := m, head := s.mode.head, devid := s.mode.devid, thermTrip := s.mode.thermTrip,
                inReset := s.mode.inReset, railBad := s.mode.railBad, pwrLow := s.mode.pwrLow, left := s.mode.left, tap := s.mode.tap } }

/-- Every Knuckle link that is DISABLED begins boot training (R441). -/
def State.bootLinks (s : State) : State :=
  forUpTo 8 (fun l t =>
    if (t.kn l).boot && (t.kn l).link.st == .disabled then t.updKn l (fun k => { k with link := k.link.detect t.now (t.lkEq (.kl (Fin.ofNat 8 l))) })
    else t) s

/-- The mode m entered from mode left, with its MODE_CHANGE record (R426). -/
def State.enterFrom (s : State) (left m : Mode) : State :=
  ({ s with mode := { s.mode with cur := left } }).modeRec m

/-- BLANK entered at the end of a reset that began in mode left (R426, R440, R441). -/
def State.toBlank (s : State) (left : Mode) : State := (s.enterFrom left .blank).bootLinks

/-- The straps sampled (R22). -/
def State.sample (s : State) (head : Bool) (id : BitVec 6) : State :=
  { s with mode := { s.mode with head := head, devid := id.toNat } }

/-- RAMP entered from mode left; nothing leaves through the endpoint, which is not up (R424, R458). -/
def State.toRamp (s : State) (left : Mode) : State :=
  let t := s.enterFrom left .ramp
  { t with fab := { t.fab with msix := [] } }

/-! ### A rail out of its range (R506) -/

/-- Traffic, records and cache contents replaced by free values (log entry 24). -/
def State.scramble (s : State) : State :=
  let f := (Config.freeState s.freeIx).headD State.reset
  { s with
    freeIx := s.freeIx + 1, pans := f.pans, beds := f.beds, hinges := f.hinges, knuckles := f.knuckles
    memports := f.memports, fab := f.fab, err := f.err, hv := f.hv
    ru := { s.ru with vlog := f.ru.vlog, pol := f.ru.pol } }

/-- While a rail is out of its range no reset gives a defined state: the free values are drawn again (R506; log entry 24). -/
def State.railFree (s : State) : State := if s.mode.railBad then s.scramble else s

/-! ### A device reset -/

/-- The effects of a device reset, with the mode given: everything but the kept state is cleared, and an override that was in force
ends with its record (R437, R445). -/
def State.wiped (s : State) (m : Mode) : State :=
  if s.sl.override_ then (s.cleared m).logD uSluice 0 0x0708 0 else s.cleared m

/-- The device-reset command takes effect (R438): the straps stand as sampled. -/
def State.devReset (s : State) : State := ((s.wiped .blank).toBlank s.mode.cur).railFree

/-! ### The commands -/

/-- POWER_ON (R426, R437): power-on reset clears everything, and the device enters RAMP. -/
def execPowerOn (s : State) : Host.Outcome State Fault Refusal :=
  .next (if s.mode.cur == .off then 
      ({ State.reset with pending := s.pending, freeIx := s.freeIx, mode := { State.reset.mode with pwrLow := true } }).toRamp .off
    else s)

/-- POWER_OFF (R424, R426): no register is powered, and nothing is kept. -/
def execPowerOff (s : State) : Host.Outcome State Fault Refusal :=
  .next { State.reset with pending := s.pending, freeIx := s.freeIx, mode := { cur := .off, target := .off } }

/-- PWR_GOOD low noted (R426, R506). -/
def State.powerLow (s : State) : State := { s with mode := { s.mode with pwrLow := true } }

/-- PWR_GOOD has risen and BLANK is entered: a device that a rail had left undefined is defined again, unless PWR_GOOD had not been
low since (R506). -/
def State.powerGood (s : State) : State :=
  let t := if s.mode.railBad && s.mode.pwrLow then ({ s with mode := { s.mode with railBad := false } }).cleared .ramp else s
  { t with mode := { t.mode with pwrLow := false } }

/-- RAMP_TO_BLANK (R22, R426, R440): PWR_GOOD and DEV_RESET_N have both been high for 1 ms. -/
def execRampToBlank (headSel : Bool) (id : BitVec 6) (s : State) : Host.Outcome State Fault Refusal :=
  .next (if s.mode.cur == .ramp && !s.mode.inReset then ((s.powerGood.sample headSel id).toBlank .ramp).railFree else s)

/-- PWR_GOOD_LOW (R426, R437): a device reset, and RAMP; in RAMP only the level is noted. -/
def execPwrGoodLow (s : State) : Host.Outcome State Fault Refusal :=
  .next (if s.mode.cur == .off then s
    else if s.mode.cur == .ramp then s.powerLow
    else ((s.wiped .ramp).toRamp (if s.mode.inReset then s.mode.left else s.mode.cur)).powerLow.railFree)

/-- DEV_RESET_N is low during a device reset that began in mode left (R438). -/
def State.inDevReset (s : State) (left : Mode) : State := { s with mode := { s.mode with inReset := true, left := left } }

/-- DEV_RESET_N_ASSERT (R438): from BLANK onward a device reset starts; the device stays in it while the pin is low. In RAMP
the pin is held low. -/
def execDevResetNAssert (s : State) : Host.Outcome State Fault Refusal :=
  .next (if s.mode.cur == .off || s.mode.inReset then s
    else if s.mode.cur == .ramp then { s with mode := { s.mode with inReset := true } }
    else ((s.wiped .blank).inDevReset s.mode.cur).railFree)

/-- DEV_RESET_N_RELEASE (R22, R438): the edge samples the straps and ends the reset; from a device reset the device enters
BLANK. -/
def execDevResetNRelease (headSel : Bool) (id : BitVec 6) (s : State) : Host.Outcome State Fault Refusal :=
  .next (if !s.mode.inReset then s
    else
      let s1 := ({ s with mode := { s.mode with inReset := false } }).sample headSel id
      if s.mode.cur == .ramp then s1 else s1.toBlank s.mode.left)

/-- RAIL_OUT_OF_RANGE (R506): traffic, records and cache contents are undefined until the next rise of PWR_GOOD,
which is high now. -/
def execRailOutOfRange (s : State) : Host.Outcome State Fault Refusal :=
  .next (if s.mode.cur == .off then s
    else ({ s with mode := { s.mode with railBad := true, pwrLow := false } }).scramble)

/-- The instruction that the TAP decodes: the boundary-scan tests take effect only while DEV_RESET_N is low (R512). -/
def State.tapDecoded (s : State) : TapIns :=
  match s.mode.tap with
  | .extest | .extestPulse | .extestTrain => if s.mode.inReset then s.mode.tap else .bypass
  | i => i

/-- TAP_INSTRUCTION (R512): the TAP holds an instruction; nothing else of the device changes. -/
def execTapInstruction (i : TapIns) (s : State) : Host.Outcome State Fault Refusal :=
  .next (if s.mode.cur == .off then s else { s with mode := { s.mode with tap := i } })

end Sys2Proof.Machine
end

