-- ==== Sys2Proof/Machine/Dispatch.lean ====
section
/-! DEFINITION. Which meaning each command has: one arm per constructor. -/

namespace Sys2Proof.Machine

/-- The effect of a command on everything but the queue. -/
def exec (i : Instr) (s : State) : Host.Outcome State Fault Refusal :=
  match i with
  | .powerOn => Sys2Proof.Machine.execPowerOn s
  | .powerOff => Sys2Proof.Machine.execPowerOff s
  | .rampToBlank headSel id => Sys2Proof.Machine.execRampToBlank headSel id s
  | .pwrGoodLow => Sys2Proof.Machine.execPwrGoodLow s
  | .devResetNAssert => Sys2Proof.Machine.execDevResetNAssert s
  | .devResetNRelease headSel id => Sys2Proof.Machine.execDevResetNRelease headSel id s
  | .hingeRequestReceived port r => Sys2Proof.Machine.execHingeRequestReceived port r s
  | .agentResponseReceived port m => Sys2Proof.Machine.execAgentResponseReceived port m s
  | .fence port src tag => Sys2Proof.Machine.execFence port src tag s
  | .fenceDone port src => Sys2Proof.Machine.execFenceDone port src s
  | .rdshared p q => Sys2Proof.Machine.execRdshared p q s
  | .rdown p q => Sys2Proof.Machine.execRdown p q s
  | .upgrade p q => Sys2Proof.Machine.execUpgrade p q s
  | .rdcurrent p q => Sys2Proof.Machine.execRdcurrent p q s
  | .wrinvfull p q => Sys2Proof.Machine.execWrinvfull p q s
  | .wrinvpart p q => Sys2Proof.Machine.execWrinvpart p q s
  | .wrbackm p q => Sys2Proof.Machine.execWrbackm p q s
  | .atomich p q => Sys2Proof.Machine.execAtomich p q s
  | .atomicm p q => Sys2Proof.Machine.execAtomicm p q s
  | .waitChainStart p psi ltag => Sys2Proof.Machine.execWaitChainStart p psi ltag s
  | .allocRetry p trk => Sys2Proof.Machine.execAllocRetry p trk s
  | .mdcMissResume p trk => Sys2Proof.Machine.execMdcMissResume p trk s
  | .fillResume p trk => Sys2Proof.Machine.execFillResume p trk s
  | .stackDataStaged p trk err => Sys2Proof.Machine.execStackDataStaged p trk err s
  | .mdwqWrite p ix => Sys2Proof.Machine.execMdwqWrite p ix s
  | .wbSend p => Sys2Proof.Machine.execWbSend p s
  | .memdata p trk line psn st => Sys2Proof.Machine.execMemdata p trk line psn st s
  | .cmp p psi ltag st => Sys2Proof.Machine.execCmp p psi ltag st s
  | .atomicResult p trk line st => Sys2Proof.Machine.execAtomicResult p trk line st s
  | .ack dst q => Sys2Proof.Machine.execAck dst q s
  | .notPresent dst q => Sys2Proof.Machine.execNotPresent dst q s
  | .ackdata dst q => Sys2Proof.Machine.execAckdata dst q s
  | .grantSent port dst tag => Sys2Proof.Machine.execGrantSent port dst tag s
  | .dmark p agent tag lost => Sys2Proof.Machine.execDmark p agent tag lost s
  | .holdWindowEnd p psi ltag => Sys2Proof.Machine.execHoldWindowEnd p psi ltag s
  | .wdone agent tag => Sys2Proof.Machine.execWdone agent tag s
  | .snoopTimeout dst ix tgt => Sys2Proof.Machine.execSnoopTimeout dst ix tgt s
  | .tmo agent => Sys2Proof.Machine.execTmo agent s
  | .gone p agent => Sys2Proof.Machine.execGone p agent s
  | .cleaned dev agent => Sys2Proof.Machine.execCleaned dev agent s
  | .ungone p agent => Sys2Proof.Machine.execUngone p agent s
  | .cleanupTmo agent dev => Sys2Proof.Machine.execCleanupTmo agent dev s
  | .pfault sdev agent cause time unit addr => Sys2Proof.Machine.execPfault sdev agent cause time unit addr s
  | .logFull => Sys2Proof.Machine.execLogFull s
  | .combIdleWriteback p psi ltag => Sys2Proof.Machine.execCombIdleWriteback p psi ltag s
  | .panAtomCtl p v => Sys2Proof.Machine.execPanAtomCtl p v s
  | .ancientBitSet => Sys2Proof.Machine.execAncientBitSet s
  | .arbGrace b n port queue cells => Sys2Proof.Machine.execArbGrace b n port queue cells s
  | .arbCutoff b n port => Sys2Proof.Machine.execArbCutoff b n port s
  | .arbPrivLimit b n r => Sys2Proof.Machine.execArbPrivLimit b n r s
  | .arbCommitNow b => Sys2Proof.Machine.execArbCommitNow b s
  | .arbCommitTimed b => Sys2Proof.Machine.execArbCommitTimed b s
  | .arbCommitInstant b => Sys2Proof.Machine.execArbCommitInstant b s
  | .bucketLeak b => Sys2Proof.Machine.execBucketLeak b s
  | .bedErase b v => Sys2Proof.Machine.execBedErase b v s
  | .refresh b ch => Sys2Proof.Machine.execRefresh b ch s
  | .rakeRowVisit b ch errs written => Sys2Proof.Machine.execRakeRowVisit b ch errs written s
  | .rakeStartNow b => Sys2Proof.Machine.execRakeStartNow b s
  | .rakeStartTimed b => Sys2Proof.Machine.execRakeStartTimed b s
  | .rakeStartInstant b => Sys2Proof.Machine.execRakeStartInstant b s
  | .writeEnc b v => Sys2Proof.Machine.execWriteEnc b v s
  | .writeData b v => Sys2Proof.Machine.execWriteData b v s
  | .writeCheck b v => Sys2Proof.Machine.execWriteCheck b v s
  | .writeRaw b v => Sys2Proof.Machine.execWriteRaw b v s
  | .read b v => Sys2Proof.Machine.execRead b v s
  | .chkOpDone b => Sys2Proof.Machine.execChkOpDone b s
  | .sramSweep unit id word dbl sel => Sys2Proof.Machine.execSramSweep unit id word dbl sel s
  | .laneBlock l blks skew => Sys2Proof.Machine.execLaneBlock l blks skew s
  | .codeword l sync errs seqd => Sys2Proof.Machine.execCodeword l sync errs seqd s
  | .linkStateTimeout l => Sys2Proof.Machine.execLinkStateTimeout l s
  | .configPauseEnd l => Sys2Proof.Machine.execConfigPauseEnd l s
  | .closedSignalDetect l => Sys2Proof.Machine.execClosedSignalDetect l s
  | .cfg l flit => Sys2Proof.Machine.execCfg l flit s
  | .cfgAck l flit => Sys2Proof.Machine.execCfgAck l flit s
  | .msg l flit pay => Sys2Proof.Machine.execMsg l flit pay s
  | .idle l flit => Sys2Proof.Machine.execIdle l flit s
  | .replayReq l flit => Sys2Proof.Machine.execReplayReq l flit s
  | .replayReqRepeat l => Sys2Proof.Machine.execReplayReqRepeat l s
  | .unusedCtl l flit => Sys2Proof.Machine.execUnusedCtl l flit s
  | .retrainReturn l => Sys2Proof.Machine.execRetrainReturn l s
  | .retrainLimit l => Sys2Proof.Machine.execRetrainLimit l s
  | .portReset l flit => Sys2Proof.Machine.execPortReset l flit s
  | .portResetDetect l => Sys2Proof.Machine.execPortResetDetect l s
  | .linkCtlReset r => Sys2Proof.Machine.execLinkCtlReset r s
  | .linkCtlClose r => Sys2Proof.Machine.execLinkCtlClose r s
  | .linkCtlOpen r => Sys2Proof.Machine.execLinkCtlOpen r s
  | .closeReq l flit => Sys2Proof.Machine.execCloseReq l flit s
  | .closeReady l flit => Sys2Proof.Machine.execCloseReady l flit s
  | .closeDone l flit => Sys2Proof.Machine.execCloseDone l flit s
  | .closeTmo r => Sys2Proof.Machine.execCloseTmo r s
  | .electricalIdleEntry r => Sys2Proof.Machine.execElectricalIdleEntry r s
  | .knuckleMessage l m => Sys2Proof.Machine.execKnuckleMessage l m s
  | .groupSnoop sdev excl addr htag => Sys2Proof.Machine.execGroupSnoop sdev excl addr htag s
  | .gack sdev htag => Sys2Proof.Machine.execGack sdev htag s
  | .routeCommitNow => Sys2Proof.Machine.execRouteCommitNow s
  | .routeCommitTimed => Sys2Proof.Machine.execRouteCommitTimed s
  | .routeCommitInstant => Sys2Proof.Machine.execRouteCommitInstant s
  | .previousTableExpiry => Sys2Proof.Machine.execPreviousTableExpiry s
  | .knMarkTmo p trk => Sys2Proof.Machine.execKnMarkTmo p trk s
  | .knReqTmo port src tag => Sys2Proof.Machine.execKnReqTmo port src tag s
  | .postedRequestTmo port src tag => Sys2Proof.Machine.execPostedRequestTmo port src tag s
  | .hostBar2Access dev off wr w32 v => Sys2Proof.Machine.execHostBar2Access dev off wr w32 v s
  | .mrd => Sys2Proof.Machine.execMrd s
  | .mwr => Sys2Proof.Machine.execMwr s
  | .mcpl => Sys2Proof.Machine.execMcpl s
  | .mcplTimeout mtag => Sys2Proof.Machine.execMcplTimeout mtag s
  | .mvec => Sys2Proof.Machine.execMvec s
  | .unusedMgmtOpcode => Sys2Proof.Machine.execUnusedMgmtOpcode s
  | .mpEnumeration m half speed width dev => Sys2Proof.Machine.execMpEnumeration m half speed width dev s
  | .mpLinkDown m half => Sys2Proof.Machine.execMpLinkDown m half s
  | .mpCompletionTimeout m ix => Sys2Proof.Machine.execMpCompletionTimeout m ix s
  | .mpLinkReset m => Sys2Proof.Machine.execMpLinkReset m s
  | .viralIndication m half => Sys2Proof.Machine.execViralIndication m half s
  | .mpEvent m half recs => Sys2Proof.Machine.execMpEvent m half recs s
  | .mpIoAddr m v => Sys2Proof.Machine.execMpIoAddr m v s
  | .mpIoDone m status data => Sys2Proof.Machine.execMpIoDone m status data s
  | .addR e a => Sys2Proof.Machine.execAddR e a s
  | .subR e a => Sys2Proof.Machine.execSubR e a s
  | .andR e a => Sys2Proof.Machine.execAndR e a s
  | .orR e a => Sys2Proof.Machine.execOrR e a s
  | .xorR e a => Sys2Proof.Machine.execXorR e a s
  | .andn e a => Sys2Proof.Machine.execAndn e a s
  | .sll e a => Sys2Proof.Machine.execSll e a s
  | .srl e a => Sys2Proof.Machine.execSrl e a s
  | .sra e a => Sys2Proof.Machine.execSra e a s
  | .clt e a => Sys2Proof.Machine.execClt e a s
  | .cltu e a => Sys2Proof.Machine.execCltu e a s
  | .min e a => Sys2Proof.Machine.execMin e a s
  | .max e a => Sys2Proof.Machine.execMax e a s
  | .minu e a => Sys2Proof.Machine.execMinu e a s
  | .maxu e a => Sys2Proof.Machine.execMaxu e a s
  | .clz e a => Sys2Proof.Machine.execClz e a s
  | .popc e a => Sys2Proof.Machine.execPopc e a s
  | .bswap e a => Sys2Proof.Machine.execBswap e a s
  | .mul e a => Sys2Proof.Machine.execMul e a s
  | .mulh e a => Sys2Proof.Machine.execMulh e a s
  | .mulhu e a => Sys2Proof.Machine.execMulhu e a s
  | .div e a => Sys2Proof.Machine.execDiv e a s
  | .divu e a => Sys2Proof.Machine.execDivu e a s
  | .rem e a => Sys2Proof.Machine.execRem e a s
  | .remu e a => Sys2Proof.Machine.execRemu e a s
  | .addi e a => Sys2Proof.Machine.execAddi e a s
  | .andi e a => Sys2Proof.Machine.execAndi e a s
  | .ori e a => Sys2Proof.Machine.execOri e a s
  | .xori e a => Sys2Proof.Machine.execXori e a s
  | .clti e a => Sys2Proof.Machine.execClti e a s
  | .cltiu e a => Sys2Proof.Machine.execCltiu e a s
  | .addhi e a => Sys2Proof.Machine.execAddhi e a s
  | .slli e a => Sys2Proof.Machine.execSlli e a s
  | .srli e a => Sys2Proof.Machine.execSrli e a s
  | .srai e a => Sys2Proof.Machine.execSrai e a s
  | .lb e a => Sys2Proof.Machine.execLb e a s
  | .lbu e a => Sys2Proof.Machine.execLbu e a s
  | .lh e a => Sys2Proof.Machine.execLh e a s
  | .lhu e a => Sys2Proof.Machine.execLhu e a s
  | .lw e a => Sys2Proof.Machine.execLw e a s
  | .lwu e a => Sys2Proof.Machine.execLwu e a s
  | .ld e a => Sys2Proof.Machine.execLd e a s
  | .sb e a => Sys2Proof.Machine.execSb e a s
  | .sh e a => Sys2Proof.Machine.execSh e a s
  | .sw e a => Sys2Proof.Machine.execSw e a s
  | .sd e a => Sys2Proof.Machine.execSd e a s
  | .amoAdd e a => Sys2Proof.Machine.execAmoAdd e a s
  | .amoAnd e a => Sys2Proof.Machine.execAmoAnd e a s
  | .amoOr e a => Sys2Proof.Machine.execAmoOr e a s
  | .amoXor e a => Sys2Proof.Machine.execAmoXor e a s
  | .amoSmin e a => Sys2Proof.Machine.execAmoSmin e a s
  | .amoSmax e a => Sys2Proof.Machine.execAmoSmax e a s
  | .amoUmin e a => Sys2Proof.Machine.execAmoUmin e a s
  | .amoUmax e a => Sys2Proof.Machine.execAmoUmax e a s
  | .amoSwap e a => Sys2Proof.Machine.execAmoSwap e a s
  | .amoCas e a => Sys2Proof.Machine.execAmoCas e a s
  | .beq e a => Sys2Proof.Machine.execBeq e a s
  | .bne e a => Sys2Proof.Machine.execBne e a s
  | .blt e a => Sys2Proof.Machine.execBlt e a s
  | .bge e a => Sys2Proof.Machine.execBge e a s
  | .bltu e a => Sys2Proof.Machine.execBltu e a s
  | .bgeu e a => Sys2Proof.Machine.execBgeu e a s
  | .bra e off => Sys2Proof.Machine.execBra e off s
  | .call e off => Sys2Proof.Machine.execCall e off s
  | .jmp e a => Sys2Proof.Machine.execJmp e a s
  | .callr e a => Sys2Proof.Machine.execCallr e a s
  | .loop e a => Sys2Proof.Machine.execLoop e a s
  | .loopi e a => Sys2Proof.Machine.execLoopi e a s
  | .crc32c e a => Sys2Proof.Machine.execCrc32c e a s
  | .bmov e a => Sys2Proof.Machine.execBmov e a s
  | .fadd e a => Sys2Proof.Machine.execFadd e a s
  | .fsub e a => Sys2Proof.Machine.execFsub e a s
  | .fmul e a => Sys2Proof.Machine.execFmul e a s
  | .fdiv e a => Sys2Proof.Machine.execFdiv e a s
  | .fsqrt e a => Sys2Proof.Machine.execFsqrt e a s
  | .fmin e a => Sys2Proof.Machine.execFmin e a s
  | .fmax e a => Sys2Proof.Machine.execFmax e a s
  | .feq e a => Sys2Proof.Machine.execFeq e a s
  | .flt e a => Sys2Proof.Machine.execFlt e a s
  | .fle e a => Sys2Proof.Machine.execFle e a s
  | .fcvtI e a => Sys2Proof.Machine.execFcvtI e a s
  | .fcvtF e a => Sys2Proof.Machine.execFcvtF e a s
  | .fcvtP e a => Sys2Proof.Machine.execFcvtP e a s
  | .fneg e a => Sys2Proof.Machine.execFneg e a s
  | .fabs e a => Sys2Proof.Machine.execFabs e a s
  | .mfs e a => Sys2Proof.Machine.execMfs e a s
  | .mts e a => Sys2Proof.Machine.execMts e a s
  | .mode e a => Sys2Proof.Machine.execMode e a s
  | .resume e a => Sys2Proof.Machine.execResume e a s
  | .trap e a => Sys2Proof.Machine.execTrap e a s
  | .debug e a => Sys2Proof.Machine.execDebug e a s
  | .iflush e a => Sys2Proof.Machine.execIflush e a s
  | .fenceInstruction e rd rs => Sys2Proof.Machine.execFenceInstruction e rd rs s
  | .fenceDevice e rd rs => Sys2Proof.Machine.execFenceDevice e rd rs s
  | .fenceCode e rd rs => Sys2Proof.Machine.execFenceCode e rd rs s
  | .step e a => Sys2Proof.Machine.execStep e a s
  | .wait e a => Sys2Proof.Machine.execWait e a s
  | .waitWake e => Sys2Proof.Machine.execWaitWake e s
  | .interruptEntry e => Sys2Proof.Machine.execInterruptEntry e s
  | .panEvtCur p q => Sys2Proof.Machine.execPanEvtCur p q s
  | .snp p => Sys2Proof.Machine.execSnp p s
  | .gsnp p => Sys2Proof.Machine.execGsnp p s
  | .setQuota p err => Sys2Proof.Machine.execSetQuota p err s
  | .setFlush p err errs => Sys2Proof.Machine.execSetFlush p err errs s
  | .setClean p err => Sys2Proof.Machine.execSetClean p err s
  | .lineClear p => Sys2Proof.Machine.execLineClear p s
  | .lineUe p err errs => Sys2Proof.Machine.execLineUe p err errs s
  | .complete p => Sys2Proof.Machine.execComplete p s
  | .halt p => Sys2Proof.Machine.execHalt p s
  | .engCmdBad p => Sys2Proof.Machine.execEngCmdBad p s
  | .kick p bits => Sys2Proof.Machine.execKick p bits s
  | .sweep p => Sys2Proof.Machine.execSweep p s
  | .devAddrProbe spa => Sys2Proof.Machine.execDevAddrProbe spa s
  | .addrProbeDone => Sys2Proof.Machine.execAddrProbeDone s
  | .panMdProbe p v => Sys2Proof.Machine.execPanMdProbe p v s
  | .mdProbeDone p err => Sys2Proof.Machine.execMdProbeDone p err s
  | .smRun c run => Sys2Proof.Machine.execSmRun c run s
  | .restart c => Sys2Proof.Machine.execRestart c s
  | .smTimerCmp c v => Sys2Proof.Machine.execSmTimerCmp c v s
  | .smTimer c => Sys2Proof.Machine.execSmTimer c s
  | .smTick => Sys2Proof.Machine.execSmTick s
  | .smDoorbell c bits => Sys2Proof.Machine.execSmDoorbell c bits s
  | .smDoorbellAck c bits => Sys2Proof.Machine.execSmDoorbellAck c bits s
  | .smMsg c v => Sys2Proof.Machine.execSmMsg c v s
  | .tickEdge => Sys2Proof.Machine.execTickEdge s
  | .tickMissing => Sys2Proof.Machine.execTickMissing s
  | .freeTick => Sys2Proof.Machine.execFreeTick s
  | .frame time fseq => Sys2Proof.Machine.execFrame time fseq s
  | .badFrame => Sys2Proof.Machine.execBadFrame s
  | .applyNow => Sys2Proof.Machine.execApplyNow s
  | .applyTimed => Sys2Proof.Machine.execApplyTimed s
  | .jumpApply => Sys2Proof.Machine.execJumpApply s
  | .snapNow => Sys2Proof.Machine.execSnapNow s
  | .snapTimed => Sys2Proof.Machine.execSnapTimed s
  | .snapshotInstant => Sys2Proof.Machine.execSnapshotInstant s
  | .harvestFlip => Sys2Proof.Machine.execHarvestFlip s
  | .dumpComplete ok m => Sys2Proof.Machine.execDumpComplete ok m s
  | .hvDumpConfig base v => Sys2Proof.Machine.execHvDumpConfig base v s
  | .bwWindowEnd b => Sys2Proof.Machine.execBwWindowEnd b s
  | .bwCtl b win => Sys2Proof.Machine.execBwCtl b win s
  | .modeCommitNow req => Sys2Proof.Machine.execModeCommitNow req s
  | .modeCommitTimed req => Sys2Proof.Machine.execModeCommitTimed req s
  | .modeRequestInstant => Sys2Proof.Machine.execModeRequestInstant s
  | .modeTransitionDone => Sys2Proof.Machine.execModeTransitionDone s
  | .trainingComplete => Sys2Proof.Machine.execTrainingComplete s
  | .trainTimeout => Sys2Proof.Machine.execTrainTimeout s
  | .bistGo sel => Sys2Proof.Machine.execBistGo sel s
  | .bistDone id fails => Sys2Proof.Machine.execBistDone id fails s
  | .sluiceStep d => Sys2Proof.Machine.execSluiceStep d s
  | .shedSample a bn => Sys2Proof.Machine.execShedSample a bn s
  | .shedDiscClear => Sys2Proof.Machine.execShedDiscClear s
  | .bedStepChange => Sys2Proof.Machine.execBedStepChange s
  | .vrSettleDone b => Sys2Proof.Machine.execVrSettleDone b s
  | .clockSwitchDone b => Sys2Proof.Machine.execClockSwitchDone b s
  | .slBedReq b v => Sys2Proof.Machine.execSlBedReq b v s
  | .stepCommitNow => Sys2Proof.Machine.execStepCommitNow s
  | .stepCommitTimed => Sys2Proof.Machine.execStepCommitTimed s
  | .stepCommitInstant => Sys2Proof.Machine.execStepCommitInstant s
  | .vrAlert addr status => Sys2Proof.Machine.execVrAlert addr status s
  | .thermalRead r => Sys2Proof.Machine.execThermalRead r s
  | .thermalCapUpdate => Sys2Proof.Machine.execThermalCapUpdate s
  | .stackRestEntry b => Sys2Proof.Machine.execStackRestEntry b s
  | .stackRestExit b => Sys2Proof.Machine.execStackRestExit b s
  | .wake b => Sys2Proof.Machine.execWake b s
  | .mpPowerDown m => Sys2Proof.Machine.execMpPowerDown m s
  | .mpPowerUp m => Sys2Proof.Machine.execMpPowerUp m s
  | .corePowerDown c => Sys2Proof.Machine.execCorePowerDown c s
  | .corePowerUp c => Sys2Proof.Machine.execCorePowerUp c s
  | .paritySweep flips => Sys2Proof.Machine.execParitySweep flips s
  | .registerWrite w off v full => Sys2Proof.Machine.execRegisterWrite w off v full s
  | .undefinedAccess w off wr => Sys2Proof.Machine.execUndefinedAccess w off wr s
  | .lock => Sys2Proof.Machine.execLock s
  | .mbxSel m w src => Sys2Proof.Machine.execMbxSel m w src s
  | .mbxDone m w => Sys2Proof.Machine.execMbxDone m w s
  | .mbxFill m => Sys2Proof.Machine.execMbxFill m s
  | .mbxDataRead m k w => Sys2Proof.Machine.execMbxDataRead m k w s
  | .acquire n w => Sys2Proof.Machine.execAcquire n w s
  | .release n w => Sys2Proof.Machine.execRelease n w s
  | .mgmtEndpointReset => Sys2Proof.Machine.execMgmtEndpointReset s
  | .imageWindowWrite k v => Sys2Proof.Machine.execImageWindowWrite k v s
  | .authKey k v w => Sys2Proof.Machine.execAuthKey k v w s
  | .imageLoad c => Sys2Proof.Machine.execImageLoad c s
  | .loadComplete => Sys2Proof.Machine.execLoadComplete s
  | .deviceReset c => Sys2Proof.Machine.execDeviceReset c s
  | .modeChange c => Sys2Proof.Machine.execModeChange c s
  | .keyRotate c => Sys2Proof.Machine.execKeyRotate c s
  | .clearPoison c => Sys2Proof.Machine.execClearPoison c s
  | .sluiceOverride c => Sys2Proof.Machine.execSluiceOverride c s
  | .firmwareLoad c => Sys2Proof.Machine.execFirmwareLoad c s
  | .latchBreak c => Sys2Proof.Machine.execLatchBreak c s
  | .retireMemport c => Sys2Proof.Machine.execRetireMemport c s
  | .retireBed c => Sys2Proof.Machine.execRetireBed c s
  | .badOpcode opc c => Sys2Proof.Machine.execBadOpcode opc c s
  | .registerRead w off w32 long => Sys2Proof.Machine.execRegisterRead w off w32 long s
  | .stackInitComplete p => Sys2Proof.Machine.execStackInitComplete p s
  | .voutModeRead addr => Sys2Proof.Machine.execVoutModeRead addr s
  | .railOutOfRange => Sys2Proof.Machine.execRailOutOfRange s
  | .tapInstruction t => Sys2Proof.Machine.execTapInstruction t s

end Sys2Proof.Machine
end

