-- ==== Sys2Proof/Machine/MuziaWord.lean ====
section
/-! DEFINITION. The instruction that a word of the program store spells (R328 to R335, R339, R344, R353, R354, R356), and
what an engine does at a word that spells none (R330). -/

namespace Sys2Proof.Machine

/-- Bits hi down to lo of an instruction word. -/
def wfld (n w hi lo : Nat) : BitVec n := BitVec.ofNat n (bitsOf w hi lo)

def argsR (w : Nat) : RArgs := { rd := wfld 5 w 25 21, rs := wfld 5 w 20 16, rt := wfld 5 w 15 11, u := wfld 5 w 10 6 }
def argsF (w : Nat) : FArgs :=
  { rd := wfld 5 w 25 21, rs := wfld 5 w 20 16, rt := wfld 5 w 15 11, p := w.testBit 10, u := wfld 5 w 9 5 }
def argsAmo (w : Nat) : AmoArgs :=
  { rd := wfld 5 w 25 21, rs := wfld 5 w 20 16, rt := wfld 5 w 15 11, sz := wfld 2 w 5 4, u := wfld 5 w 10 6 }
def argsI (w : Nat) : IArgs := { rd := wfld 5 w 25 21, rs := wfld 5 w 20 16, imm := wfld 16 w 15 0 }
def argsSh (w : Nat) : ShArgs := { rd := wfld 5 w 25 21, rs := wfld 5 w 20 16, sh := wfld 6 w 5 0, u := wfld 8 w 15 8 }
def argsB (w : Nat) : BArgs := { rs := wfld 5 w 25 21, rt := wfld 5 w 20 16, off := wfld 16 w 15 0 }
def argsL (w : Nat) : LArgs := { lv := w.testBit 25, rs := wfld 5 w 24 20, imm := wfld 10 w 19 10, len := wfld 10 w 9 0 }
def argsS (w : Nat) : SArgs := { rd := wfld 5 w 25 21, rs := wfld 5 w 20 16, sr := wfld 8 w 15 8 }

/-- Opcode 0x00 by fn[5:0] (R332). -/
def wordInt (e : Fin 68) (w : Nat) : Option Instr :=
  let a := argsR w
  match bitsOf w 5 0 with
  | 0x00 => some (.addR e a) | 0x01 => some (.subR e a) | 0x02 => some (.andR e a) | 0x03 => some (.orR e a)
  | 0x04 => some (.xorR e a) | 0x05 => some (.andn e a) | 0x06 => some (.sll e a) | 0x07 => some (.srl e a)
  | 0x08 => some (.sra e a) | 0x09 => some (.clt e a) | 0x0A => some (.cltu e a) | 0x0B => some (.min e a)
  | 0x0C => some (.max e a) | 0x0D => some (.minu e a) | 0x0E => some (.maxu e a) | 0x0F => some (.clz e a)
  | 0x10 => some (.popc e a) | 0x11 => some (.bswap e a) | _ => none

/-- Opcode 0x01 by fn[5:0] (R333). -/
def wordMul (e : Fin 68) (w : Nat) : Option Instr :=
  let a := argsR w
  match bitsOf w 5 0 with
  | 0 => some (.mul e a) | 1 => some (.mulh e a) | 2 => some (.mulhu e a) | 3 => some (.div e a)
  | 4 => some (.divu e a) | 5 => some (.rem e a) | 6 => some (.remu e a) | _ => none

/-- Opcode 0x02 by fn[4:0] (R356). -/
def wordFp (e : Fin 68) (w : Nat) : Option Instr :=
  let a := argsF w
  match bitsOf w 4 0 with
  | 0x00 => some (.fadd e a) | 0x01 => some (.fsub e a) | 0x02 => some (.fmul e a) | 0x03 => some (.fdiv e a)
  | 0x04 => some (.fsqrt e a) | 0x05 => some (.fmin e a) | 0x06 => some (.fmax e a) | 0x07 => some (.feq e a)
  | 0x08 => some (.flt e a) | 0x09 => some (.fle e a) | 0x0A => some (.fcvtI e a) | 0x0B => some (.fcvtF e a)
  | 0x0C => some (.fcvtP e a) | 0x0D => some (.fneg e a) | 0x0E => some (.fabs e a) | _ => none

/-- Opcode 0x03 by fn[3:0] (R335). -/
def wordAmo (e : Fin 68) (w : Nat) : Option Instr :=
  let a := argsAmo w
  match bitsOf w 3 0 with
  | 0 => some (.amoAdd e a) | 1 => some (.amoAnd e a) | 2 => some (.amoOr e a) | 3 => some (.amoXor e a)
  | 4 => some (.amoSmin e a) | 5 => some (.amoSmax e a) | 6 => some (.amoUmin e a) | 7 => some (.amoUmax e a)
  | 8 => some (.amoSwap e a) | 9 => some (.amoCas e a) | _ => none

/-- Opcode 0x06 by SUB (R344). -/
def wordSys (e : Fin 68) (w : Nat) : Option Instr :=
  let a := argsS w
  match bitsOf w 7 0 with
  | 0x01 => some (.mfs e a) | 0x02 => some (.mts e a) | 0x03 => some (.mode e a) | 0x04 => some (.resume e a)
  | 0x05 => some (.trap e a) | 0x06 => some (.debug e a) | 0x07 => some (.iflush e a)
  | 0x08 => match a.sr.toNat with
    | 0 => some (.fenceInstruction e a.rd a.rs) | 1 => some (.fenceDevice e a.rd a.rs)
    | 2 => some (.fenceCode e a.rd a.rs) | _ => none
  | 0x09 => some (.step e a) | 0x0A => some (.wait e a) | _ => none

/-- Opcode 0x0F by imm16[7:6] (R331). -/
def wordShift (e : Fin 68) (w : Nat) : Option Instr :=
  match bitsOf w 7 6 with
  | 0 => some (.slli e (argsSh w)) | 1 => some (.srli e (argsSh w)) | 2 => some (.srai e (argsSh w)) | _ => none

/-- The instruction that word w spells on engine e, by its opcode (R330); none where the opcode or the operation that it
selects is unused. Unused fields are left to the instruction, which raises ILLEGAL for them (R329). -/
def muziaOf (e : Fin 68) (w : Nat) : Option Instr :=
  match bitsOf w 31 26 with
  | 0x00 => wordInt e w | 0x01 => wordMul e w | 0x02 => wordFp e w | 0x03 => wordAmo e w
  | 0x04 => some (.crc32c e { rd := wfld 5 w 25 21, rs := wfld 5 w 20 16, rt := wfld 5 w 15 11, sz := wfld 2 w 1 0, u := wfld 9 w 10 2 })
  | 0x05 => some (.bmov e { rd := wfld 5 w 25 21, rs := wfld 5 w 20 16, rt := wfld 5 w 15 11, u := wfld 11 w 10 0 })
  | 0x06 => wordSys e w
  | 0x08 => some (.addi e (argsI w)) | 0x09 => some (.andi e (argsI w)) | 0x0A => some (.ori e (argsI w))
  | 0x0B => some (.xori e (argsI w)) | 0x0C => some (.clti e (argsI w)) | 0x0D => some (.cltiu e (argsI w))
  | 0x0E => some (.addhi e (argsI w)) | 0x0F => wordShift e w
  | 0x10 => some (.lb e (argsI w)) | 0x11 => some (.lbu e (argsI w)) | 0x12 => some (.lh e (argsI w))
  | 0x13 => some (.lhu e (argsI w)) | 0x14 => some (.lw e (argsI w)) | 0x15 => some (.lwu e (argsI w))
  | 0x16 => some (.ld e (argsI w))
  | 0x18 => some (.sb e (argsI w)) | 0x19 => some (.sh e (argsI w)) | 0x1A => some (.sw e (argsI w))
  | 0x1B => some (.sd e (argsI w))
  | 0x20 => some (.beq e (argsB w)) | 0x21 => some (.bne e (argsB w)) | 0x22 => some (.blt e (argsB w))
  | 0x23 => some (.bge e (argsB w)) | 0x24 => some (.bltu e (argsB w)) | 0x25 => some (.bgeu e (argsB w))
  | 0x28 => some (.bra e (wfld 26 w 25 0)) | 0x29 => some (.call e (wfld 26 w 25 0))
  | 0x2A => some (.jmp e (argsI w)) | 0x2B => some (.callr e (argsI w))
  | 0x2C => some (.loop e (argsL w)) | 0x2D => some (.loopi e (argsL w))
  | _ => none

/-- The instruction word that the program store of engine e holds at byte address a. -/
def State.wordAt (s : State) (e a : Nat) : Nat := bitsOf (s.storeDw e a) (if a.testBit 2 then 63 else 31) (if a.testBit 2 then 32 else 0)

/-- Engine e fetches from its program store a word that spells no instruction. -/
def State.unspelt (s : State) (e : Fin 68) : Bool :=
  let a := (s.eng e).pc.toNat
  zoneOf (isCore e) a == .prog && (muziaOf e (s.wordAt e a)).isNone

/-- A running engine at a word that spells no instruction raises ILLEGAL (R330): such a word has no command of its own, and
the engine meets it in a cycle without one (log entry 51). -/
def State.illegalWord (s : State) (e : Fin 68) : State :=
  if (s.eng e).runs && s.unspelt e then s.runIns e { word := s.wordAt e (s.eng e).pc.toNat, legal := false } .wait else s

/-- Every engine at such a word. -/
def State.illegalWords (s : State) : State := (List.finRange 68).foldl State.illegalWord s

end Sys2Proof.Machine
end

