-- ==== Sys2Proof/Machine/Transmit.lean ====
section
/-! DEFINITION. What the links send: messages as slots and flits, the fill of flit slots, codewords with their parity and scrambling,
lane blocks, and the symbols and bits of each lane (R254, R255, R257, R259 to R269, R273, R280, R287 to R295, R307). -/

namespace Sys2Proof.Config

/-- The state of a lane's PRBS13 generator at the first lane block, which the specification does not give (log entry 49). -/
opaque prbsSeed : Nat → BitVec 13

end Sys2Proof.Config

namespace Sys2Proof.Machine

/-! ### Slots of a Hinge link (R266) -/

/-- OPC of a message to an agent (R92). -/
def outOpc (m : OutMsg) : Nat :=
  match m with
  | .snp op .. => snpNum op
  | .ack .. | .ackData .. => 0
  | .nack .. => 2
  | .poisoned .. => 3
  | .fenceDone .. => 4
  | .targetDown .. => 5
  | .targetClosing .. => 6

/-- Bits [119:0] of the main slot of a message to an agent, as a Hinge link lays them out (R266). -/
def outFields (m : OutMsg) : Nat :=
  let head := fun (d : BitVec 12) (t : BitVec 10) => d.toNat * 2 ^ 108 + t.toNat * 2 ^ 98
  match m with
  | .snp _ d a h t => d.toNat * 2 ^ 108 + a.toNat * 2 ^ 56 + h.toNat * 2 ^ 50 + t.toNat * 2 ^ 34
  | .ack d t g | .ackData d t g _ => head d t + g.toNat * 2 ^ 96
  | .nack d t n => head d t + n.retry.toNat * 2 ^ 84 + n.rsn.toNat * 2 ^ 81 + n.ncnt.toNat * 2 ^ 73 + n.stamp.toNat * 2 ^ 57 + b2n n.anc * 2 ^ 56
  | .fenceDone d t pf q => head d t + b2n pf * 2 ^ 48 + q.toNat * 2 ^ 16
  | .poisoned d t | .targetDown d t | .targetClosing d t => head d t

/-- The main slot of a message to an agent on a Hinge link (R266). -/
def outSlot (m : OutMsg) : Nat := outChan m * 2 ^ 126 + outOpc m * 2 ^ 122 + outFields m

/-- The line that a message to an agent carries. -/
def outLine (m : OutMsg) : Option (BitVec 1024) := match m with | .ackData _ _ _ d => some d | _ => none

/-! ### Slots of a Knuckle link (R291 to R294, R307) -/

/-- KCLS of a Knuckle message (R291). -/
def kCls (b : KBody) : Nat :=
  match b with
  | .req _ => 0
  | .out m => outChan m
  | .note _ => 4
  | .mgmt _ => 5
  | .ans a => match a.kind with | .ackData => 7 | _ => 6

/-- OPC of a notice (R294). -/
def noteOpc (b : NoteBody) : Nat :=
  match b with
  | .dmark .. => 0 | .wdone .. => 1 | .tmo => 2 | .pfault .. => 3 | .gone .. => 4 | .cleaned => 5 | .ungone => 6 | .gsnp .. => 7
  | .gack .. => 8 | .unused o => o.toNat

/-- OPC of a Knuckle message within its class (R92, R294, R307). -/
def kOpc (b : KBody) : Nat :=
  match b with
  | .req r => r.opc.toNat
  | .out m => outOpc m
  | .note n => noteOpc n.body
  | .mgmt m => m.opc.toNat
  | .ans a => match a.kind with | .notPresent => 1 | _ => 0

/-- Whether a request is an atomic. -/
def reqAtom (r : Req) : Bool := r.opc == 7 || r.opc == 8

/-- A CAS whose operands travel as payload (R293). -/
def reqCas (r : Req) : Bool := reqAtom r && r.atom.asz != 3 && r.atom.aop == 9

/-- The ATX slot of an atomic (R293). -/
def atxSlot (a : Atom) : Nat := a.aop.toNat * 2 ^ 122 + a.asz.toNat * 2 ^ 120 + b2n a.ret * 2 ^ 119 + a.lmask.toNat

/-- The extension slots of a Knuckle message (R293, R294). -/
def kExts (b : KBody) : List Nat :=
  match b with
  | .req r =>
    if r.opc = 5 then [r.mask.toNat]
    else if reqAtom r then (if r.atom.asz = 3 ∨ reqCas r then [atxSlot r.atom] else [atxSlot r.atom, r.atom.opa.toNat])
    else []
  | .note n => match n.body with | .pfault _ t u a => [t.toNat * 2 ^ 64 + u.toNat * 2 ^ 52 + a.toNat] | _ => []
  | .out _ | .ans _ | .mgmt _ => []

/-- The further fields of a notice (R294). -/
def noteFields (b : NoteBody) : Nat :=
  match b with
  | .dmark t p l => t.toNat * 2 ^ 82 + p.toNat * 2 ^ 76 + b2n l * 2 ^ 75
  | .wdone t => t.toNat * 2 ^ 82
  | .pfault c _ _ _ => c.toNat * 2 ^ 76
  | .gone c => c.toNat * 2 ^ 90
  | .gsnp a h => a.toNat * 2 ^ 40 + h.toNat * 2 ^ 24
  | .gack h => h.toNat * 2 ^ 76
  | .tmo | .cleaned | .ungone | .unused _ => 0

/-- Bits [115:1] of a Knuckle main slot, at their places (R292, R294, R307). -/
def kFields (b : KBody) : Nat :=
  match b with
  | .req r =>
    r.homeDev.toNat * 2 ^ 110 + r.src.toNat * 2 ^ 98 + r.tag.toNat * 2 ^ 88 + r.ocl.toNat * 2 ^ 84 + r.addr.toNat * 2 ^ 32
      + b2n r.pst * 2 ^ 31 + b2n r.psn * 2 ^ 30 + r.ncnt.toNat * 2 ^ 22 + r.stamp.toNat * 2 ^ 6 + b2n r.anc * 2 ^ 5 + r.pcls.toNat * 2
  | .out m => outFields m / 16
  | .ans a => a.src.toNat * 2 ^ 104 + a.hdev.toNat * 2 ^ 98 + a.htag.toNat * 2 ^ 82 + b2n a.psn * 2 ^ 81
  | .note n => n.ddev.toNat * 2 ^ 110 + n.sdev.toNat * 2 ^ 104 + n.agent.toNat * 2 ^ 92 + noteFields n.body
  | .mgmt m =>
    m.ddev.toNat * 2 ^ 110 + m.sdev.toNat * 2 ^ 104 + m.mtag.toNat * 2 ^ 96 + m.offset.toNat * 2 ^ 70 + b2n m.w32 * 2 ^ 69
      + m.data.toNat * 2 ^ 5 + m.status.toNat * 2 ^ 2

/-- The main slot of a Knuckle message (R291). -/
def kSlotOf (m : KMsg) : Nat :=
  m.kvc.toNat * 2 ^ 125 + kCls m.body * 2 ^ 122 + kOpc m.body * 2 ^ 118 + (kExts m.body).length * 2 ^ 116 + kFields m.body + b2n m.re

/-- The line that a Knuckle message carries (R265, R293). -/
def kLine (b : KBody) : Option (BitVec 1024) :=
  match b with
  | .req r =>
    if r.opc = 4 ∨ r.opc = 5 ∨ r.opc = 6 then some r.data
    else if reqCas r then some (BitVec.ofNat 1024 (r.atom.opa.toNat + r.atom.opb.toNat * 2 ^ 128))
    else if reqAtom r && r.atom.asz == 3 then some r.atom.vop
    else none
  | .out m => outLine m
  | .ans a => match a.kind with | .ackData => some a.data | _ => none
  | .note _ | .mgmt _ => none

/-! ### Flits (R261 to R265, R269, R288, R290) -/

/-- The two payload flits of a line (R265). -/
def payOf (d : Option (BitVec 1024)) : List (BitVec 512) :=
  match d with
  | none => []
  | some d => [d.setWidth 512, BitVec.ofNat 512 (d.toNat / 2 ^ 512)]

/-- A header flit from its control word, its slots and its payload, with its checksums (R262, R264). -/
def mkFlit (ctl : Nat) (slots : List Nat) (pay : List (BitVec 512)) : BitVec 512 :=
  let body := ctl * 2 ^ 448 + slots.getD 0 0 * 2 ^ 320 + slots.getD 1 0 * 2 ^ 192 + slots.getD 2 0 * 2 ^ 64
    + (if pay.isEmpty then 0 else crc32c (pay.map (fun q => bytesOf q.toNat 64)).flatten) * 2 ^ 32
  BitVec.ofNat 512 (body + crc32c ((bytesOf body 64).drop 4))

/-- The ACK fields of a control word: ACKV 1, and the last sequence number accepted in order (R262, R273). -/
def Link.ackWord (k : Link) : Nat := 2 ^ 57 + (k.rxExpect + 4095) % 4096 * 2 ^ 45

/-- The control word of a sequenced header: its kind, PLF for p payload flits, SLV for n slots, and FSEQ (R262, R263). -/
def Link.seqWord (k : Link) (kind p n seq : Nat) : Nat :=
  kind * 2 ^ 60 + p / 2 * 2 ^ 58 + k.ackWord + (2 ^ n - 1) * 2 ^ 18 + seq * 2 ^ 6

/-- The credit fields of a Hinge control word (R262). -/
def hingeCrWord (c : List (Nat × Nat)) : Nat := c.foldl (fun a x => a + x.2 * 2 ^ (39 - 6 * x.1)) 0

/-- The credit fields of a Knuckle control word, for two channels at most (R290). -/
def kCrWord (l : List (Nat × Nat)) : Nat :=
  (match l[0]? with | some x => x.1 * 2 ^ 42 + x.2 * 2 ^ 33 | none => 0) + (match l[1]? with | some x => x.1 * 2 ^ 30 + x.2 * 2 ^ 21 | none => 0)

/-- The credit fields of a link's control word. -/
def crWord (l : LinkRef) (c : List (Nat × Nat)) : Nat := match l with | .hp _ _ => hingeCrWord c | .kl _ => kCrWord c

/-- The flits of a sequenced group: its header flit and the payload flits that it announces (R263, R265, R269). -/
def Link.groupFlits (k : Link) (l : LinkRef) (g : Group) : List (BitVec 512) :=
  match g.body with
  | .out m => let pay := payOf (outLine m); mkFlit (k.seqWord 1 pay.length 1 g.seq) [outSlot m] pay :: pay
  | .kmsg m =>
    let slots := kSlotOf m :: kExts m.body
    let pay := payOf (kLine m.body)
    mkFlit (k.seqWord 1 pay.length slots.length g.seq) slots pay :: pay
  | .ctl code ready => [mkFlit (k.seqWord 4 0 1 g.seq) [code * 2 ^ 120 + ready * 2 ^ 116] []]
  | .credit c => [mkFlit (k.seqWord 1 0 0 g.seq + crWord l c) [] []]

/-- An IDLE flit: the ACK alone (R263). -/
def Link.idleFlit (k : Link) : BitVec 512 := mkFlit (2 * 2 ^ 60 + k.ackWord) [] []

/-- A REPLAY_REQ: RSEQ in FSEQ (R275). -/
def Link.replayFlit (k : Link) : BitVec 512 := mkFlit (3 * 2 ^ 60 + k.ackWord + k.rxExpect * 2 ^ 6) [] []

/-- A PORT_RESET flit (R269). -/
def portResetFlit : BitVec 512 := mkFlit (5 * 2 ^ 60) [] []

/-- Units that a list of advertised credits gives a channel. -/
def advOf (l : List (Nat × Nat)) (c : Nat) : Nat := sget l c 0

/-- Slot 0 of the device's CFG (R269, R288). -/
def State.cfgSlot (s : State) (l : LinkRef) : Nat :=
  let adv := advOf (s.advertised l)
  match l with
  | .hp p h =>
    let nc := (List.range 4).foldl (fun a i => if (s.declared p h).testBit i && s.agNc p i then a + 2 ^ i else a) 0
    2 ^ 120 + s.declared p h * 2 ^ 116 + nc * 2 ^ 112 + adv 0 * 2 ^ 96 + adv 1 * 2 ^ 80 + adv 2 * 2 ^ 64 + adv 3 * 2 ^ 48
      + s.me * 2 ^ 42 + p.val * 2 ^ 38 + b2n h * 2 ^ 37
  | .kl n => 2 ^ 120 + s.me * 2 ^ 114 + n.val * 2 ^ 111 + (List.range 7).foldl (fun a c => a + adv c * 2 ^ (84 - 12 * c)) 0

/-- The CTL flit that CONFIG exchanges: CFG until the peer's has been seen, then CFG_ACK; it takes no sequence number (R260, R263). -/
def State.configFlit (s : State) (l : LinkRef) (k : Link) : BitVec 512 :=
  mkFlit (4 * 2 ^ 60 + k.ackWord + 2 ^ 18) [if k.cfgSeen then 2 * 2 ^ 120 else s.cfgSlot l] []

/-! ### Flit slots (R254, R260, R273, R275, R280) -/

/-- The group and the place within it of the next flit of the replay buffer to be sent. -/
def Link.pendingFlit (k : Link) : Option (Group × Nat) :=
  (k.replay.find? (fun g => decide ((k.txPos + 4096 - g.seq) % 4096 < g.flits))).map (fun g => (g, (k.txPos + 4096 - g.seq) % 4096))

/-- The next flit of the replay buffer has been sent; after the last of a group the link goes back to where a replay was asked
for. -/
def Link.sentFlit (k : Link) (g : Group) (j : Nat) : Link :=
  if j + 1 = g.flits then { k with txPos := k.txBack.getD ((k.txPos + 1) % 4096), txBack := none }
  else { k with txPos := (k.txPos + 1) % 4096 }

/-- A link whose next flit to be sent has left its replay buffer, or whose group was broken off, is set to a header. -/
def Link.align (k : Link) : Link :=
  match k.pendingFlit with
  | none => { k with txPos := match k.replay with | g :: _ => if k.txPos = k.txNext then k.txNext else g.seq | [] => k.txNext }
  | some (g, _) => if k.up then k else { k with txPos := g.seq }

/-- What fills the next flit slot: the rest of a group that has begun, PORT_RESET and REPLAY_REQ flits that are due, in CONFIG the CTL
flit of that state, the next group while the link is up, else IDLE (R254, R260, R265, R273). -/
def State.slotFlit (s : State) (l : LinkRef) (k0 : Link) : BitVec 512 × Link :=
  let k := k0.align
  let group := fun (g : Group) (j : Nat) => ((k.groupFlits l g).getD j 0, k.sentFlit g j)
  let other := fun (_ : Unit) =>
    if 0 < k.rstLeft then (portResetFlit, { k with rstLeft := k.rstLeft - 1 })
    else if 0 < k.rrqLeft ∧ k.up = true then (k.replayFlit, { k with rrqLeft := k.rrqLeft - 1 })
    else if k.st = .config then (s.configFlit l k, k)
    else
      match k.pendingFlit with
      | some (g, j) => if k.up then group g j else (k.idleFlit, k)
      | none => (k.idleFlit, k)
  match k.pendingFlit with
  | some (g, j + 1) => if k.up then group g (j + 1) else other ()
  | _ => other ()

/-- The next n flit slots filled. -/
def State.fillSlots (s : State) (l : LinkRef) (k : Link) (n : Nat) : List (BitVec 512) × Link :=
  match n with
  | 0 => ([], k)
  | m + 1 =>
    let a := s.slotFlit l k
    let b := s.fillSlots l a.2 m
    (a.1 :: b.1, b.2)

/-! ### Scrambling and codewords (R254, R255) -/

/-- One bit through the scrambler x^58 + x^39 + 1: the bit sent and the register, the latest bit sent in bit 0 (R255). -/
def scramble1 (r : BitVec 58) (b : Bool) : Bool × BitVec 58 :=
  let o := xor b (xor (r.getLsbD 38) (r.getLsbD 57))
  (o, (r <<< 1) ||| (if o then 1 else 0))

/-- The low n bits of v through the scrambler, bit 0 first. -/
def scrambleBits (r : BitVec 58) (v n : Nat) : Nat × BitVec 58 :=
  let a := (List.range n).foldl (fun (acc : Nat × BitVec 58) i =>
    let x := scramble1 acc.2 (v.testBit i)
    (acc.1 + b2n x.1 * 2 ^ i, x.2)) (0, r)
  a

/-- The flits of a codeword as one number, flit 0 lowest (R254, R261). -/
def flitBits (l : List (BitVec 512)) : Nat := l.foldr (fun f acc => f.toNat + acc * 2 ^ 512) 0

/-- The 5,140 message bits of a codeword: the header with SYNC and the count, and the scrambled flits (R254, R255). -/
def messageBits (r : BitVec 58) (count : Nat) (flits : List (BitVec 512)) : Nat :=
  0xB + count % 16 * 16 + (scrambleBits r (flitBits flits) 5120).1 * 2 ^ 20

/-- The product of two elements of GF(2^10) with the field polynomial x^10 + x^3 + 1, which clause 91 of IEEE 802.3 gives
(R254; log entry 50). -/
def gf10Mul (a b : Nat) : Nat :=
  ((List.range 10).foldl (fun (acc : Nat × Nat) i =>
    let v := if b.testBit i then acc.1 ^^^ acc.2 else acc.1
    let d := acc.2 * 2
    (v, if d.testBit 10 then d ^^^ 0x409 else d)) (0, a)).1

/-- The generator of RS(544,514): the product of x − α^j for j from 0 to 29, its coefficients below the leading one, highest degree
first (R254; log entry 50). -/
def rsGen : List Nat :=
  let pow := (List.range 30).foldl (fun (acc : List Nat × Nat) _ => (acc.1 ++ [acc.2], gf10Mul acc.2 2)) ([], 1)
  (pow.1.foldl (fun (p : List Nat) a => List.zipWith (· ^^^ ·) (p ++ [0]) (0 :: p.map (gf10Mul a))) [1]).drop 1

/-- The parity symbols of message symbols, highest degree first: the remainder on division by the generator (R254). -/
def rsParity (msg : List Nat) : List Nat :=
  msg.foldl (fun (r : List Nat) m =>
    let f := m ^^^ r.headD 0
    List.zipWith (fun x g => x ^^^ gf10Mul f g) (r.drop 1 ++ [0]) rsGen) (List.replicate 30 0)

/-- The 544 symbols of a codeword: message symbols with symbol 0 the coefficient of highest degree, then parity (R255). -/
def codeword (r : BitVec 58) (count : Nat) (flits : List (BitVec 512)) : List Nat :=
  let v := messageBits r count flits
  let msg := (List.range 514).map (fun j => bitsOf v (10 * j + 9) (10 * j))
  msg ++ rsParity msg

/-! ### Lanes (R250, R255, R257) -/

/-- The next state and output of PRBS13, x^13 + x^12 + x^2 + x + 1 of clause 94 of IEEE 802.3, the latest bit in bit 0 (R257; log entry
49). -/
def prbsStep (r : BitVec 13) : BitVec 13 :=
  let b := xor (xor (r.getLsbD 0) (r.getLsbD 1)) (xor (r.getLsbD 11) (r.getLsbD 12))
  (r <<< 1) ||| (if b then 1 else 0)

/-- n bits of PRBS13 from a state, the first lowest, and the state after them. -/
def prbsBits (r : BitVec 13) (n : Nat) : Nat × BitVec 13 :=
  (List.range n).foldl (fun (acc : Nat × BitVec 13) i => let x := prbsStep acc.2; (acc.1 + b2n (x.getLsbD 0) * 2 ^ i, x)) (0, r)

/-- Lane block number n of a logical lane: SYNC, LANE, TSID and PRBS13, which goes on from block to block (R257). -/
def laneBlock (seed : BitVec 13) (lane tsid n : Nat) : Nat :=
  let r := (List.range n).foldl (fun r _ => (prbsBits r 294).2) seed
  0x960F3CA5C3 + lane * 2 ^ 40 + tsid * 2 ^ 44 + (prbsBits r 294).1 * 2 ^ 46

/-- The five PAM4 levels of a symbol, least significant bit pair first, with the Gray coding of clause 120 (R250). -/
def pamOf (sym : Nat) : List Nat :=
  (List.range 5).map (fun i => match bitsOf sym (2 * i + 1) (2 * i) with | 0 => 0 | 1 => 3 | 2 => 1 | _ => 2)

/-- The link sends lane blocks rather than codewords (R259). -/
def Link.sendsBlocks (k : Link) : Bool := k.phase == .detect || k.phase == .align

/-- TSID of a lane block that begins now: TS1, and TS2 in ALIGN once the receive side is aligned (R257, R259). -/
def Link.nextTs (k : Link) : Nat := if k.phase == .align && k.aligned then 2 else 1

/-- The lane block that a logical lane is sending; none while codewords are sent or the lanes are idle (R257, R259). -/
def State.laneSends (s : State) (l : LinkRef) (lane : Nat) : Option Nat :=
  let k := s.lk l
  if k.quiet || !k.wire.isEmpty then none
  else some (laneBlock (Config.prbsSeed (linkUnit l * 16 + 8 * linkHalf l + lane)) lane k.tsid k.tsSent)

/-- The symbols of the codeword in progress that a logical lane carries (R255). -/
def State.laneSymbols (s : State) (l : LinkRef) (lane : Nat) : List Nat :=
  let k := s.lk l
  if k.wire.isEmpty then []
  else ((codeword k.scr k.cwSent k.wire).mapIdx (fun j x => (j, x))).filterMap (fun a =>
    if a.1 % s.lkWidth l = lane then some a.2 else none)

/-! ### The passing of time (R254, R256, R257) -/

/-- Bits that a lane sends for a lane block or a codeword: 340, and 680 for a codeword on eight lanes (R255, R257). -/
def Link.unitBits (k : Link) (w : Nat) : Nat := if k.wire.isEmpty || w == 16 then 340 else 680

/-- The link as its next lane block or codeword begins. -/
def State.nextUnit (s : State) (l : LinkRef) (k : Link) : Link :=
  let scr := if k.wire.isEmpty then k.scr else (scrambleBits k.scr (flitBits k.wire) 5120).2
  let sent := if k.wire.isEmpty then { k with tsSent := k.tsSent + 1 } else { k with cwSent := k.cwSent + 1, scr := scr }
  if sent.sendsBlocks then { sent with wire := [], tsid := sent.nextTs }
  else
    let f := s.fillSlots l sent 10
    { f.2 with wire := f.1 }

/-- The codeword with the eighth REPLAY_REQ in a row has been sent (R275). -/
def Link.asked8 (k : Link) : Bool := k.rrqLeft == 0 && (match k.asking with | some (_, n, _) => decide (8 ≤ n) | none => false)

/-- One service-region cycle of a link's transmitter: a lane at 112 Gb/s sends 280/3 bits in it, which txBits counts in thirds of a
bit (R250). -/
def State.txLink (s : State) (l : LinkRef) : State :=
  let k := s.lk l
  if k.quiet then s
  else
    let n := 3 * k.unitBits (s.lkWidth l)
    let b := k.txBits + 280
    let t := if b < n then s.setLk l { k with txBits := b } else s.setLk l { s.nextUnit l k with txBits := b - n }
    if n ≤ b && k.asked8 then t.retrain l 1 else t

/-- The links of the device. -/
def allLinks : List LinkRef :=
  (List.finRange 16).flatMap (fun p => [.hp p false, .hp p true]) ++ (List.finRange 8).map .kl

/-- One service-region cycle of every transmitter. -/
def State.txAll (s : State) : State := allLinks.foldl State.txLink s

end Sys2Proof.Machine
end

