-- ==== Sys2Proof/Machine/Idle.lean ====
section
/-! DEFINITION. What the block does when no command waits: one cycle of the service-region clock passes (R5, R399;
log entry 4). -/

namespace Sys2Proof.Machine

/-- The phase of a bed's clock one service cycle later: 1.2 GHz is 12 units, and each step adds 1 (R448). -/
def Bed.cycle (x : Bed) : Bed := { x with phase := x.phase + 12 + x.step }

/-- The clocks after one service-region cycle: the machine-time counters of every region, the cycles since the last tick edge and the
clocks of the beds (R399, R392, R448). -/
def State.clocks (s : State) : State :=
  let t := forUpTo 8 (fun b t => t.updBed b Bed.cycle)
    { s with svc := s.svc + 1, mt := { s.mt with c := s.mt.c + 1, edgeC := s.mt.edgeC + 1, atPos := false } }
  { t with mt := { t.mt with copies := (List.range 9).map (fun r =>
      let x := s.mt.copies.getD r {}
      { x with c := x.c + (t.regionCycles r - s.regionCycles r) }) } }

/-- The occupied tracker entries of every pan, counted for the n b pan cycles that bed b makes (R420). -/
def State.occupancy (s : State) (n : Nat → Nat) : State :=
  (s.pans.map (·.1)).foldl (fun t p => t.count p 0x10B ((s.pan p).trks.length * n (p / 8))) s

/-- The pan cycles in which the pans of the device run filler, of the n b that bed b makes: how many they are, the specification
leaves open (R444, R420; log entry 25). -/
def State.fillCycles (s : State) (n : Nat → Nat) : State :=
  if s.sl.fill = 0 then s
  else
    { s.count uSluice 0x101 (Config.freeNat s.freeIx % ((List.range 8).foldl (fun a b => a + 8 * n b) 1)) with freeIx := s.freeIx + 1 }

/-- One service-region cycle: the clocks, and what is counted in every pan cycle. -/
def State.cycle (s : State) : State :=
  let t := s.clocks
  let n := fun b => t.panCycles b - s.panCycles b
  (t.occupancy n).fillCycles n

/-- The store buffers drain in the background (R380): one entry of each in a cycle. -/
def State.drainStep (s : State) : State :=
  (List.range 68).foldl (fun t e => if (t.eng e).sbuf.isEmpty then t else t.drainOne e) s

/-- The combining-buffer entries of pan p that are due are written back as far as they can be (R179); the flush and DRAIN,
which wait for them, wake the stack for them. -/
def State.combService (s : State) (p : Nat) : State :=
  let s1 := s.combDrain p
  if (s1.pan p).combDue && (s1.pan p).dataEn && ((s1.pan p).flushing || s1.mode.cur == .drain) then s1.wake (p / 8) else s1

/-- The pans in the background: combining-buffer entries go back, lines that waited for a tracker entry become P, and a
waiting prefetch asks for the pipeline's slot (R179, R244, R81). -/
def State.panService (s : State) (p : Nat) : State :=
  let u := if (s.pan p).combDue then s.combService p else s
  let v := if (u.pan p).poisWait.isEmpty || !u.homeOpen then u else u.poisNext p
  if (v.pan p).pfq.isEmpty then v else v.prefetchNext p

/-- What happens in a cycle without a command: store buffers drain, engines raise ILLEGAL at words that spell no instruction,
the pans do their background work, row visits fall due and requests age, the links send (R254, R257), Knuckle links begin boot training in BLANK and
LOAD (R441), a device-reset command takes effect at its time (R438), a dump's next line goes (R416), and a rail out of its range leaves traffic, records and
cache contents undefined (R506). -/
def State.background (s : State) : State :=
  let s0 := if s.alive then s.drainStep.illegalWords else s
  let s1 := if s0.homeOpen || s0.holding then forUpTo 64 (fun p t => t.panService p) s0 else s0
  let s2 := if s1.alive then s1.timePasses else s1
  let s3 := if s2.alive && (s2.mode.cur == .blank || s2.mode.cur == .load) then s2.bootLinks else s2
  let s4 := if s3.alive then s3.txAll else s3
  let s5 := match s4.mode.devResetAt with
    | some t => if reached s4.now t then s4.devReset else s4
    | none => s4
  let s6 := if s5.alive then s5.dumpNext else s5
  s6.railFree

/-- The step on an empty queue: a cycle passes while VDD_SVC is in range; in OFF nothing does (R425). Every other timed event is
a command of its own, and what it finds due is decided by the time that has passed. -/
def State.idle (s : State) : State := if s.mode.cur == .off then s else s.cycle.background

end Sys2Proof.Machine
end

