-- ==== Sys2Proof/Safety.lean ====
section
/-! DEFINITION. What counts as a safe step: the block goes on. And the terms in which the statements say how a command ends. -/

namespace Sys2Proof.Machine

/-- The step of s answers a next state: neither a fault nor a refusal. -/
def goesOn (s : State) : Prop := ∃ t, step s = .next t

/-- The command c answers a next state at s. -/
def completes (c : Instr) (s : State) : Prop := ∃ t, exec c s = .next t

/-- The command c answers a next state at s, and p holds of it. -/
def Answers (c : Instr) (s : State) (p : State → Prop) : Prop := ∃ t, exec c s = .next t ∧ p t

/-- The command c answers a next state at s, and p holds of the state that the command's own effect leaves, before the messages
that can move now have moved. -/
def Effects (c : Instr) (s : State) (p : State → Prop) : Prop := ∃ u, exec c s = .next u.pump ∧ p u

/-- s after the access of a row that names no writer to the register bus (R11, R196, log entry 47). -/
def State.bus (s : State) : State := s.busAccess s.hostCode

/-! ### Muzia engines -/

/-- Engine e executes the instruction that stands at its PC, unless the instruction itself is ill-formed: the engine runs, and
none of the causes that R359 puts before the instruction's own holds. xfer says that the instruction is a control transfer,
noSlot that it raises ILLEGAL in a delay slot (R337, R341). -/
def State.fits (s : State) (e : Nat) (xfer noSlot : Bool) : Prop :=
  s.alive = true ∧ (s.eng e).runs = true ∧ (s.eng e).waiting = false ∧
  ¬((s.eng e).mode = 2 ∧ 256 ≤ (s.eng e).count) ∧
  zoneOf (isCore e) (s.eng e).pc.toNat = .prog ∧ s.isUe e (s.eng e).pc.toNat = false ∧
  (((s.eng e).atLe 0 || (s.eng e).atLe 1) && (xfer || (s.eng e).slot.isSome)) = false ∧
  (noSlot && (s.eng e).slot.isSome) = false

/-- What every completed instruction leaves in the engine beside its effect y: the step count, the hold of interrupts and the
mark of a STEP; x is the engine before the instruction (R345, R374). -/
def Engine.closed (y x : Engine) (step hold : Bool) : Engine :=
  { y with count := stepCount step x.mode y.mode y.count, hold := hold, stepEnd := step }

/-- The engine after an instruction that completed in sequence with the effect y (R336, R337, R340). -/
def Engine.done (y x : Engine) (step hold : Bool) : Engine := (y.complete x.hact).closed x step hold

/-- t is s but for engine e, which is x, and the count of a core's instructions (R420). -/
def State.onlyEngine (s t : State) (e : Nat) (x : Engine) : Prop :=
  t = { s with engines := t.engines, hv := if e < 64 then s.hv else (s.count (uEng e) 0x100).hv } ∧
  t.eng e = x ∧ ∀ k, k ≠ e → t.eng k = s.eng k

/-- The instruction c of engine e writes v to register rd and does nothing else. -/
def State.writes (s : State) (c : Instr) (e : Fin 68) (rd : BitVec 5) (v : BitVec 64) : Prop :=
  Answers c s (fun t => s.onlyEngine t e (((s.eng e).setG rd.toNat v).done (s.eng e) false false))

/-- The transfer c of engine e has its delay slot next, and then goes to the target, if it is taken. -/
def State.transfers (s : State) (c : Instr) (e : Fin 68) (target : Option (BitVec 64)) (link : Bool) : Prop :=
  Answers c s (fun t => s.onlyEngine t e
    ({ s.eng e with
       pc := (s.eng e).pc + 4
       slot := some { owner := (s.eng e).pc, target := target, link := link } } |>.closed (s.eng e) false false))

/-- The engine of a state u that an instruction c of engine e made, before it moved on, ends as in u with the effect y. -/
def State.endsFrom (s u : State) (c : Instr) (e : Fin 68) (y : Engine) (step hold : Bool) : Prop :=
  Answers c s (fun t => u.onlyEngine t e (y.done (s.eng e) step hold))

/-- The conditional branch c of engine e, which goes to the target if it is taken. On a core its prediction is counted as well:
with STATUS.DET 1 a taken one was mispredicted, otherwise a free value says so (R374, R420, log entry 25). -/
def State.branches (s : State) (c : Instr) (e : Fin 68) (target : Option (BitVec 64)) : Prop :=
  Answers c s (fun t => ∃ u : State, (t = if isCore e then u.predicted e target.isSome else u) ∧ s.onlyEngine u e
    ({ s.eng e with
       pc := (s.eng e).pc + 4
       slot := some { owner := (s.eng e).pc, target := target, link := false } } |>.closed (s.eng e) false false))

/-! ### Floating-point results (R171 to R173, R357) -/

/-- (-1)^neg · v. -/
def withSign (neg : Bool) (v : Nat) : Int := if neg then -(v : Int) else v

/-- Whether a direction takes a value of this sign to a magnitude that is not below it. -/
def Rnd.outward (r : Rnd) (neg : Bool) : Bool :=
  match r with
  | .near => false
  | .zero => false
  | .down => neg
  | .up => !neg

/-- p is the value (-1)^neg · num / den · 2^e, rounded once to the format in the direction r, with its flags. Without overflow it
is a finite number with the value's sign: the nearest one, the one of even fraction in a tie, or the nearest on the side of r;
INEXACT says that it differs from the value, UNDERFLOW that the value is below the normal numbers as well. With overflow the
value is above every finite number, and p is an infinity, or the largest finite number where r turns away from the infinity. -/
def Fmt.Rounds (f : Fmt) (r : Rnd) (neg : Bool) (num den : Nat) (e : Int) (p : Nat × Nat) : Prop :=
  p.1 < 2 ^ f.width ∧ p.2 < 8 ∧
  (p.2.testBit 2 = true →
    let g : Int := f.emin + f.emax - 2
    let q := min e g
    p.2 = flOF + flNX ∧ (2 ^ (f.mb + 1) - 1) * 2 ^ (g - q).toNat * den < num * 2 ^ (e - q).toNat ∧
    p.1 = if r = .near ∨ r.outward neg = true then f.infinity neg else f.infinity neg - 1) ∧
  (p.2.testBit 2 = false → ∃ m g, f.dec p.1 = .fin neg m g ∧
    let q := min e g
    let x := num * 2 ^ (e - q).toNat
    let ulp := 2 ^ (g - q).toNat * den
    let y := m * ulp
    let least : Int := f.emin + f.mb
    let low := min e least
    (p.2.testBit 0 = false ↔ x = y) ∧
    (p.2.testBit 1 = true → x ≠ y ∧ num * 2 ^ (e - low).toNat < 2 ^ (least - low).toNat * den) ∧
    (r = .near → 2 * x ≤ 2 * y + ulp ∧ 2 * y ≤ 2 * x + ulp ∧ (2 * x = 2 * y + ulp ∨ 2 * y = 2 * x + ulp → m % 2 = 0)) ∧
    (r ≠ .near → r.outward neg = true → x ≤ y ∧ y < x + ulp) ∧
    (r ≠ .near → r.outward neg = false → y ≤ x ∧ x < y + ulp))

/-- p is the square root of m · 2^e, rounded to the format in the direction r: no square root overflows or underflows. -/
def Fmt.RoundsRoot (f : Fmt) (r : Rnd) (m : Nat) (e : Int) (p : Nat × Nat) : Prop :=
  p.1 < 2 ^ f.width ∧ p.2 < 2 ∧ ∃ n g, f.dec p.1 = .fin false n g ∧
    let q := min (e / 2) g
    let x := m * 2 ^ (e - 2 * q).toNat
    let ulp := 2 ^ (g - q).toNat
    let y := n * ulp
    (p.2 = 0 ↔ x = y * y) ∧
    (r = .near → (2 * y - ulp) * (2 * y - ulp) < 4 * x ∧ 4 * x < (2 * y + ulp) * (2 * y + ulp)) ∧
    (r = .up → x ≤ y * y ∧ (y - ulp) * (y - ulp) < x) ∧
    (r = .zero ∨ r = .down → y * y ≤ x ∧ x < (y + ulp) * (y + ulp))

/-! ### Commands of the mailbox (R482, R483) -/

/-- s with a command block written into MBX_CMD_0 to MBX_CMD_7 of mailbox 0, at the write of MBX_SUBMIT. -/
def State.block (s : State) (opc : Nat) (c : CmdBlk) : State := (s.putBlk opc c).busAccess s.hostCode

/-- The block passes every check of R483. -/
def State.accepts (s : State) (opc : Nat) (c : CmdBlk) : Prop := s.alive = true ∧ (s.block opc c).cmdCheck = none

end Sys2Proof.Machine
end

