-- ==== Sys2Proof/Certificates/Slice0/Obligations.lean ====
section
/-! DEFINITION. The statements about the model. -/

open Sys2Proof Sys2Proof.Machine

/-- R332: the operations of opcode 0x00 on every engine, at every place an instruction may stand, and what CLZ, POPC and BSWAP
compute: the leading zeros bound the value on both sides; the one bits of a value and of its complement make 64; byte k of
the reversed value is byte 7 - k. R333: products and quotients on
every engine, for all operand values: none raises an exception, a division by zero gives all ones and leaves the dividend,
and -2^63 by -1 gives -2^63 and 0. R331: the I-format computations on every engine. Completes: ADD, SUB, AND, OR, XOR, ANDN,
SLL, SRL, SRA, CLT, CLTU, MIN, MAX, MINU, MAXU, CLZ, POPC, BSWAP, MUL, MULH, MULHU, DIV, DIVU, REM, REMU, ADDI, ANDI, ORI,
XORI, CLTI, CLTIU, ADDHI, SLLI, SRLI, SRAI. -/
def Obligations.MuziaIntegerResults : Prop :=
  (∀ (e : Fin 68) (a : RArgs) (s : State), s.fits e false false → a.u = 0 →
    let x := s.rg e a.rs
    let y := s.rg e a.rt
    s.writes (.addR e a) e a.rd (x + y) ∧
    s.writes (.subR e a) e a.rd (x - y) ∧
    s.writes (.andR e a) e a.rd (x &&& y) ∧
    s.writes (.orR e a) e a.rd (x ||| y) ∧
    s.writes (.xorR e a) e a.rd (x ^^^ y) ∧
    s.writes (.andn e a) e a.rd (x &&& ~~~y) ∧
    s.writes (.sll e a) e a.rd (x <<< (y.toNat % 64)) ∧
    s.writes (.srl e a) e a.rd (x >>> (y.toNat % 64)) ∧
    s.writes (.sra e a) e a.rd (x.sshiftRight (y.toNat % 64)) ∧
    s.writes (.clt e a) e a.rd (if x.toInt < y.toInt then 1 else 0) ∧
    s.writes (.cltu e a) e a.rd (if x.toNat < y.toNat then 1 else 0) ∧
    s.writes (.min e a) e a.rd (if x.toInt < y.toInt then x else y) ∧
    s.writes (.max e a) e a.rd (if x.toInt < y.toInt then y else x) ∧
    s.writes (.minu e a) e a.rd (if x.toNat < y.toNat then x else y) ∧
    s.writes (.maxu e a) e a.rd (if x.toNat < y.toNat then y else x) ∧
    (a.rt = 0 → s.writes (.clz e a) e a.rd (clz64 x) ∧ s.writes (.popc e a) e a.rd (popc64 x) ∧
      s.writes (.bswap e a) e a.rd (bswap64 x))) ∧
  (∀ (e : Fin 68) (a : RArgs) (s : State), s.fits e false false → a.u = 0 →
    let x := s.rg e a.rs
    let y := s.rg e a.rt
    s.writes (.mul e a) e a.rd (BitVec.ofNat 64 (x.toNat * y.toNat)) ∧
    s.writes (.mulh e a) e a.rd (BitVec.ofInt 64 (x.toInt * y.toInt / 2 ^ 64)) ∧
    s.writes (.mulhu e a) e a.rd (BitVec.ofNat 64 (x.toNat * y.toNat / 2 ^ 64)) ∧
    s.writes (.div e a) e a.rd (if y = 0 then 0xFFFFFFFFFFFFFFFF else BitVec.ofInt 64 (x.toInt.tdiv y.toInt)) ∧
    s.writes (.divu e a) e a.rd (if y = 0 then 0xFFFFFFFFFFFFFFFF else BitVec.ofNat 64 (x.toNat / y.toNat)) ∧
    s.writes (.rem e a) e a.rd (if y = 0 then x else BitVec.ofInt 64 (x.toInt.tmod y.toInt)) ∧
    s.writes (.remu e a) e a.rd (if y = 0 then x else BitVec.ofNat 64 (x.toNat % y.toNat)) ∧
    (x = 0x8000000000000000 → y = 0xFFFFFFFFFFFFFFFF →
      s.writes (.div e a) e a.rd 0x8000000000000000 ∧ s.writes (.rem e a) e a.rd 0)) ∧
  ((∀ (e : Fin 68) (a : IArgs) (s : State), s.fits e false false →
    let x := s.rg e a.rs
    let i := a.imm.signExtend 64
    s.writes (.addi e a) e a.rd (x + i) ∧
    s.writes (.andi e a) e a.rd (x &&& a.imm.setWidth 64) ∧
    s.writes (.ori e a) e a.rd (x ||| a.imm.setWidth 64) ∧
    s.writes (.xori e a) e a.rd (x ^^^ a.imm.setWidth 64) ∧
    s.writes (.clti e a) e a.rd (if x.toInt < a.imm.toInt then 1 else 0) ∧
    s.writes (.cltiu e a) e a.rd (if x.toNat < i.toNat then 1 else 0) ∧
    s.writes (.addhi e a) e a.rd (x + BitVec.ofInt 64 (a.imm.toInt * 65536))) ∧
  (∀ (e : Fin 68) (a : ShArgs) (s : State), s.fits e false false → a.u = 0 →
    let x := s.rg e a.rs
    s.writes (.slli e a) e a.rd (x <<< a.sh.toNat) ∧
    s.writes (.srli e a) e a.rd (x >>> a.sh.toNat) ∧
    s.writes (.srai e a) e a.rd (x.sshiftRight a.sh.toNat))) ∧
  (∀ x : BitVec 64, (clz64 x).toNat ≤ 64 ∧ x.toNat < 2 ^ (64 - (clz64 x).toNat) ∧
    ((clz64 x).toNat < 64 → 2 ^ (63 - (clz64 x).toNat) ≤ x.toNat)) ∧
  (∀ x : BitVec 64, (popc64 x).toNat + (popc64 (~~~x)).toNat = 64 ∧ (popc64 x = 0 ↔ x = 0)) ∧
  (∀ (x : BitVec 64) (k : Nat), k < 8 → (bswap64 x).toNat / 256 ^ k % 256 = x.toNat / 256 ^ (7 - k) % 256)

/-- R171 to R173, R355 to R357: what the floating-point functions of MuziaFloatResults give, in both formats, for all operands.
The sum, the product, the quotient and the square root of finite numbers, and conversions, are the exact result rounded once.
An exact sum of zero is -0 only where both terms are, or when the sum rounds down. A NaN operand gives the canonical quiet
NaN, with INVALID for a signaling one, and so do ∞ - ∞, 0 · ∞, ∞ / ∞, 0 / 0 and the root of a number below 0, with INVALID;
a finite number that is not 0 over 0 is an infinity, with DIVZERO. Comparisons and FMIN and FMAX order the numbers by value,
and FMIN and FMAX order -0 below +0 and prefer the operand that is no NaN; a NaN is equal to nothing and is invalid in FLT
and FLE. FCVT.I rounds to an integer; a NaN or a number out of range gives the value of R357 and INVALID. -/
def Obligations.MuziaFloatLaws : Prop :=
  ∀ (p : Bool) (r : Rnd),
    let f := fmtOf p
    let quiet := if p then 0x7FF8000000000000 else 0x7FC00000
    (f.qnan = quiet ∧ f.dec quiet = .nan false) ∧
    (∀ bx by_ : Nat, bx < 2 ^ f.width → by_ < 2 ^ f.width →
      let x := f.dec bx
      let y := f.dec by_
      let signal := if x = .nan true ∨ y = .nan true then flNV else 0
      (x.isNan = true ∨ y.isNan = true →
        f.addV r x y = (quiet, signal) ∧ f.mulV r x y = (quiet, signal) ∧ f.divV r x y = (quiet, signal) ∧
        f.eqB bx by_ = (0, signal) ∧ f.ltB false bx by_ = (0, flNV) ∧ f.ltB true bx by_ = (0, flNV)) ∧
      (∀ up : Bool,
        (x.isNan = true → y.isNan = true → f.minMax up bx by_ = (quiet, signal)) ∧
        (x.isNan = true → y.isNan = false → f.minMax up bx by_ = (by_, signal)) ∧
        (x.isNan = false → y.isNan = true → f.minMax up bx by_ = (bx, signal))) ∧
      (∀ a b, x = .inf a → y = .inf b → f.divV r x y = (quiet, flNV) ∧ f.mulV r x y = (f.infinity (xor a b), 0) ∧
        f.addV r x y = if a = b then (f.infinity a, 0) else (quiet, flNV)) ∧
      (∀ a b n g, x = .inf a → y = .fin b n g →
        let prod := if n = 0 then (quiet, flNV) else (f.infinity (xor a b), 0)
        f.addV r x y = (f.infinity a, 0) ∧ f.addV r y x = (f.infinity a, 0) ∧ f.mulV r x y = prod ∧ f.mulV r y x = prod ∧
        f.divV r x y = (f.infinity (xor a b), 0) ∧ f.divV r y x = (f.pack (xor a b) 0 0, 0)) ∧
      (∀ a m e b n g, x = .fin a m e → y = .fin b n g →
        let q := min e g
        let u := withSign a (m * 2 ^ (e - q).toNat)
        let v := withSign b (n * 2 ^ (g - q).toNat)
        (u + v ≠ 0 → f.Rounds r (decide (u + v < 0)) (u + v).natAbs 1 q (f.addV r x y)) ∧
        (u + v = 0 → f.addV r x y = (f.pack (if u = 0 ∧ a = b then a else r == .down) 0 0, 0)) ∧
        (m ≠ 0 → n ≠ 0 → f.Rounds r (xor a b) (m * n) 1 (e + g) (f.mulV r x y) ∧
          f.Rounds r (xor a b) m n (e - g) (f.divV r x y)) ∧
        (m = 0 ∨ n = 0 → f.mulV r x y = (f.pack (xor a b) 0 0, 0)) ∧
        (m = 0 → n ≠ 0 → f.divV r x y = (f.pack (xor a b) 0 0, 0)) ∧
        (m = 0 → n = 0 → f.divV r x y = (quiet, flNV)) ∧
        (m ≠ 0 → n = 0 → f.divV r x y = (f.infinity (xor a b), flDZ)) ∧
        f.eqB bx by_ = (b2n (decide (u = v)), 0) ∧ f.ltB false bx by_ = (b2n (decide (u < v)), 0) ∧
        f.ltB true bx by_ = (b2n (decide (u ≤ v)), 0) ∧
        (u < v ∨ (u = v ∧ a = true ∧ b = false) → f.minMax false bx by_ = (bx, 0) ∧ f.minMax false by_ bx = (bx, 0) ∧
          f.minMax true bx by_ = (by_, 0) ∧ f.minMax true by_ bx = (by_, 0)))) ∧
    (∀ bx : Nat, bx < 2 ^ f.width →
      (f.dec bx = .nan true → f.sqrtV r (f.dec bx) = (quiet, flNV) ∧ (fmtOf (!p)).conv r (f.dec bx) = ((fmtOf (!p)).qnan, flNV)) ∧
      (f.dec bx = .nan false → f.sqrtV r (f.dec bx) = (quiet, 0) ∧ (fmtOf (!p)).conv r (f.dec bx) = ((fmtOf (!p)).qnan, 0)) ∧
      ((f.dec bx).isNan = true → (f.dec bx).toInt r = (0x7FFFFFFFFFFFFFFF, flNV)) ∧
      (∀ a, f.dec bx = .inf a → f.sqrtV r (f.dec bx) = (if a then (quiet, flNV) else (bx, 0)) ∧
        (fmtOf (!p)).conv r (f.dec bx) = ((fmtOf (!p)).infinity a, 0) ∧
        (f.dec bx).toInt r = (if a then 0x8000000000000000 else 0x7FFFFFFFFFFFFFFF, flNV)) ∧
      (∀ a m e, f.dec bx = .fin a m e →
        let x := f.dec bx
        (m = 0 → f.sqrtV r x = (bx, 0) ∧ (fmtOf (!p)).conv r x = ((fmtOf (!p)).pack a 0 0, 0)) ∧
        (m ≠ 0 → a = true → f.sqrtV r x = (quiet, flNV)) ∧
        (m ≠ 0 → a = false → f.RoundsRoot r m e (f.sqrtV r x)) ∧
        (m ≠ 0 → (fmtOf (!p)).Rounds r a m 1 e ((fmtOf (!p)).conv r x)) ∧
        let q := min e 0
        let one : Int := 2 ^ (-q).toNat
        let v := withSign a (m * 2 ^ (e - q).toNat)
        (2 ^ 63 * one ≤ v → x.toInt r = (0x7FFFFFFFFFFFFFFF, flNV)) ∧
        (v ≤ -(2 ^ 63 + 1) * one → x.toInt r = (0x8000000000000000, flNV)) ∧
        (-(2 ^ 63) * one ≤ v → v ≤ (2 ^ 63 - 1) * one →
          let z : Int := (BitVec.ofNat 64 (x.toInt r).1).toInt * one
          (x.toInt r).2 = (if v = z then 0 else flNX) ∧
          (r = .near → 2 * (v - z).natAbs ≤ one.natAbs) ∧ (r = .down → z ≤ v ∧ v < z + one) ∧ (r = .up → v ≤ z ∧ z < v + one) ∧
          (r = .zero → z.natAbs ≤ v.natAbs ∧ v.natAbs < z.natAbs + one.natAbs ∧ 0 ≤ z * v)))) ∧
    (∀ b : BitVec 64, b ≠ 0 → f.Rounds r (decide (b.toInt < 0)) b.toInt.natAbs 1 0 (f.ofInt r b.toNat)) ∧
    f.ofInt r 0 = (0, 0)

/-- R337, R340, R343: the address after an instruction that completes in sequence at x.pc. Outside a delay slot and away from the
end of an active level it is the next one; while HACT is 1 the loop logic is suspended; at the end of level 1, or of level 0,
the level counts down and goes back, or ends; in a delay slot the transfer's target, and its link in g31, follow. -/
def Obligations.MuziaNextAddress : Prop :=
  ∀ (x : Engine),
    (x.slot = none → x.atLe 0 = false → x.atLe 1 = false → x.complete x.hact = { x with pc := x.pc + 4 }) ∧
    (x.slot = none → x.hact = true → x.complete true = { x with pc := x.pc + 4 }) ∧
    (x.slot = none → x.atLe 1 = true → (x.loop 1).lc ≠ 1 →
      (x.complete x.hact).pc = (x.loop 1).ls ∧ ((x.complete x.hact).loop 1).lc = (x.loop 1).lc - 1 ∧
      (x.complete x.hact).loop 0 = x.loop 0) ∧
    (x.slot = none → x.atLe 1 = true → (x.loop 1).lc = 1 → x.atLe 0 = false →
      (x.complete x.hact).pc = x.pc + 4 ∧ ((x.complete x.hact).loop 1).lc = 0 ∧ (x.complete x.hact).loop 0 = x.loop 0) ∧
    (x.slot = none → x.atLe 1 = true → (x.loop 1).lc = 1 → x.atLe 0 = true → (x.loop 0).lc ≠ 1 →
      (x.complete x.hact).pc = (x.loop 0).ls ∧ ((x.complete x.hact).loop 1).lc = 0 ∧
      ((x.complete x.hact).loop 0).lc = (x.loop 0).lc - 1) ∧
    (x.slot = none → x.atLe 1 = false → x.atLe 0 = true → (x.loop 0).lc ≠ 1 →
      (x.complete x.hact).pc = (x.loop 0).ls ∧ ((x.complete x.hact).loop 0).lc = (x.loop 0).lc - 1 ∧
      (x.complete x.hact).loop 1 = x.loop 1) ∧
    (x.slot = none → x.atLe 1 = false → x.atLe 0 = true → (x.loop 0).lc = 1 →
      (x.complete x.hact).pc = x.pc + 4 ∧ ((x.complete x.hact).loop 0).lc = 0 ∧ (x.complete x.hact).loop 1 = x.loop 1) ∧
    (x.slot = none → x.atLe 1 = true → (x.loop 1).lc = 1 → x.atLe 0 = true → (x.loop 0).lc = 1 →
      (x.complete x.hact).pc = x.pc + 4 ∧ ((x.complete x.hact).loop 1).lc = 0 ∧ ((x.complete x.hact).loop 0).lc = 0) ∧
    (∀ b t, x.slot = some b → b.target = some t →
      x.complete x.hact = { (if b.link then x.setG 31 (b.owner + 8) else x) with slot := none, pc := t }) ∧
    (∀ b, x.slot = some b → b.target = none → x.atLe 0 = false → x.atLe 1 = false → b.link = false →
      x.complete x.hact = { x with slot := none, pc := x.pc + 4 })

/-- R336, R337: branches and jumps, outside delay slots and loop ends, where R337 and R341 stop them. Each has its delay slot
next; the target and the link come after the slot. A core counts its mispredicted conditional branches; where STATUS.DET is
0 the prediction is a free value (the model's choice: log entry 25). A jump's target that is no multiple of 4 is not this case. R339: the
set-up of a loop level; a count of zero skips the body. Completes: BEQ, BNE, BLT, BGE, BLTU, BGEU, BRA, CALL, JMP, CALLR,
LOOP, LOOPI. -/
def Obligations.MuziaTransfersAndLoops : Prop :=
  ((∀ (e : Fin 68) (a : BArgs) (s : State), s.fits e true true →
    let x := s.rg e a.rs
    let y := s.rg e a.rt
    let dest := fun (taken : Bool) => if taken then some ((s.eng e).pc + 4 + 4 * a.off.signExtend 64) else none
    s.branches (.beq e a) e (dest (x == y)) ∧
    s.branches (.bne e a) e (dest (x != y)) ∧
    s.branches (.blt e a) e (dest (decide (x.toInt < y.toInt))) ∧
    s.branches (.bge e a) e (dest (decide (y.toInt ≤ x.toInt))) ∧
    s.branches (.bltu e a) e (dest (decide (x.toNat < y.toNat))) ∧
    s.branches (.bgeu e a) e (dest (decide (y.toNat ≤ x.toNat)))) ∧
  (∀ (e : Fin 68) (off : BitVec 26) (s : State), s.fits e true true →
    let dest := (s.eng e).pc + 4 + 4 * off.signExtend 64
    s.transfers (.bra e off) e (some dest) false ∧ s.transfers (.call e off) e (some dest) true) ∧
  (∀ (e : Fin 68) (a : IArgs) (s : State), s.fits e true true → a.rd = 0 →
    let dest := s.rg e a.rs + a.imm.signExtend 64
    dest.toNat % 4 = 0 → s.transfers (.jmp e a) e (some dest) false ∧ s.transfers (.callr e a) e (some dest) true)) ∧
  (∀ (e : Fin 68) (a : LArgs) (s : State), s.fits e true true → 2 ≤ a.len.toNat →
    let pc := (s.eng e).pc
    let le := pc + BitVec.ofNat 64 (4 * a.len.toNat)
    let set := fun (n : BitVec 64) => (({ s.eng e with
      loops := sset (s.eng e).loops (b2n a.lv) { ls := pc + 4, le := le, lc := n } {}
      pc := if n = 0 then le + 4 else pc + 4 } : Engine).closed (s.eng e) false false)
    (a.imm = 0 → Answers (.loop e a) s (fun t =>
      s.onlyEngine t e (set (BitVec.ofNat 64 ((s.rg e a.rs).toNat % 2 ^ 32))))) ∧
    (a.rs = 0 → Answers (.loopi e a) s (fun t => s.onlyEngine t e (set (a.imm.setWidth 64)))))

/-- R354: the accumulator in rs[31:0] after the low 1, 2, 4 or 8 bytes of rt, byte 0 first, each byte least significant bit
first: each bit shifts the accumulator right and folds in the reflected polynomial, with no initial or final XOR: software
starts with ones and complements the value, which gives CRC-32C. A non-zero fn[10:2] raises ILLEGAL. Completes: CRC32C. -/
def Obligations.MuziaCrcAccumulator : Prop :=
  (∀ (e : Fin 68) (a : CrcArgs) (s : State), s.fits e false false → a.u = 0 →
    s.writes (.crc32c e a) e a.rd (BitVec.ofNat 64 (crc32cRun ((s.rg e a.rs).toNat % 2 ^ 32)
      ((List.range (2 ^ a.sz.toNat)).map (fun k => (s.rg e a.rt).toNat / 256 ^ k % 256))))) ∧
  (∀ (e : Fin 68) (a : CrcArgs) (s : State), s.fits e false false → a.u ≠ 0 → Answers (.crc32c e a) s (fun t =>
    t = s.exc e 1 (wordR 4 a.rd a.rs a.rt (a.u.toNat * 4 + a.sz.toNat)))) ∧
  crc32cRun 0xFFFFFFFF [0x31, 0x32, 0x33, 0x34, 0x35, 0x36, 0x37, 0x38, 0x39] = 0xFFFFFFFF - 0xE3069283 ∧
  (∀ c b, b < 256 → crc32cRun c [b] =
    (List.range 8).foldl (fun x _ => if x % 2 = 1 then (x / 2) ^^^ 0x82F63B78 else x / 2) (c ^^^ b)) ∧
  (∀ c, crc32cRun c [] = c) ∧
  (∀ c x y, crc32cRun c (x ++ y) = crc32cRun (crc32cRun c x) y)

/-- R334, R365: a load whose address is aligned and permitted in the mode of the engine, and whose source is correctable, puts
its value into rd, with its sign or with zeros. loadFrom is the access of the zone: forwarding and SRAM by R381 (stated
below), the program store with the code-write window by R351, or a register. R334: the extension of a loaded
value: with zeros its number is unchanged; with its sign it is the number that its bits are in two's complement. R381: how
the data SRAM serves a load of an engine. No buffered store overlaps it: it reads the SRAM. The youngest overlapping store
holds all its bytes: it is that store's. Any other overlap: after the drain of the oldest stores, down to none that overlaps,
it reads the SRAM. Completes: LB, LBU, LH, LHU, LW, LWU, LD. -/
def Obligations.MuziaLoads : Prop :=
  (∀ (e : Fin 68) (a : IArgs) (s : State), s.fits e false false →
    let x := s.effAddr e a
    let ok := fun (size : Nat) (zx : Bool) (c : Instr) => x % size = 0 →
      mayLoad (isCore e) (s.eng e).mode (zoneOf (isCore e) x) size zx = true →
      ∀ v u, s.loadFrom e x size = (some v, u) →
        s.endsFrom u c e ((u.eng e).setG a.rd.toNat (extend zx size v)) false false
    ok 1 false (.lb e a) ∧ ok 1 true (.lbu e a) ∧ ok 2 false (.lh e a) ∧ ok 2 true (.lhu e a) ∧
    ok 4 false (.lw e a) ∧ ok 4 true (.lwu e a) ∧ ok 8 true (.ld e a)) ∧
  (∀ v size : Nat, size = 1 ∨ size = 2 ∨ size = 4 ∨ size = 8 → v < 256 ^ size →
    (extend true size v).toNat = v ∧
    (extend false size v).toInt = if v < 2 ^ (8 * size - 1) then (v : Int) else (v : Int) - (2 : Int) ^ (8 * size)) ∧
  (∀ (s : State) (e x size : Nat),
    (((s.eng e).sbuf.all (fun w => !w.overlaps x size)) = true → s.isUe e x = false →
      s.sramLoad e x size = (some (partDw (s.sramDw e x) x size), s)) ∧
    (∀ older younger w, (s.eng e).sbuf = older ++ w :: younger → younger.all (fun y => !y.overlaps x size) = true →
      w.overlaps x size = true → w.covers x size = true →
      s.sramLoad e x size = (some (w.val / 256 ^ (x - w.addr) % 256 ^ size), s)) ∧
    (∀ older younger w, (s.eng e).sbuf = older ++ w :: younger → younger.all (fun y => !y.overlaps x size) = true →
      w.overlaps x size = true → w.covers x size = false →
      let t := (s.drainN e (older.length + 1)).engCount e 3 4
      t.isUe e x = false → s.sramLoad e x size = (some (partDw (t.sramDw e x) x size), t)))

/-- R334, R350, R380: stores that are aligned. To the data SRAM: with room in the store buffer the store joins it as its youngest
entry, and memory is as before; with none, the oldest entry is drained first, and the stall counted. To the program store, SW
and SD alone: it joins the code-write window, and the program store is as before. To a register, SD alone: as regStore says.
What the mode does not permit, SB and SH to another zone among it, raises STORE_ACCESS with the address. R380: a drained store, then a load of the same bytes:
whatever the buffer held, after the drain the SRAM holds the youngest store's value, and every doubleword that no store of
the buffer touches is as before. R350 to R352: a store into the code-write window. It merges into its doubleword's entry, or
takes a new one while fewer than 16, or 64 on a core, are used; a full window refuses a new one, and the engine raises
CWIN_FULL. The program store, and so what a fetch sees, stays as it was; a load by the engine sees the stored bytes. A drain
of a window whose entries name different doublewords makes the program store what the engine's loads saw, and empties the
window. Completes: SB, SH, SW, SD. -/
def Obligations.MuziaStores : Prop :=
  (∀ (e : Fin 68) (a : IArgs) (s : State), s.fits e false false →
    let x := s.effAddr e a
    let z := zoneOf (isCore e) x
    let ok := fun (size : Nat) (c : Instr) => x % size = 0 → mayStore (isCore e) (s.eng e).mode z size x = true →
      let v := (s.rg e a.rd).toNat % 256 ^ size
      let w : SbEntry := { addr := x, size := size, val := v }
      (z.isSram = true → (s.eng e).sbuf.length < sbCap e →
        s.endsFrom s c e { s.eng e with sbuf := (s.eng e).sbuf ++ [w] } false false) ∧
      (∀ old rest, z.isSram = true → sbCap e ≤ (s.eng e).sbuf.length → (s.eng e).sbuf = old :: rest →
        let u := ((s.engCount e 2 3).updEng e (fun x => { x with sbuf := rest })).sramWrite e old.addr old.size old.val
        s.endsFrom u c e { u.eng e with sbuf := rest ++ [w] } false false) ∧
      (z = .prog → ∀ u, s.cwStore e x size v = some u → s.endsFrom u c e (u.eng e) false false) ∧
      (z = .regs → ∀ u, s.regStore e x v = .next u false → s.endsFrom u c e (u.eng e) false false)
    let denied := fun (size : Nat) (c : Instr) => x % size = 0 →
      mayStore (isCore e) (s.eng e).mode z size x = false ∨ (z.isSram = false ∧ size < (if z = .prog then 4 else 8)) ∨ z = .none →
      Answers c s (fun t => t = s.exc e 0x09 x)
    ok 1 (.sb e a) ∧ ok 2 (.sh e a) ∧ ok 4 (.sw e a) ∧ ok 8 (.sd e a) ∧
    denied 1 (.sb e a) ∧ denied 2 (.sh e a) ∧ denied 4 (.sw e a) ∧ denied 8 (.sd e a)) ∧
  (∀ (s : State) (e : Nat),
    (∀ w rest, (s.eng e).sbuf = rest ++ [w] → w.size = 1 ∨ w.size = 2 ∨ w.size = 4 ∨ w.size = 8 →
      w.addr % w.size = 0 → w.val < 256 ^ w.size → partDw ((s.drain e).sramDw e w.addr) w.addr w.size = w.val) ∧
    (∀ d, ((s.eng e).sbuf.all (fun w => w.addr / 8 != d)) = true → (s.drain e).sramDw e (8 * d) = s.sramDw e (8 * d)) ∧
    ((s.drain e).eng e).sbuf = []) ∧
  (∀ (s : State) (e a size v : Nat), size = 4 ∨ size = 8 → a % size = 0 → v < 256 ^ size →
    (∀ u, s.cwStore e a size v = some u →
      u.img = s.img ∧ partDw (u.progDw e a) a size = v ∧ (∀ k, k ≠ e → u.eng k = s.eng k) ∧
      ((u.eng e).cwin.length = (s.eng e).cwin.length ∨ (u.eng e).cwin.length = (s.eng e).cwin.length + 1 ∧
        (u.eng e).cwin.length ≤ if e < 64 then 16 else 64)) ∧
    ((s.cwAt e a).isNone = true → (if e < 64 then 16 else 64) ≤ (s.eng e).cwin.length →
      s.cwStore e a size v = none ∧
      (zoneOf (isCore e) a = .prog → ∃ u, s.storeTo e a size v = .raise u 0x0A a ∧ u = s)) ∧
    (((s.eng e).cwin.map (fun c => c.dw)).Nodup →
      (∀ b, (s.drainCode e).storeDw e b = s.progDw e b % 2 ^ 64) ∧ ((s.drainCode e).eng e).cwin = []))

/-- R335: an AMO of 4 or 8 bytes at an aligned address of the data SRAM that the mode may use: the store buffer drains, the word
takes the operation's result in one access, and rd receives the old value, sign-extended at 4 bytes. CAS compares with rd
before it is written. R353: BMOV on a core: with both ranges permitted and no uncorrectable word in the source, g[rt] bytes
from g[rs] are moved to g[rd] and no register is written: each byte of the destination is the source's byte as it was before,
the code-write window seen, whatever of the two ranges overlaps, and every other byte of the data SRAM is as before. Completes: AMO_ADD, AMO_AND, AMO_OR, AMO_XOR, AMO_SMIN, AMO_SMAX,
AMO_UMIN, AMO_UMAX, AMO_SWAP, AMO_CAS, BMOV. -/
def Obligations.MuziaAtomicsAndMoves : Prop :=
  (∀ (e : Fin 68) (a : AmoArgs) (s : State), s.fits e false false → a.u = 0 → 2 ≤ a.sz.toNat →
    let size := if a.sz = 2 then 4 else 8
    let x := (s.rg e a.rs).toNat
    let z := zoneOf (isCore e) x
    x % size = 0 → z.isSram = true → sramMay (s.eng e).mode z = true →
    let u := s.drain e
    u.isUe e x = false →
    let old := partDw (u.sramDw e x) x size
    let v := (u.rg e a.rt).toNat % 256 ^ size
    let cmp := (u.rg e a.rd).toNat % 256 ^ size
    let ok := fun (c : Instr) (new : Nat) =>
      let w := u.sramWrite e x size (new % 256 ^ size)
      s.endsFrom w c e ((w.eng e).setG a.rd.toNat (extend false size old)) false false
    ok (.amoAdd e a) (old + v) ∧ ok (.amoAnd e a) (old &&& v) ∧ ok (.amoOr e a) (old ||| v) ∧ ok (.amoXor e a) (old ^^^ v) ∧
    ok (.amoSmin e a) (if signedOf size v < signedOf size old then v else old) ∧
    ok (.amoSmax e a) (if signedOf size old < signedOf size v then v else old) ∧
    ok (.amoUmin e a) (min old v) ∧ ok (.amoUmax e a) (max old v) ∧ ok (.amoSwap e a) v ∧
    ok (.amoCas e a) (if old = cmp then v else old)) ∧
  (∀ (e : Fin 68) (a : BmovArgs) (s : State), s.fits e false false → isCore e = true → a.u = 0 →
    let n := (s.rg e a.rt).toNat
    let src := (s.rg e a.rs).toNat
    let dst := (s.rg e a.rd).toNat
    n ≤ 4096 → bmovSrcOk (s.eng e).mode src n = true → bmovDstOk (s.eng e).mode dst n = true →
    let u := s.drain e
    (∀ i < n, u.srcUe e (src + i) = false) →
    let w := u.bmove e src dst n
    s.endsFrom w (.bmov e a) e (w.eng e) false false) ∧
  (∀ (s : State) (e src dst n : Nat),
    let w := s.bmove e src dst n
    (∀ i, i < n → partDw (w.sramDw e (dst + i)) (dst + i) 1 =
      partDw (if src + i < 0x80000 then s.progDw e (src + i) else s.sramDw e (src + i)) (src + i) 1) ∧
    (∀ x, x < dst ∨ dst + n ≤ x → partDw (w.sramDw e x) x 1 = partDw (s.sramDw e x) x 1) ∧
    w.img = s.img ∧ w.regs = s.regs ∧ w.pans = s.pans ∧ (w.eng e).g = (s.eng e).g)

/-- R355, R356: floating-point instructions of a core in the format that P selects, under FCSR.RM: the result in rd, with zeros
above an FP32 value, and the flags added to FCSR's. rt is unused in those of one operand. (MuziaFloatLaws says what the
functions of the values give.) Completes: FADD, FSUB, FMUL, FDIV,
FMIN, FMAX, FEQ, FLT, FLE, FSQRT, FCVT_I, FCVT_F, FCVT_P, FNEG, FABS. -/
def Obligations.MuziaFloatResults : Prop :=
  ∀ (e : Fin 68) (a : FArgs) (s : State), s.fits e false false → isCore e = true → a.u = 0 →
    let f := fmtOf a.p
    let g := fmtOf (!a.p)
    let r := rndOf (bitsOf (s.eng e).fcsr.toNat 9 8)
    let x := s.rg e a.rs
    let y := s.rg e a.rt
    let fx := f.dec (f.bitsIn x)
    let fy := f.dec (f.bitsIn y)
    let ok := fun (c : Instr) (v : Nat × Nat) =>
      s.endsFrom s c e (({ s.eng e with fcsr := (s.eng e).fcsr ||| BitVec.ofNat 64 v.2 } : Engine).setG a.rd.toNat
        (BitVec.ofNat 64 v.1)) false false
    ok (.fadd e a) (f.addV r fx fy) ∧ ok (.fsub e a) (f.addV r fx fy.neg) ∧ ok (.fmul e a) (f.mulV r fx fy) ∧
    ok (.fdiv e a) (f.divV r fx fy) ∧ ok (.fmin e a) (f.minMax false (f.bitsIn x) (f.bitsIn y)) ∧
    ok (.fmax e a) (f.minMax true (f.bitsIn x) (f.bitsIn y)) ∧ ok (.feq e a) (f.eqB (f.bitsIn x) (f.bitsIn y)) ∧
    ok (.flt e a) (f.ltB false (f.bitsIn x) (f.bitsIn y)) ∧ ok (.fle e a) (f.ltB true (f.bitsIn x) (f.bitsIn y)) ∧
    (a.rt = 0 →
      ok (.fsqrt e a) (f.sqrtV r fx) ∧ ok (.fcvtI e a) (fx.toInt r) ∧ ok (.fcvtF e a) (f.ofInt r x.toNat) ∧
      ok (.fcvtP e a) (f.conv r (g.dec (g.bitsIn x))) ∧ ok (.fneg e a) (f.bitsIn x ^^^ 2 ^ (f.width - 1), 0) ∧
      ok (.fabs e a) (f.bitsIn x % 2 ^ (f.width - 1), 0))

/-- R344 to R351: the system instructions in a mode that permits them. MFS reads and MTS writes a special register (R325, R326);
MODE sets the mode and holds interrupts for one instruction; RESUME takes PC from EPC and STATUS from ESTATUS, and holds them
too (a mode in ESTATUS that the engine never holds leaves a free legal mode, log entry 27); IFLUSH drains the code-write
window; the FENCEs drain the store buffer, FENCE.CODE changes nothing of this model; STEP closes a step, with W the cursor;
WAIT waits unless a source is pending and enabled, and WAIT_WAKE ends it. Completes: MFS, MTS, MODE, RESUME, IFLUSH,
FENCE_INSTRUCTION, FENCE_DEVICE, FENCE_CODE, STEP, WAIT, WAIT_WAKE. -/
def Obligations.MuziaSystemResults : Prop :=
  ∀ (e : Fin 68) (a : SArgs) (s : State),
    let x := s.eng e
    (∀ r, s.fits e false false → a.rs = 0 → spOf (isCore e) a.sr.toNat = some r → r.mayRead x.mode = true →
      s.writes (.mfs e a) e a.rd (s.spGet e r)) ∧
    (∀ r, s.fits e false (r == .status) → a.rd = 0 → spOf (isCore e) a.sr.toNat = some r → r.readOnly = false →
      r.mayWrite x.mode = true → (r = .status → badMode (isCore e) ((s.rg e a.rs).toNat % 4) = false) →
      s.endsFrom s (.mts e a) e (x.spSet (isCore e) r (s.rg e a.rs)) false (r == .status)) ∧
    (s.fits e false true → a.rd = 0 → a.rs = 0 → a.sr.toNat < 4 → badMode (isCore e) (a.sr.toNat % 4) = false →
      x.mode = 1 ∨ (x.mode = 2 ∧ a.sr.toNat ≠ 1) →
      s.endsFrom s (.mode e a) e (x.setMode (a.sr.toNat % 4)) false true) ∧
    (s.fits e true true → a.rd = 0 → a.rs = 0 → a.sr = 0 → x.mode = 1 → badMode (isCore e) (x.estatus.toNat % 4) = false →
      Answers (.resume e a) s (fun t => s.onlyEngine t e ({ x with
        status := statusOfSaved (isCore e) x.estatus
        pc := x.epc &&& ~~~3 } |>.closed x false true))) ∧
    (s.fits e true true → a.rd = 0 → a.rs = 0 → a.sr = 0 → x.mode = 1 → badMode (isCore e) (x.estatus.toNat % 4) = true →
      Answers (.resume e a) s (fun t => badMode (isCore e) (t.eng e).mode = false ∧ (t.eng e).pc = x.epc &&& ~~~3)) ∧
    (s.fits e false true → a.rd = 0 → a.rs = 0 → a.sr = 0 → x.mode ≠ 0 →
      s.endsFrom (s.drainCode e) (.iflush e a) e ((s.drainCode e).eng e) false false) ∧
    (s.fits e false false → a.rd = 0 → a.rs = 0 →
      s.endsFrom (s.drain e) (.fenceInstruction e a.rd a.rs) e ((s.drain e).eng e) false false ∧
      s.endsFrom (s.drain e) (.fenceDevice e a.rd a.rs) e ((s.drain e).eng e) false false ∧
      s.endsFrom s (.fenceCode e a.rd a.rs) e x false false) ∧
    (s.fits e false true → isCore e = false → a.rd = 0 → a.sr.toNat < 2 → x.mode = 2 →
      let u := ((s.drain e).updPan e (fun p => { p with slCount := 0 })).engCount e 0 0
      s.endsFrom u (.step e a) e
        (if a.sr.toNat.testBit 0 then { u.eng e with cursor := s.rg e a.rs } else u.eng e) true false) ∧
    (s.fits e false true → a.rd = 0 → a.rs = 0 → a.sr = 0 → x.mode = 1 →
      s.endsFrom (s.drain e) (.wait e a) e { (s.drain e).eng e with waiting := !s.irq e } false false) ∧
    (s.alive = true → x.runs = true → x.waiting = true → s.irq e = true →
      Answers (.waitWake e) s (fun t => t = s.updEng e (fun y => { y with waiting := false })))

/-- R360, R343: the entry of a handler for an exception with cause code and EVAL, on an engine whose HACT is 0. ESTATUS holds STATUS; STATUS is privileged, with IE 0, HACT 1, EBD as the delay slot says
and DET as it was; EPC is the instruction's address, or that of the transfer whose slot it stands in; the PC is EVEC + 0x10
times the code; the store buffer has drained; no general register and no loop register changes. R244, R374, R376: MEM_UE leaves
the record of the SRAM beside it, and STEP_LIMIT that of the step: the engine counts it for the event, and the fourth one
halts it, with no handler. -/
def Obligations.MuziaExceptionEntry : Prop :=
  ∀ (s : State) (e code eval : Nat), code < 0x10 → (s.eng e).hact = false →
    let added := fun (t u : State) (i : ErrInfo) => t.err.log.length < 4095 →
      ∃ rest, rest.length ≤ 1 ∧ u.err.log = t.err.log ++ i.words t.err.seq t.now :: rest
    let entered := fun (t : State) => (t.drain e).updEng e (fun x => x.enter code eval (0x10 * code))
    (code ≠ 0x0B → code ≠ 0x0E → s.exc e code eval = entered s) ∧
    (code = 0x0B → ∃ u : State, s.exc e code eval = entered u ∧ u.pans = s.pans ∧ u.regs = s.regs ∧
      added s u { unit := uEng e, cls := 1, code := 0x0108, detail := 9 + 16 * (eval / 8) }) ∧
    (code = 0x0E → e < 64 →
      let t := entered s
      let n := (s.pan e).slCount + 1
      let typ := match s.selEvt e with | some v => v.typ | none => 0
      let rec_ : ErrInfo :=
        { unit := uEng e, cls := 2, code := 0x0501, detail := typ + (t.eng e).epc.toNat % 65536 * 256 }
      (n < 4 → ((s.exc e code eval).pan e).slCount = n ∧ added t (s.exc e code eval) rec_) ∧
      (4 ≤ n → s.mode.cur ≠ .off → ((s.exc e code eval).eng e).halted = true ∧ (s.exc e code eval).holding = true)) ∧
    ((code = 0x0E → e < 64 ∧ (s.pan e).slCount < 3) →
    let x := s.eng e
    let y := (s.exc e code eval).eng e
    y.estatus = x.status ∧ y.mode = 1 ∧ y.ie = false ∧ y.hact = true ∧ y.status.toNat.testBit 5 = x.slot.isSome ∧
    y.status.toNat.testBit 3 = x.status.toNat.testBit 3 ∧
    y.epc = (match x.slot with | some b => b.owner | none => x.pc) ∧
    y.ecause = BitVec.ofNat 64 code ∧ y.eval = BitVec.ofNat 64 eval ∧ y.pc = x.evec + BitVec.ofNat 64 (0x10 * code) ∧
    y.slot = none ∧ y.sbuf = [] ∧ y.g = x.g ∧ y.loops = x.loops ∧ y.evec = x.evec ∧ y.sscr = x.sscr ∧ y.cursor = x.cursor ∧
    y.fcsr = x.fcsr ∧ y.imask = x.imask ∧ y.cwin = x.cwin ∧
    (code ≠ 0x0E → (s.exc e code eval).pans = s.pans ∧ (s.exc e code eval).regs = s.regs ∧ (s.exc e code eval).img = s.img))

/-- R361, R377, R386: an exception while HACT is 1 enters no handler. The engine halts; EPC, ECAUSE, EVAL, ESTATUS, STATUS and
the general registers keep their values; a core's SM_STATUS shows EPC and the code, and a pan engine leaves the fatal record
ENG_HALT, after the record that MEM_UE or STEP_LIMIT leaves (R244, R374). -/
def Obligations.MuziaDoubleFault : Prop :=
  ∀ (s : State) (e code eval : Nat), e < 68 → (s.eng e).hact = true →
    let x := s.eng e
    let y := (s.exc e code eval).eng e
    y.halted = true ∧ y.epc = x.epc ∧ y.ecause = x.ecause ∧ y.eval = x.eval ∧ y.estatus = x.estatus ∧ y.status = x.status ∧
    y.pc = x.pc ∧ y.g = x.g ∧ y.loops = x.loops ∧ y.sbuf = x.sbuf ∧
    (64 ≤ e → y.haltEpc = x.epc ∧ y.haltCode = x.ecause.toNat % 256) ∧
    (e < 64 →
      let t := if code = 0x0B then s.ueRecord e eval else if code = 0x0E then s.stepNoted e else s
      s.exc e code eval = t.engHalt e (x.ecause.toNat % 256) 0)

/-- R358, R359: the cause that an instruction meets before it executes, in the order of R359: STEP_LIMIT, FETCH_ACCESS, MEM_UE on
fetch, LOOP_FORM, ILLEGAL. Each is raised, and the instruction does nothing else. R329, R336, R344, R350, R358, R359:
exceptions of the instruction itself. A non-zero unused field raises ILLEGAL with the word; a system instruction in a mode
that does not permit it raises PRIV with the word; a jump to an address that is no multiple of 4, FETCH_ALIGN with the
target; a load, store or AMO at an address that is no multiple of its size, LOAD_ALIGN or STORE_ALIGN, and one that the mode
does not permit, LOAD_ACCESS or STORE_ACCESS, with the address. -/
def Obligations.MuziaExceptionCauses : Prop :=
  (∀ (s : State) (e : Nat) (i : Ins) (body : State → Done),
    s.alive = true → (s.eng e).runs = true → (s.eng e).waiting = false →
    let x := s.eng e
    let a := x.pc.toNat
    let limit := x.mode = 2 ∧ 256 ≤ x.count
    let outside := zoneOf (isCore e) a ≠ .prog
    let form := (x.atLe 0 = true ∨ x.atLe 1 = true) ∧ (i.xfer = true ∨ x.slot.isSome = true)
    let ill := i.legal = false ∨ (i.noSlot = true ∧ x.slot.isSome = true)
    (limit → s.runIns e i body = s.exc e 0x0E 0) ∧
    (¬limit → outside → s.runIns e i body = s.exc e 0x05 a) ∧
    (¬limit → ¬outside → s.isUe e a = true → s.runIns e i body = s.exc e 0x0B (a / 8 * 8)) ∧
    (¬limit → ¬outside → s.isUe e a = false → form → s.runIns e i body = s.exc e 0x03 a) ∧
    (¬limit → ¬outside → s.isUe e a = false → ¬form → ill → s.runIns e i body = s.exc e 0x01 i.word) ∧
    (¬limit → ¬outside → s.isUe e a = false → ¬form → ¬ill → ∀ t c v, body s = .raise t c v → s.runIns e i body = t.exc e c v)) ∧
  ((∀ (e : Fin 68) (a : RArgs) (s : State), s.fits e false false → a.u ≠ 0 →
    Answers (.addR e a) s (fun t => t = s.exc e 0x01 (wordR 0 a.rd a.rs a.rt (a.u.toNat * 64))) ∧
    Answers (.div e a) s (fun t => t = s.exc e 0x01 (wordR 1 a.rd a.rs a.rt (a.u.toNat * 64 + 3)))) ∧
  (∀ (e : Fin 68) (a : SArgs) (s : State), s.fits e false true → a.rd = 0 → a.rs = 0 → a.sr = 0 → (s.eng e).mode = 0 →
    Answers (.iflush e a) s (fun t => t = s.exc e 0x02 (wordS a 7)) ∧
    Answers (.wait e a) s (fun t => t = s.exc e 0x02 (wordS a 0x0A)) ∧
    Answers (.mode e { a with sr := 1 }) s (fun t => t = s.exc e 0x02 (wordS { a with sr := 1 } 3))) ∧
  (∀ (e : Fin 68) (a : IArgs) (s : State), s.fits e true true → a.rd = 0 →
    let dest := (s.rg e a.rs + a.imm.signExtend 64).toNat
    dest % 4 ≠ 0 → Answers (.jmp e a) s (fun t => t = s.exc e 0x04 dest) ∧ Answers (.callr e a) s (fun t => t = s.exc e 0x04 dest)) ∧
  (∀ (e : Fin 68) (a : IArgs) (s : State), s.fits e false false →
    let x := s.effAddr e a
    let z := zoneOf (isCore e) x
    let m := (s.eng e).mode
    (x % 8 ≠ 0 → Answers (.ld e a) s (fun t => t = s.exc e 0x06 x) ∧ Answers (.sd e a) s (fun t => t = s.exc e 0x07 x)) ∧
    (x % 4 ≠ 0 → Answers (.lw e a) s (fun t => t = s.exc e 0x06 x) ∧ Answers (.sw e a) s (fun t => t = s.exc e 0x07 x)) ∧
    (x % 8 = 0 → z = .none ∨ (z = .low ∧ m ≠ 1) ∨ ((z = .prog ∨ z = .regs) ∧ m = 0) →
      Answers (.ld e a) s (fun t => t = s.exc e 0x08 x) ∧ Answers (.sd e a) s (fun t => t = s.exc e 0x09 x)) ∧
    (z = .prog → Answers (.sb e a) s (fun t => t = s.exc e 0x09 x))) ∧
  (∀ (e : Fin 68) (a : AmoArgs) (s : State), s.fits e false false → a.u = 0 → a.sz = 3 →
    let x := (s.rg e a.rs).toNat
    (x % 8 ≠ 0 → Answers (.amoAdd e a) s (fun t => t = s.exc e 0x07 x)) ∧
    (x % 8 = 0 → (zoneOf (isCore e) x).isSram = false → Answers (.amoAdd e a) s (fun t => t = s.exc e 0x09 x))))

/-- R344, R346, R358: TRAP and DEBUG raise their exceptions with SR as EVAL, in every mode; R360, R362, R383: an interrupt entry,
where an engine may take one, saves the next address, records source n, goes to EVEC + 0x200 + 0x10 n, and ends the pending
of an edge source. Completes: TRAP, DEBUG, INTERRUPT_ENTRY. -/
def Obligations.MuziaTrapsAndInterrupts : Prop :=
  (∀ (e : Fin 68) (a : SArgs) (s : State), s.fits e true true → a.rd = 0 → a.rs = 0 →
    Answers (.trap e a) s (fun t => t = s.exc e 0x0C a.sr.toNat) ∧ Answers (.debug e a) s (fun t => t = s.exc e 0x0D a.sr.toNat)) ∧
  (∀ (e : Fin 68) (s : State), s.alive = true → (s.eng e).runs = true → (s.eng e).ie = true → (s.eng e).hact = false →
    s.irq e = true → s.ipendOf e < 2 ^ 32 → (s.eng e).slot = none → (s.eng e).hold = false → (s.eng e).mode ≠ 2 ∨ (s.eng e).stepEnd = true →
    Answers (.interruptEntry e) s (fun t =>
      let x := s.eng e
      let y := t.eng e
      let n := s.irqSource e
      y.estatus = x.status ∧ y.mode = 1 ∧ y.ie = false ∧ y.hact = true ∧ y.status.toNat.testBit 5 = false ∧ y.epc = x.pc ∧
      y.ecause.toNat = 2 ^ 63 + n ∧ y.eval = 0 ∧ y.pc = x.evec + BitVec.ofNat 64 (0x200 + 0x10 * n) ∧ y.sbuf = [] ∧ y.g = x.g ∧
      y.loops = x.loops ∧ (s.ipendOf e).testBit n = true ∧ x.imask.toNat.testBit n = true ∧
      (∀ k < n, ((s.ipendOf e).testBit k && x.imask.toNat.testBit k) = false) ∧
      (isCore e = true → n = 1 ∨ n = 4 ∨ n = 5 → y.ipend.testBit n = false)))

/-- R426, R437, R440, R441: POWER_ON clears everything and enters RAMP; POWER_OFF leaves nothing powered and nothing kept;
RAMP_TO_BLANK samples the straps (R22) and enters BLANK with every register as it was; a device reset, by PWR_GOOD or
DEV_RESET_N, keeps what R437 and R495 keep and resets the rest: RAMP is entered, or the device stays in reset until
DEV_RESET_N rises and BLANK is entered with the straps sampled; a rail out of range (R506, log entry 24) leaves registers,
machine time, image and engines, and the first rise of PWR_GOOD after a loss clears the rest; the TAP holds an instruction
(R512). A device reset that ends an override of Sluice records its end (R445). R437, R495: what a device reset keeps and what it
clears, for every register, key, counter and lasting mark. A register keeps its value exactly when it is a key register, an
erasure or a bucket; the machine time's count, lock and offset, the log's sequence number, the fatal mark, the posted-fault
number and the policy's number, the keys, the command counter and the generation, retirements and the exhausted mark of each
bed stay; the log, the pans, the ports, the engines and the harvest are as after power-on. Completes: POWER_ON, POWER_OFF,
RAMP_TO_BLANK, PWR_GOOD_LOW, DEV_RESET_N_ASSERT, DEV_RESET_N_RELEASE, RAIL_OUT_OF_RANGE, TAP_INSTRUCTION. -/
def Obligations.PowerAndReset : Prop :=
  (∀ (s : State) (head : Bool) (id : BitVec 6),
    let m := s.mode.cur
    (m = .off → Answers .powerOn s (fun t => t.mode.cur = .ramp ∧ t.mode.inReset = false ∧ t.regs = [] ∧ t.parity = [] ∧
      t.pans = [] ∧ t.mt = State.reset.mt ∧ t.img = State.reset.img ∧ t.sl = State.reset.sl ∧ t.mode.pwrLow = true ∧
      t.pending = s.pending)) ∧
    Answers .powerOff s (fun t => t = { State.reset with
      pending := s.pending, freeIx := s.freeIx, mode := { cur := .off, target := .off } }) ∧
    (m = .ramp → s.mode.inReset = false → s.mode.railBad = false → Answers (.rampToBlank head id) s (fun t =>
      t.mode.cur = .blank ∧ t.mode.head = head ∧ t.mode.devid = id.toNat ∧ t.regs = s.regs ∧ t.mt = s.mt ∧ t.img = s.img ∧
      t.pans = s.pans)) ∧
    (m = .ramp → s.mode.inReset = false → s.mode.railBad = true → s.mode.pwrLow = true → Answers (.rampToBlank head id) s (fun t =>
      t.mode.cur = .blank ∧ t.mode.head = head ∧ t.mode.devid = id.toNat ∧ t.mode.railBad = false ∧ t.regs = keptOnly s.regs ∧
      t.pans = [])) ∧
    (m = .ramp → Answers .pwrGoodLow s (fun t => t = { s with mode := { s.mode with pwrLow := true } })) ∧
    (m ≠ .off → m ≠ .ramp → s.mode.railBad = false → Answers .pwrGoodLow s (fun t => t.mode.cur = .ramp ∧ t.mode.head = s.mode.head ∧
      t.mode.devid = s.mode.devid ∧ t.mode.pwrLow = true ∧ t.regs = keptOnly s.regs ∧ t.pans = [] ∧ t.img.prog = [] ∧
      t.img.keySet = s.img.keySet ∧ t.img.counter = s.img.counter ∧ t.img.lastGen = s.img.lastGen)) ∧
    (m ≠ .off → m ≠ .ramp → s.mode.inReset = false → s.mode.railBad = false → Answers .devResetNAssert s (fun t => t.mode.cur = .blank ∧
      t.mode.inReset = true ∧ t.mode.left = m ∧ t.regs = keptOnly s.regs ∧ t.pans = [] ∧
      (s.sl.override_ = false → t.err.log = [] ∧ t.err.seq = s.err.seq) ∧
      (s.sl.override_ = true → ∃ rest, rest.length ≤ 1 ∧
        t.err.log = ErrInfo.words { unit := uSluice, cls := 0, code := 0x0708, detail := 0 } s.err.seq s.now :: rest) ∧
      t.img.prog = [] ∧ t.img.keySet = s.img.keySet ∧ t.img.counter = s.img.counter)) ∧
    (m = .ramp → s.mode.inReset = false → Answers .devResetNAssert s (fun t =>
      t = { s with mode := { s.mode with inReset := true } })) ∧
    (s.mode.inReset = true → m ≠ .ramp → Answers (.devResetNRelease head id) s (fun t => t.mode.cur = .blank ∧
      t.mode.inReset = false ∧ t.mode.head = head ∧ t.mode.devid = id.toNat ∧ t.regs = s.regs ∧ t.img = s.img)) ∧
    (s.mode.inReset = true → m = .ramp → Answers (.devResetNRelease head id) s (fun t =>
      t = { s with mode := { s.mode with inReset := false, head := head, devid := id.toNat } })) ∧
    (m ≠ .off → Answers .railOutOfRange s (fun t => t.mode = { s.mode with railBad := true, pwrLow := false } ∧ t.regs = s.regs ∧
      t.mt = s.mt ∧ t.img = s.img ∧ t.engines = s.engines ∧ t.sl = s.sl)) ∧
    (∀ i, m ≠ .off → Answers (.tapInstruction i) s (fun t => t = { s with mode := { s.mode with tap := i } }))) ∧
  (∀ (s : State) (m : Mode),
    let t := s.cleared m
    (∀ o, keptOffset o = true → sget t.regs o 0 = sget s.regs o 0 ∧ sget t.parity o none = sget s.parity o none) ∧
    (∀ o, keptOffset o = false → t.rv o = resetAt o % 2 ^ 64) ∧
    t.mt.tick = s.mt.tick ∧ t.mt.c = s.mt.c ∧ t.mt.st = s.mt.st ∧ t.mt.offset = s.mt.offset ∧ t.mt.slew = s.mt.slew ∧
    t.mt.applyPend = none ∧ t.err.log = [] ∧ t.err.seq = s.err.seq ∧ t.err.fatal = s.err.fatal ∧ t.err.pfSeq = s.err.pfSeq ∧
    t.ru.polSeq = s.ru.polSeq ∧ t.img.keyWritten = s.img.keyWritten ∧ t.img.keySet = s.img.keySet ∧
    t.img.counter = s.img.counter ∧ t.img.lastGen = s.img.lastGen ∧ t.img.retireBed = s.img.retireBed ∧
    t.img.retireMp = s.img.retireMp ∧ t.img.prog = [] ∧ t.img.inForce = false ∧
    (∀ b, b < 8 → t.bed b = { exhausted := (s.bed b).exhausted, exhRaised := (s.bed b).exhRaised }) ∧
    t.pans = [] ∧ t.hinges = State.reset.hinges ∧ t.knuckles = State.reset.knuckles ∧ t.memports = State.reset.memports ∧
    t.engines = State.reset.engines ∧ t.hv = { State.reset.hv with lastPer := s.now, lastDump := s.now } ∧ t.fab = State.reset.fab ∧
    t.mode.devid = s.mode.devid ∧ t.mode.head = s.mode.head ∧ t.mode.thermTrip = s.mode.thermTrip ∧ t.pending = s.pending)

/-- R426, R427: a mode request by register where it is legal, and its refusal. From PROVE or DRAIN a request for SERVICE enters
SERVICE, or LEAN while a LEAN cause is in force; from SERVICE or LEAN a request for DRAIN enters DRAIN; every other request,
and every one while BUSY is 1, leaves the mode and sets REFUSED; one for the mode in force changes nothing. R426, R433 to
R435, R440, R448: how a transition in progress ends, how training ends, and what BIST does; a mode command that waited for it
is carried out at its end. Completes: MODE_COMMIT_NOW,
MODE_COMMIT_TIMED, MODE_REQUEST_INSTANT, MODE_TRANSITION_DONE, TRAINING_COMPLETE, TRAIN_TIMEOUT, STACK_INIT_COMPLETE,
VOUT_MODE_READ, BIST_GO, BIST_DONE. -/
def Obligations.ModeChanges : Prop :=
  (∀ (s : State), s.alive = true →
    let m := s.mode.cur
    (s.mode.busy = false → m = .prove ∨ m = .drain → Answers (.modeCommitNow 6) s (fun t =>
      t.mode.cur = (if s.leanCause then .lean else .service) ∧ t.mode.busy = false ∧ t.mode.refused = false)) ∧
    (s.mode.busy = false → m = .service ∨ m = .lean → Answers (.modeCommitNow 7) s (fun t =>
      t.mode.cur = .drain ∧ t.mode.busy = false ∧ t.mode.refused = false)) ∧
    (s.mode.busy = false → (m = .service ∨ m = .drain) → Answers (.modeCommitNow (if m = .service then 6 else 7)) s (fun t =>
      t.mode = { s.mode with pend := none, refused := false })) ∧
    (∀ req : BitVec 4,
      s.mode.busy = true ∨ ((req ≠ 6 ∨ (m ≠ .prove ∧ m ≠ .drain ∧ m ≠ .service)) ∧
        (req ≠ 7 ∨ (m ≠ .service ∧ m ≠ .lean ∧ m ≠ .drain))) →
      Answers (.modeCommitNow req) s (fun t => t.mode = { s.mode with pend := none, refused := true })) ∧
    (∀ req : BitVec 4, schedule s.now (s.rv 0x310) = .pending →
      Answers (.modeCommitTimed req) s (fun t => t.mode.pend = some (s.rv 0x310) ∧ t.mode.cur = m ∧ t.rf 0x308 11 8 = req.toNat)) ∧
    (∀ at_, s.mode.pend = some at_ → s.mode.cmdPend = none → reached s.now at_ = true → s.mode.busy = false → m = .service →
      s.rf 0x308 11 8 = 7 → Answers .modeRequestInstant s (fun t => t.mode.cur = .drain ∧ t.mode.pend = none))) ∧
  (∀ (s : State),
    let m := s.mode.cur
    (s.mode.busy = true → s.mode.target = .hold → s.flushed = true → Answers .modeTransitionDone s (fun t =>
      t.mode.cur = .hold ∧ t.mode.busy = false)) ∧
    (s.mode.busy = true → s.mode.target = .test → s.flushed = true → Answers .modeTransitionDone s (fun t =>
      t.mode.cur = .test ∧ t.mode.busy = false)) ∧
    (s.mode.busy = true → s.mode.target = .prove → s.stacksReady = true → Answers .modeTransitionDone s (fun t =>
      t.mode.cur = .prove ∧ t.mode.busy = false)) ∧
    (m = .train → s.mode.busy = false → s.stacksReady = true → s.memReady = true → s.vrsReady = true →
      Answers .trainingComplete s (fun t => t.mode.cur = .prove ∧ t.ru.lock = true)) ∧
    (m = .train → s.mode.busy = false → s.stacksReady = false ∨ s.memReady = false ∨ s.vrsReady = false →
      max 1 (s.rf 0x308 47 32) * 1000000 ≤ dt s.mode.trainAt s.now → Answers .trainTimeout s (fun t => t.holding = true)) ∧
    (∀ p : Fin 64, m = .train ∨ (s.mode.busy = true ∧ s.mode.target = .prove) → Answers (.stackInitComplete p) s (fun t =>
      (t.pan p).cells = [] ∧ (t.pan p).mdc = [] ∧ (t.pan p).mdwq = [] ∧ (t.pan p).pred = [] ∧
      (t.bed (p / 8)).init.contains (p % 8) = true ∧ (∀ q, q ≠ p.val → t.pan q = s.pan q) ∧ t.mode = s.mode)) ∧
    (∀ addr : BitVec 7, m = .train → s.mode.vrSeen.contains addr.toNat = false → Answers (.voutModeRead addr) s (fun t =>
      t = { s with mode := { s.mode with vrSeen := addr.toNat :: s.mode.vrSeen } })) ∧
    (∀ sel : BitVec 11, s.alive = true → m = .test → s.mode.busy = false → s.mode.bist = [] → Answers (.bistGo sel) s (fun t =>
      t.mode.bist = (bistSel (2 * sel.toNat + 1)).filter s.bistMay ∧
      t.mode.bistRefused = maskOf ((bistSel (2 * sel.toNat + 1)).filter (fun i => !s.bistMay i)) ∧ t.mode.cur = .test)) ∧
    (∀ id : Fin 12, s.mode.bist.contains id.val = true → s.mode.cmdWait = [] → id.val = 1 ∨ id.val = 2 ∨ id.val = 3 ∨ id.val = 4 → Answers (.bistDone id []) s
      (fun t => t.mode.bistFail = s.mode.bistFail ∧ t.mode.bist = s.mode.bist.filter (fun i => i != id.val) ∧
        (∀ p < 64, (id.val = 1 → (t.pan p).mdc = []) ∧ (id.val = 2 → (t.pan p).mdwq = []) ∧ (id.val = 3 → (t.pan p).wb = []) ∧
          (id.val = 4 → (t.pan p).comb = [])))) ∧
    (∀ id : Fin 12, m = .test → s.mode.busy = false → s.mode.bist = [id.val] → id.val = 1 ∨ id.val = 2 ∨ id.val = 3 ∨ id.val = 4 →
      s.mode.cmdWait = [.hold] → Effects (.bistDone id []) s (fun u => u.mode.bist = [] ∧ u.mode.cmdWait = [] ∧ u.holding = true)))

/-- R483 to R487: the critical commands that pass every check of R483, and BAD_OPCODE, a block that one refuses. The counter
takes the block's COUNTER and RESULT is ACCEPTED, KEY_ROTATE setting the counters to 0; IMAGE_LOAD enters LOAD; DEVICE_RESET
comes 1 us later; MODE_CHANGE changes the mode where that is legal, at once or, where the flush or the start of the stacks
comes first, begins the change, waits for a built-in self-test that runs, and with a pending instant waits for it; KEY_ROTATE, whose unwrap gives k,
replaces the key; CLEAR_POISON raises POISON_CLEAR at the home pan; SLUICE_OVERRIDE starts or ends the override;
FIRMWARE_LOAD writes the program stores; LATCH_BREAK frees the latch; the retirements show in DEV_RETIRE. A refused block
changes nothing but RESULT, the log and the counts. Completes: IMAGE_LOAD, DEVICE_RESET, MODE_CHANGE, KEY_ROTATE,
CLEAR_POISON, SLUICE_OVERRIDE, FIRMWARE_LOAD, LATCH_BREAK, RETIRE_MEMPORT, RETIRE_BED, BAD_OPCODE. -/
def Obligations.CriticalCommandResults : Prop :=
  ∀ (s : State) (c : CmdBlk),
    let took := fun (t : State) => t.img.result = 1 ∧ t.img.counter = c.counter.toNat
    (s.accepts 1 c → Answers (.imageLoad c) s (fun t => took t ∧ t.mode.cur = .load ∧ t.img.busy = true ∧ t.img.total = c.a0.toNat ∧
      t.img.authBusy = false)) ∧
    (s.accepts 2 c → Answers (.deviceReset c) s (fun t => took t ∧ t.mode.devResetAt = some (s.now + 1000) ∧
      t.mode.cur = s.mode.cur)) ∧
    (let m := s.mode.cur
     let change := fun (a0 : BitVec 64) (p : State → Prop) => s.accepts 3 c → s.mode.busy = false → s.mode.cmdWait = [] → c.a0 = a0 →
       Effects (.modeChange c) s (fun u => took u ∧ p u)
     let ends := fun (x : Mode) (u : State) => u.mode.cur = x ∧ u.mode.busy = false ∧ u.mode.refused = false ∧ u.img.authBusy = false
     let goesTo := fun (x : Mode) (u : State) => u.mode.cur = m ∧ u.mode.busy = true ∧ u.mode.target = x ∧ u.img.authBusy = true
     (m = .prove → change 9 (ends .test)) ∧
     (m = .drain → s.drained = true → change 9 (goesTo .test)) ∧
     (m = .drain → s.drained = false → change 9 (fun u =>
       u.mode.cur = m ∧ u.mode.refused = true ∧ u.img.authBusy = false)) ∧
     (m = .test → s.mode.bist = [] → change 5 (goesTo .prove)) ∧
     (m = .test → s.mode.bist ≠ [] → change 5 (fun u =>
       u.mode.cur = m ∧ u.mode.busy = false ∧ u.mode.cmdWait = [.prove] ∧ u.img.authBusy = true)) ∧
     (m = .prove ∨ m = .service ∨ m = .lean ∨ m = .drain → change 10 (ends .recover)) ∧
     (m = .recover → change 6 (ends (if s.leanCause then .lean else .service)) ∧ change 7 (ends .drain)) ∧
     (m = .service ∨ m = .lean → change 5 (fun u => u.mode.cur = m ∧ u.mode.refused = true ∧ u.img.authBusy = false)) ∧
     (m = .load ∨ m = .train ∨ m = .prove ∨ m = .service ∨ m = .drain ∨ m = .lean ∨ (m = .test ∧ s.mode.bist = []) ∨ m = .recover →
       (s.pans.any (fun x => x.2.dataEn) = true → change 11 (goesTo .hold)) ∧
       (s.pans.any (fun x => x.2.dataEn) = false → change 11 (ends .hold))) ∧
     (∀ x, cmdModeOf (c.a0.toNat % 16) = some x → c.a0.toNat.testBit 4 = true → schedule s.now c.a1.toNat = .pending →
       s.accepts 3 c → s.mode.busy = false → s.mode.cmdWait = [] → Effects (.modeChange c) s (fun u => took u ∧
         u.mode.cur = m ∧ u.mode.cmdPend = some (c.a1.toNat, x) ∧ u.mode.pend = s.mode.pend)) ∧
     (∀ at_, s.mode.cmdPend = some (at_, .recover) → s.mode.pend = none → reached s.now at_ = true → s.mode.busy = false → m = .service →
       Effects .modeRequestInstant s (fun u => u.mode.cur = .recover ∧ u.mode.cmdPend = none))) ∧
    (s.accepts 4 c → ∀ k, kwUnwrap s.keyBytes ([c.a0, c.a1, c.a2, c.a3, c.a4].map (fun a => bytesOf a.toNat 8)).flatten = some k →
      Answers (.keyRotate c) s (fun t => t.img.result = 1 ∧ t.img.counter = 0 ∧ t.img.lastGen = 0 ∧ t.img.cntExh = false ∧
        t.img.genExh = false ∧ (∀ i, i < 4 → t.rv (0x50000 + 8 * i) = ofBytes ((k.drop (8 * i)).take 8) % 2 ^ 64))) ∧
    (s.accepts 5 c → Answers (.clearPoison c) s (fun t => took t ∧
      t = ((s.block 5 c).cmdAccept.raisePoisonClear c.a0.toNat).pump)) ∧
    (s.accepts 6 c → Answers (.sluiceOverride c) s (fun t => took t ∧ t.sl = { s.sl with override_ := c.a0.toNat.testBit 0 })) ∧
    (s.accepts 7 c → Answers (.firmwareLoad c) s (fun t => took t ∧ t.img.authBusy = false ∧
      t.img.prog = (if c.a0 = 1 then (s.block 7 c).putPanCode (s.fwBody (c.a1.toNat % 2 ^ 32) (c.a1.toNat / 2 ^ 32)) (c.a1.toNat / 2 ^ 32)
        else (s.block 7 c).putCoreCode (s.fwBody (c.a1.toNat % 2 ^ 32) (c.a1.toNat / 2 ^ 32)) (c.a1.toNat / 2 ^ 32)).img.prog)) ∧
    (s.accepts 8 c → Answers (.latchBreak c) s (fun t => took t ∧ sget t.ru.latOwn c.a0.toNat 0 = 0 ∧
      (sget s.ru.latOwn c.a0.toNat 0 ≠ 0 → sget t.ru.latBroken c.a0.toNat false = true))) ∧
    (s.accepts 9 c → Answers (.retireMemport c) s (fun t => took t ∧ t.img.retireMp = s.img.retireMp ||| 2 ^ c.a0.toNat)) ∧
    (s.accepts 10 c → Answers (.retireBed c) s (fun t => took t ∧ t.img.retireBed = s.img.retireBed ||| 2 ^ c.a0.toNat ∧
      ∀ i, i < 8 → (t.pan (8 * c.a0.toNat + i)).dataEn = false)) ∧
    (∀ opc : BitVec 16, ∀ r, s.alive = true → (s.block opc.toNat c).cmdCheck = some r → Answers (.badOpcode opc c) s (fun t =>
      t.img = { s.img with result := r, lastOpc := opc.toNat } ∧ t.mode = s.mode ∧ t.pans = s.pans ∧ t.sl = s.sl ∧ t.ru = s.ru ∧
      t.mt = s.mt ∧ (∀ o, (∀ k, k < 8 → o ≠ mbxOff 0 (0x80 + 8 * k)) → t.rv o = s.rv o)))

/-- R478, R480: the end of a load. An image that passes every check is in force and the device enters TRAIN; a refused one leaves
its code and the device returns to BLANK. R483: the order of the checks of a submitted block, by the RESULT of the first that
fails. Completes: LOAD_COMPLETE. -/
def Obligations.ImageAndCommandChecks : Prop :=
  (∀ (s : State), s.mode.cur = .load → s.img.busy = true → s.holding = false →
    (∀ l, s.checkImage s.img.total = .ok l → Answers .loadComplete s (fun t => t.mode.cur = .train ∧ t.img.inForce = true ∧
      t.img.busy = false ∧ t.img.code = 1)) ∧
    (∀ r, s.checkImage s.img.total = .error r → Answers .loadComplete s (fun t => t.mode.cur = .blank ∧ t.img.busy = false ∧
      t.img.code = r.code ∧ t.img.sect = r.sect ∧ t.img.detail = r.detail ∧ t.img.inForce = s.img.inForce ∧ t.regs = s.regs ∧
      t.img.prog = s.img.prog))) ∧
  (∀ (s : State) (opc : Nat) (c : CmdBlk), opc < 2 ^ 16 →
    let u := s.block opc c
    let r := u.cmdCheck
    (s.img.authBusy = true → r = some 0x0A) ∧
    (s.img.authBusy = false → s.img.keySet = false → r = some 0x02) ∧
    (s.img.authBusy = false → s.img.keySet = true → c.tag.toNat ≠ u.blkTag → r = some 0x03) ∧
    (s.img.authBusy = false → s.img.keySet = true → c.tag.toNat = u.blkTag → c.dev.toNat ≠ s.me → r = some 0x04) ∧
    (s.img.authBusy = false → s.img.keySet = true → c.tag.toNat = u.blkTag → c.dev.toNat = s.me →
      (s.img.cntExh = true → opc ≠ 4 → r = some 0x06) ∧
      (s.img.cntExh = false → c.counter.toNat ≤ s.img.counter → r = some 0x05) ∧
      (s.img.cntExh = false → s.img.counter < c.counter.toNat → opc = 0 ∨ 10 < opc → r = some 0x07) ∧
      (s.img.cntExh = false → s.img.counter < c.counter.toNat → opc = 1 → c.rsv ≠ 0 → r = some 0x08) ∧
      (s.img.cntExh = false → s.img.counter < c.counter.toNat → opc = 1 → c.rsv = 0 → c.a0.toNat < 2 ^ 32 → c.a1 = 0 → c.a2 = 0 →
        c.a3 = 0 → c.a4 = 0 → (s.mode.cur ≠ .blank → r = some 0x09) ∧ (s.mode.cur = .blank → s.mode.busy = false → r = none))) ∧
    (r = none → s.img.authBusy = false ∧ s.img.keySet = true ∧ c.tag.toNat = u.blkTag ∧ c.dev.toNat = s.me ∧ 1 ≤ opc ∧ opc ≤ 10 ∧
      (s.img.cntExh = true → opc = 4) ∧ (s.img.cntExh = false → s.img.counter < c.counter.toNat)))

/-- R99, R113, R120 to R122, R125, R129, R191, R196, R205, R207, R208, R212, R428, R444: a pan takes the request at the head of
its queue of port q. While the home is open and no clock switch runs, an empty queue is an underrun and a broken message is
discarded; a request admitted while it arrived ends its arrival; a throttled pan, and one whose admission slot goes to
another requester, leave it where it is; the request that wins the slot is taken: in DRAIN one that is not posted is refused
(RSN 2); one whose line's chain is full is refused (RSN 0) unless it is posted or has a reserved entry; one that finds a free
entry takes it, and waits in the chain, with nothing else of the pan changed, unless nothing stands before it; one that finds
none while its stack rests is refused (RSN 1). A WrBackM is acknowledged where the set is lost, meets the transaction of its
line where one runs, and takes an entry otherwise. (These are the model's choices and no rules of the spec: that a posted request
joins a full chain, log entry 29; that an entry is free for a request by the kind of entry that it may take, log entry 30; that the
refusal of DRAIN comes before every other check and carries RETRY 4,095, log entry 93; that nothing changes when the slot goes to
another, log entry 54.) Completes: RDSHARED, RDOWN, UPGRADE, RDCURRENT, WRINVFULL, WRINVPART,
WRBACKM, ATOMICH, ATOMICM. -/
def Obligations.HomeRequestTaken : Prop :=
  ∀ (s : State) (p : Fin 64) (q : Fin 32) (c : Instr) (opc : Nat),
    (c, opc) ∈ [(Instr.rdshared p q, 0), (.rdown p q, 1), (.upgrade p q, 2), (.rdcurrent p q, 3), (.wrinvfull p q, 4),
      (.wrinvpart p q, 5), (.wrbackm p q, 6), (.atomich p q, 7), (.atomicm p q, 8)] →
    s.homeOpen = true → s.switching (p / 8) = false →
    let b := p.val / 8
    let n := brineQ p q 0
    ((s.queue b n).msgs = [] → Answers c s (fun t => t = (s.underrun b n).pump)) ∧
    ∀ (m : BMsg) (rest : List BMsg), (s.queue b n).msgs = m :: rest →
      (m.broken = true → Answers c s (fun t => t = (s.discardMsg p b n m).pump)) ∧
      ∀ r : Req, m.broken = false → m.request = some r → r.opc.toNat = opc → m.partial_ = false →
        (∀ k, m.taken = some k → Answers c s (fun t => t = ((s.popQueue b n).cutEnd p k r m.bad).pump)) ∧
        (m.taken = none → s.throttled p = true → Answers c s (fun t => t = s.pump)) ∧
        (m.taken = none → s.throttled p = false → reqAtomic r = false ∨ (s.pan p).combDue = false →
          let l := s.localAddr r.addr.toNat
          let psi := psiOf l
          let tag := tagOf l
          let posted := reqPosted r
          let rsv := decide (s.nackLimit p ≤ r.ncnt.toNat)
          let x := s.pan p
          let e : Trk := { id := 0, rq := r, src := q, rsv := rsv, psi := psi, tag := tag, ord := x.ord }
          let go := x.mayStart e && !(x.chain psi tag).any (fun u => x.mayStart u)
          let refused := s.mode.cur = .drain ∧ posted = false
          let full := go = false ∧ rsv = false ∧ posted = false ∧ s.chainMax p ≤ (x.chain psi tag).length
          (opc ≠ 6 →
            (s.slot (panArb p 0) (s.admAskers p) q = none → Answers c s (fun t => t = s.pump)) ∧
            (¬refused → ¬full → x.newId rsv = none → (s.bed b).rest = 0 ∨ posted = true → Answers c s (fun t => t = s.pump)) ∧
            ∀ v, s.slot (panArb p 0) (s.admAskers p) q = some v →
              let v0 := (v.updPan p (fun x => x.clearGone r.src)).popQueue b n
              (refused → Answers c s (fun t => t = ((v0.count p 0x122).nackReq p r 2 4095).pump)) ∧
              (¬refused → full → Answers c s (fun t =>
                t = ((v0.count p 0x120).nackReq p r 0 (s.rf (panOff p 0x510) 11 0)).pump)) ∧
              (¬refused → ¬full → x.newId rsv = none → (s.bed b).rest ≠ 0 → posted = false → Answers c s (fun t =>
                t = (((v0.count p 0x121).wake b).nackReq p r 1 (min 4095 ((s.restLeft b + 7) / 8))).pump)) ∧
              (∀ k, ¬refused → ¬full → x.newId rsv = some k →
                Answers c s (fun t => t = (v0.enter p k q r rsv m.bad false psi tag go).pump) ∧
                (go = false → Answers c s (fun t =>
                  (t.pan p).trk k = some { e with id := k, sramBad := m.bad } ∧
                  (∀ j, j ≠ k → (t.pan p).trk j = (s.pan p).trk j) ∧ (∀ j, j ≠ p.val → t.pan j = s.pan j))))) ∧
          (opc = 6 → ∀ v, s.slot (panArb p 0) (s.admAskers p) q = some v →
            let v0 := v.updPan p (fun x => (x.clearGone r.src).closeHold psi tag r.src)
            let y := v0.pan p
            (y.lost.contains psi = true → Answers c s (fun t => t = ((v0.popQueue b n).wdone p r.src r.tag).pump)) ∧
            (∀ u w, y.lost.contains psi = false → y.trks.find? (fun u => u.holds psi tag) = some u →
              (v0.popQueue b n).meetWb p u psi tag r m.bad = some w → Answers c s (fun t => t = w.pump)) ∧
            (∀ k, y.lost.contains psi = false → y.trks.find? (fun u => u.holds psi tag) = none → y.newId rsv = some k →
              Answers c s (fun t => t = ((v0.popQueue b n).enter p k q r rsv m.bad false psi tag true).pump))))

/-- R191, R192, R200: what an arbiter grants. While a requester holds its resource past its time it grants that one alone.
Otherwise it grants whenever somebody asks; the winner is one of those that ask, none of them ranks above it, and among those
that rank with it none comes before it from the rotating pointer. R29, R61, R73, R99, R193, R222 to
R224: the transactions of an open home that waited go on: the winner of a line's chain starts, its losses at 0, and each
other waiter that could have started has lost once more; an allocation that waited is tried again; a transaction that waited
for a way of the metadata cache looks its set up, and goes on where the block is there; one that waited for the write buffer
goes on; and a block that a transaction has read from the stack, when the channel's slot is its, reaches it, as metadata, as
its line or as its victim. Completes: WAIT_CHAIN_START, ALLOC_RETRY, MDC_MISS_RESUME, FILL_RESUME, STACK_DATA_STAGED. -/
def Obligations.HomeWaits : Prop :=
  (∀ (s : State) (a : ArbId) (l : List Asker),
    (∀ n x, (s.arb a).hold = some (n, x) → s.winner a l = l.find? (fun u => u.num == n)) ∧
    ((s.arb a).hold = none → l ≠ [] → (s.winner a l).isSome = true) ∧
    ∀ w, (s.arb a).hold = none → s.winner a l = some w → w ∈ l ∧ ∀ u ∈ l, keysAbove (s.rankKeys a u) (s.rankKeys a w) = false ∧
      (s.rankKeys a u = s.rankKeys a w → cyc (s.arb a).ptr w.num ≤ cyc (s.arb a).ptr u.num)) ∧
  (∀ (s : State) (p : Fin 64), s.homeOpen = true →
    (∀ (psi : BitVec 20) (tag : BitVec 11),
      let el := ((s.pan p).chain psi.toNat tag.toNat).filter (fun t => (s.pan p).mayStart t)
      let a := chainArb p psi.toNat tag.toNat
      (el = [] → Answers (.waitChainStart p psi tag) s (fun t => t = s.pump)) ∧
      (∀ w, s.winner a (el.map Trk.asker) = some w → ∃ u : State,
        (u.pan p).trks = (s.pan p).trks.map (fun e =>
          if el.any (fun x => x.id == e.id) then { e with losses := if e.id = w.id then 0 else e.losses + 1, rq := s.aged e.rq } else e) ∧
        Answers (.waitChainStart p psi tag) s (fun t => t = (u.start p w.id).pump))) ∧
    ∀ (k : Fin 768) (e : Trk), (s.pan p).trk k = some e →
      (e.allocWait = true → Answers (.allocRetry p k) s (fun t => t = ((s.allocate p k e).progress p k).pump)) ∧
      (e.ph = .mdWait → (s.mdAccess p k false).1 = true → Answers (.mdcMissResume p k) s (fun t =>
        t = ((s.mdAccess p k false).2.apply p k false).pump)) ∧
      (e.ph = .mdWait → (s.mdAccess p k false).1 = false → Answers (.mdcMissResume p k) s (fun t =>
        t = (s.mdAccess p k false).2.pump)) ∧
      (e.wbFull = true → e.ph = .run → Answers (.fillResume p k) s (fun t => t = (s.progress p k).pump)) ∧
      (∀ err l u, s.stackUp p = true → s.chanSlot p 0 = some u →
        (e.reads = .md :: l → Answers (.stackDataStaged p k err) s (fun t => t = (u.stagedMd p k e.psi err).pump)) ∧
        (∀ w, e.reads = .line w :: l → Answers (.stackDataStaged p k err) s (fun t => t = (u.stagedLine p k e w err).pump)) ∧
        (∀ w, e.reads = .victim w :: l → Answers (.stackDataStaged p k err) s (fun t => t = (u.stagedVictim p k e w err).pump))))

/-- R30, R62, R78, R147, R175, R179, R203, R314, R315: the metadata write queue, the write buffer and the combining buffer. A
block of the write queue that is due, when the channel's slot is its, goes to its slot of the stack with its generation
raised; the oldest held entry of the write buffer goes to its memory port and is marked sent, or fails at once where the port is
retired (R487); its completion, brought by the
port's response queue, frees it and wakes those that waited for it; an error has it sent once more, and a second one is a
posted fault; a poisoned one is a posted fault; an undecoded completion is counted; an idle entry of the combining buffer
goes to the write buffer or the stack. R142, R169, R170, R175, R203, R311, R314, R315: what a memory port answers to a read
or an atomic that has left for it, brought by the port's queues of the pan. Read data reaches the transaction, and poisons
the line where it comes poisoned; an error has the read sent once more, and a second one, or a dead port, delivers poison; an
undecoded message is counted; an atomic's line gives its response and its result. Completes: MDWQ_WRITE, WB_SEND, CMP,
COMB_IDLE_WRITEBACK, MEMDATA, ATOMIC_RESULT. (That completions and errors come by the port's response queue, and read data and atomic results by its
data queue, is the model's choice: log entry 58.) -/
def Obligations.PanBuffersAndMemory : Prop :=
  (∀ (s : State) (p : Fin 64),
    (∀ (ix : Fin 16) (e : MdwqEntry), s.stackUp p = true → (s.pan p).mdwq[ix.val]? = some e → s.mdwqDue p ix e = true →
      (s.chanSlot p 1).isSome = true → Answers (.mdwqWrite p ix) s
      (fun t => t.pan p = (({ s.pan p with mdwq := (s.pan p).mdwq.eraseIdx ix }).setCell (slotKey e.psi 15)
          (blockEncode (mdBump e.blk))).openRow (slotKey e.psi 15) ∧
        (∀ j, j ≠ p.val → t.pan j = s.pan j) ∧ t.regs = s.regs)) ∧
    (∀ e : WbEntry, s.homeOpen = true ∨ (s.pan p).flushing = true ∨ (s.mode.busy = true ∧ s.mode.target = .hold) →
      (s.pan p).oldestHeld = some e →
      (s.portGone p e.psi e.tag = none → Answers (.wbSend p) s (fun t =>
        t.pan p = (s.pan p).wbUpd e.psi e.tag (fun e => { e with sent := true }) ∧ (∀ j, j ≠ p.val → t.pan j = s.pan j))) ∧
      (∀ m h u, s.portGone p e.psi e.tag = some (m, h) → (s.updPan p (fun x => x.wbDrop e.psi e.tag)).faultTrk p e.psi e.tag 2 = some u →
        Answers (.wbSend p) s (fun t => t = (((u.count (uMp m) 0x105).reqFail m h true 1).wakeWb p e.psi e.tag).pump))) ∧
    (∀ (psi : BitVec 20) (tag : BitVec 11) m h, s.linePort p psi.toNat tag.toNat = some (m, h) →
      Answers (.cmp p psi tag .other) s (fun t => t = (s.count (uMp m) 0x107).pump)) ∧
    (∀ (psi : BitVec 20) (tag : BitVec 11) (e : WbEntry), (s.pan p).wbFind psi.toNat tag.toNat = some e → e.sent = true →
      let mine := fun (r : MReq) => r.pan == p.val && r.kind == 1 && r.psi == psi.toNat && r.tag == tag.toNat
      ∀ m r, s.findMemReq mine = some (m, r) → r.sent = true →
        (s.fromMem p m 1 0 false = none → Answers (.cmp p psi tag .ok) s (fun t => t = s.pump)) ∧
        ∀ v, s.fromMem p m 1 0 false = some v →
          let u := ((v.dropMemReq mine).updPan p (fun x => x.wbDrop psi.toNat tag.toNat)).combDrain p
          Answers (.cmp p psi tag .ok) s (fun t => t = (u.wakeWb p psi.toNat tag.toNat).pump) ∧
          (e.resent = false → Answers (.cmp p psi tag .error) s (fun t =>
            t.pan p = (s.pan p).wbUpd psi.toNat tag.toNat (fun e => { e with resent := true }))) ∧
          (∀ u1, u.faultTrk p psi.toNat tag.toNat 1 = some u1 → Answers (.cmp p psi tag .poison) s (fun t =>
            t = (u1.wakeWb p psi.toNat tag.toNat).pump)) ∧
          (∀ u2, e.resent = true → u.faultTrk p psi.toNat tag.toNat 2 = some u2 → Answers (.cmp p psi tag .error) s (fun t =>
            t = ((u2.reqFail m r.half true 3).wakeWb p psi.toNat tag.toNat).pump))) ∧
    (∀ (psi : BitVec 20) (tag : BitVec 11) (e : CombEntry), s.homeOpen = true →
      (s.pan p).combFind psi.toNat tag.toNat = some e → s.combIdle p ≤ s.panCycles (p / 8) - e.last →
      (∀ y, (s.pan p).dataEn = false → ((s.pan p).combDrop e.psi e.tag).wbPut e.psi e.tag e.data false s.stamp16 = some y →
        Answers (.combIdleWriteback p psi tag) s (fun t => t.pan p = y ∧ (∀ j, j ≠ p.val → t.pan j = s.pan j))) ∧
      (∀ b u w ent, (s.pan p).dataEn = true → s.stackUp p = true → s.mdLook p e.psi = (some b, u) → findWay b e.tag = some (w, ent) →
        ent.v = true →
        ((s.pan p).wbSent e.psi e.tag = false → Answers (.combIdleWriteback p psi tag) s (fun t =>
          t.pan p = (((u.updPan p (fun x => x.combDrop e.psi e.tag)).writeLine p e.psi w e.data).pan p).wbKeep e.psi e.tag e.data false ∧
          (∀ j, j ≠ p.val → t.pan j = s.pan j))) ∧
        ((s.pan p).wbSent e.psi e.tag = true → Answers (.combIdleWriteback p psi tag) s (fun t => t = s))))) ∧
  (∀ (s : State) (p : Fin 64) (k : Fin 768) (line : BitVec 1024), s.homeOpen = true →
    let rd := fun (r : MReq) => r.pan == p.val && r.trk == k.val && (r.kind == 0 || r.kind == 5)
    let at_ := fun (r : MReq) => r.pan == p.val && r.trk == k.val && r.kind == 2
    (∀ e m h, (s.pan p).trk k = some e → s.linePort p e.psi e.tag = some (m, h) →
      Answers (.memdata p k line false .other) s (fun t => t = (s.count (uMp m) 0x107).pump) ∧
      Answers (.atomicResult p k line .other) s (fun t => t = (s.count (uMp m) 0x107).pump)) ∧
    (∀ m r, s.findMemReq rd = some (m, r) → r.kind ≠ 5 → r.sent = true →
      (∀ v, s.fromMem p m 2 k true = some v →
        let u := v.readDone m r rd
        Answers (.memdata p k line false .ok) s (fun t => t = (((u.mpGot m 128).count (uMp m) 0x103 0).deliver p k line false m).pump) ∧
        Answers (.memdata p k line true .ok) s (fun t => t = (((u.mpGot m 128).count (uMp m) 0x103 1).deliver p k line true m).pump)) ∧
      (∀ v, s.fromMem p m 1 k false = some v →
        let u := v.readDone m r rd
        (r.resent = false → Answers (.memdata p k line false .error) s (fun t =>
          t = (v.updMemReq rd (fun r => r.again v.now)).pump)) ∧
        (r.resent = true → Answers (.memdata p k line false .error) s (fun t =>
          t = ((u.reqFail m r.half false 3).deliver p k line true m).pump)) ∧
        Answers (.memdata p k line false .failed) s (fun t => t = ((u.reqFail m r.half false 2).deliver p k line true m).pump))) ∧
    (∀ m r e v, (s.pan p).trk k = some e → e.atom = true → s.findMemReq at_ = some (m, r) → r.sent = true →
      s.fromMem p m 2 k true = some v →
      let o := atomRun e.rq.atom e.rq.addr line
      let u := ((v.dropMemReq at_).grant2 (mpArb m) p (p.val / 8) r.stamp).count (uMp m) 0x101 2
      Answers (.atomicResult p k line .ok) s (fun t =>
        t = ((((((u.updTrk p k (fun e => { e with atom := false, old := some line, result := some o.line, resp := o.resp, written := true })).atomFlags
          p o.flags).mpGot m 128).mpSent m 128).progress p k).wakeStage).pump)))

/-- R178, R179, R183: a write of PAN_ATOM_CTL. COMB_IDLE and COMB_EN take what is written, and no other pan changes. With COMB_EN
1, no entry of the combining buffer is moved but those that have been idle for the new COMB_IDLE, which reads 16 at least:
where none has, the pan is as before. With COMB_EN 0 the buffer is due: each entry is written back in turn, and as long as
one is left, the pan admits no atomic; a pan whose buffer is empty is not due. A register that the built-in self-test owns
takes no write. Completes: PAN_ATOM_CTL. -/
def Obligations.PanAtomControl : Prop :=
  ∀ (s : State) (p : Fin 64) (v : BitVec 64),
    let o := panOff p 0x800
    let w := bitsOf v.toNat 31 16 * 2 ^ 16 + v.toNat % 2
    let s1 := s.bus.setReg o w
    (s.regOpen o = true →
      Answers (.panAtomCtl p v) s (fun t => t.rv o = w ∧ ∀ j, j ≠ p.val → t.pan j = s.pan j) ∧
      (v.toNat.testBit 0 = true →
        (∀ e ∈ (s.pan p).comb, s.panCycles (p / 8) - e.last < max 16 (bitsOf v.toNat 31 16)) →
        Answers (.panAtomCtl p v) s (fun t => t = s1)) ∧
      (v.toNat.testBit 0 = false → Answers (.panAtomCtl p v) s (fun t => (t.pan p).combDue = !(t.pan p).comb.isEmpty ∧
        ((s.pan p).comb = [] → t = s1.updPan p (fun x => { x with combDue := false })) ∧
        ((s.pan p).comb ≠ [] → t = (((s.pan p).comb.foldl (fun u e => u.combBack p e 0x159) (s1.combFlush p)).updPan p
          (fun x => { x with combDue := !x.comb.isEmpty })))))) ∧
    (s.regOpen o = false → Answers (.panAtomCtl p v) s (fun t => t = if s.alive && s.mode.head then s.hostAbort else s))

/-- R39 to R42, R91 to R93, R123, R125, R137, R138, R168, R278, R282, R425, R428: what a Hinge port does with a message whose
link is up. A message from no agent of the port is dropped with a record, one from a dead or gone agent without; of the
others, an unused opcode is answered Poisoned with a record, a port that closes answers TargetClosing, a stopped or draining
device refuses, a Fence is held (or refused when 16 of its agent are), an agent marked no-cache and a malformed atomic are
answered at once, a request without a home is a map miss, and every other becomes outstanding, with its stamp (R18, R185). An
answer of an agent goes to the home that it names, and one of an unused opcode is recorded. (The model's choices: that the map miss
is looked at last, log entry 35; that TEST and HOLD refuse every request, log entry 94; the channel's number in the record of an unused
opcode, log entry 9.) Completes:
HINGE_REQUEST_RECEIVED, ACK, AGENT_RESPONSE_RECEIVED, FENCE. -/
def Obligations.HingeReception : Prop :=
  ∀ (s : State) (port : Fin 16), s.portsRun = true →
    (∀ r0 : Req, ((s.hinge port).linkOf (agNum r0.src)).up = true →
      let s1 := s.hingeGot port 0 (reqBytes r0)
      let drop := (s1.oweReq port r0 0).count (uHinge port) 0x11D
      let r := s1.stamped port r0
      let own := (s1.oweReq port r 0).count (uHinge port) 0x003 (b2n (r.anc && !r0.anc))
      let opc := r.opc.toNat
      let a := agNum r.src
      let ends := fun (u : State) => Answers (.hingeRequestReceived port r0) s (fun t => t = u.pump)
      let lost := (s1.hinge port).dead.testBit (agNum r0.src) || (s1.hinge port).gone.testBit (agNum r0.src)
      (s1.srcOk port r0.src none = false → ends (drop.hingeRec port 0x0205 r0.src r0.src.toNat)) ∧
      (s1.srcOk port r0.src none = true → lost = true → ends drop) ∧
      (s1.srcOk port r0.src none = true → lost = false →
        (10 ≤ opc → ends ((own.hingeRec port 0x0003 r.src opc).answer (.poisoned r.src r.tag))) ∧
        (opc < 10 → (s1.hinge port).closing = true → opc ≠ 6 → opc ≠ 9 →
          ends ((own.count (uHinge port) 0x11A).answer (.targetClosing r.src r.tag))) ∧
        (opc < 10 → (s1.hinge port).closing = false ∨ opc = 6 ∨ opc = 9 →
          (s1.holding = true ∨ s1.mode.cur = .test ∨ (s1.mode.cur = .drain ∧ opc ≠ 6 ∧ opc ≠ 9) → ends (own.portNack r 2 4095)) ∧
          (s1.holding = false → s1.mode.cur ≠ .test → s1.mode.cur ≠ .drain ∨ opc = 6 ∨ opc = 9 →
            (opc = 9 → ends (own.takeFence port r)) ∧
            (s1.agNc port a = true → opc ≤ 2 ∨ opc = 6 → ends ((own.hingeRec port 0x0004 r.src opc).answer
              (if opc = 6 then .ack r.src r.tag 0 else .poisoned r.src r.tag))) ∧
            (opc = 7 ∨ opc = 8 → malformed r.atom r.addr = true →
              ends (((own.count (uHinge port) 0x11C).hingeRec port 0x0003 r.src opc).answer
                (if r.atom.ret then .poisoned r.src r.tag else .ack r.src r.tag 0))) ∧
            (opc ≠ 9 → s1.agNc port a = false ∨ (2 < opc ∧ opc ≠ 6) → (opc ≠ 7 ∧ opc ≠ 8) ∨ malformed r.atom r.addr = false →
              (s1.homeOf r.addr.toNat = none → ends (own.mapMiss port r)) ∧
              (∀ d l x, s1.homeOf r.addr.toNat = some (d, l, x) →
                ends ((s1.count (uHinge port) 0x003 (b2n (r.anc && !r0.anc))).outstanding port r d l 0))))))) ∧
    (∀ m : AgentMsg, ((s.hinge port).linkOf (agNum m.src)).up = true →
      let s1 := s.hingeGot port (if m.isData then 3 else 2) (if m.isData && m.opc == 0 then 144 else 16)
      let half := (s1.hinge port).half (agNum m.src)
      let drop := fun (ev : Nat) => (s1.updHinge port (fun h => h.owe half (if m.isData then 3 else 2) 0)).count (uHinge port) ev
      let ends := fun (u : State) => Answers (.agentResponseReceived port m) s (fun t => t = u.pump)
      let lost := (s1.hinge port).dead.testBit (agNum m.src) || (s1.hinge port).gone.testBit (agNum m.src)
      (s1.srcOk port m.src none = false → ends ((drop 0x11D).hingeRec port 0x0205 m.src m.src.toNat)) ∧
      (s1.srcOk port m.src none = true → lost = true → ends (drop 0x11D)) ∧
      (s1.srcOk port m.src none = true → lost = false →
        (∀ a, agentAns m = some a → ends (s1.sendAns port a 0 half)) ∧
        (agentAns m = none → ends ((drop 0x11E).hingeRec port 0x0003 m.src (m.opc.toNat + 16 * (if m.isData then 3 else 2)))))) ∧
    (∀ (src : BitVec 12) (tag : BitVec 10) (ncnt : BitVec 8) (stamp : BitVec 16) (anc : Bool),
      ((s.hinge port).linkOf (agNum src)).up = true → Answers (.fence port src { tag := tag, ncnt := ncnt, stamp := stamp, anc := anc }) s (fun t =>
        t = (s.hingeRequest port { opc := 9, src := src, tag := tag, ncnt := ncnt, stamp := stamp, anc := anc } none 0).pump))

/-- R102, R117, R140, R203, R303: the delivery mark of a grant, when the pan's answer slot is its, reaches its transaction, which
goes on with it, a hold window opening where the grant was M and was delivered, or is counted where none awaits it; a hold
window that has run out is closed and lets go the snoops it held; a posted request that has been performed is outstanding no
more. R98, R125, R150, R196: a Fence of an agent completes when no earlier request of it is outstanding and its message wins
the port's slots and the link takes it: it says whether a posted fault of the agent has not been reported, and with it the
agent's records count as seen. A grant that waits leaves when it wins the slots and the link takes it, and its delivery mark
goes to its home. One whose message cannot leave now stays. Completes: DMARK, HOLD_WINDOW_END, WDONE, FENCE_DONE, GRANT_SENT. -/
def Obligations.NoticesAndPortAnswers : Prop :=
  (∀ (s : State),
    (∀ (p : Fin 64) (agent : BitVec 12) (tag : BitVec 10) (lost : Bool), s.homeOpen = true →
      let is := fun (n : Notice) => n.agent == agent && n.body == .dmark tag (BitVec.ofNat 6 p) lost
      let e := (s.pan p).trks.find? (fun e => e.grant.isSome && e.mark.isNone && e.rq.src == agent && e.rq.tag == tag)
      (s.takePanNote p is = none → Answers (.dmark p agent tag lost) s (fun t => t = s.pump)) ∧
      ∀ s1, s.takePanNote p is = some s1 →
        (e = none → Answers (.dmark p agent tag lost) s (fun t => t = (s1.count p 0x146).pump)) ∧
        (∀ x, e = some x →
          let u := s1.updTrk p x.id (fun e => { e with mark := some lost })
          let m := x.grant = some 2 ∧ lost = false ∧ x.back.isNone = true
          (¬m → Answers (.dmark p agent tag lost) s (fun t => t = (u.progress p x.id).pump)) ∧
          (m → Answers (.dmark p agent tag lost) s (fun t => t = ((u.openHold p x.psi x.tag agent).progress p x.id).pump)))) ∧
    (∀ (p : Fin 64) (psi : BitVec 20) (tag : BitVec 11), s.homeOpen = true →
      let ended := (s.pan p).holds.filter (fun h =>
        h.psi == psi.toNat && h.tag == tag.toNat && decide (h.until_ ≤ s.panCycles (p.val / 8)))
      Answers (.holdWindowEnd p psi tag) s (fun t => t = (ended.foldl (fun u h =>
        (u.updPan p (fun x => x.closeHold h.psi h.tag h.agent)).releaseHeld p h.psi h.tag h.agent) s).pump)) ∧
    (∀ (agent : BitVec 12) (tag : BitVec 10), agDev agent = s.me → Answers (.wdone agent tag) s (fun t =>
      t = ((s.takeNote (fun n => n.agent == agent && n.body == .wdone tag)).updHinge (agPort agent) (fun h => { h with
        outst := (dropFirst (fun o => o.src == agent && o.tag == tag && o.posted && o.fwd) h.outst).2 })).pump))) ∧
  (∀ (s : State) (port : Fin 16),
    (∀ (src : BitVec 12) (f : FenceH), (s.hinge port).fenceReady src = some f →
      let st := s.err.fenceStat src
      let e : HEgress := { msg := .fenceDone src f.tag st.isSome (BitVec.ofNat 32 (st.getD 0)), stamp := s.stamp16 }
      let s1 := s.updHinge port (fun h => { h with egress := h.egress ++ [e] })
      (s1.sendNow port e = none → Answers (.fenceDone port src) s (fun t => t = s.pump)) ∧
      (∀ u, s1.sendNow port e = some u → Answers (.fenceDone port src) s (fun t =>
        t = (({ u with err := u.err.fenceSeen src }).updHinge port (fun h => { h with fences := (dropFirst (· == f) h.fences).2 })).pump))) ∧
    (∀ (dst : BitVec 12) (tag : BitVec 10) (e : HEgress),
      (s.hinge port).egress.find? (fun e => (outGrant e.msg).isSome && outDst e.msg == dst && outTag e.msg == some tag) = some e →
      let o := (s.hinge port).outst.find? (fun o => o.src == dst && o.tag == tag && !o.posted)
      (s.sendNow port e = none → Answers (.grantSent port dst tag) s (fun t => t = s.pump)) ∧
      ∀ u, s.sendNow port e = some u →
        (o = none → Answers (.grantSent port dst tag) s (fun t => t = u.pump)) ∧
        (∀ x, o = some x → Answers (.grantSent port dst tag) s (fun t =>
          t = (u.notice x.homeDev dst (.dmark tag (BitVec.ofNat 6 x.pan) false)).pump))))

/-- R107, R130, R131, R133 to R135, R205, R208, R212, R306: an answer at the head of its queue, when the pan's answer slot is
its, is taken and matched at its pan, or at the collector: the answer that a snoop to a sharer awaits settles that snoop and
no other; the timer of a snoop that has run out settles it; a group snoop takes a free entry of the collector and snoops the
agents of its group, or waits for one; its acknowledgement settles the home's group invalidation. Completes: ACK,
NOT_PRESENT, ACKDATA, SNOOP_TIMEOUT, GSNP, GROUP_SNOOP, GACK. -/
def Obligations.SnoopAnswerResults : Prop :=
  ∀ (s : State), s.homeOpen = true →
    (∀ (dst : Fin 65) (q : Fin 32) (c : Instr) (kind : AnsKind),
      (c, kind) ∈ [(Instr.ack dst q, AnsKind.ack), (.notPresent dst q, .notPresent), (.ackdata dst q, .ackData)] →
      let n := ansQueue dst q (ansVc { kind := kind })
      ((s.queue n.1 n.2).msgs = [] → dst.val ≠ 64 → Answers c s (fun t => t = (s.underrun n.1 n.2).pump)) ∧
      ∀ m rest, (s.queue n.1 n.2).msgs = m :: rest →
        (m.broken = true → dst.val ≠ 64 → Answers c s (fun t => t = (s.discardMsg dst n.1 n.2 m).pump)) ∧
        ∀ a, (dst.val = 64 ∨ m.broken = false) → m.body = .ans a → a.kind = kind → m.partial_ = false →
          let a' : Ans := if m.bad then { a with psn := true } else a
          (dst.val = 64 → Answers c s (fun t => t = ((s.popQueue n.1 n.2).collAnswer a').pump)) ∧
          (dst.val ≠ 64 → s.ansSlot dst q (ansVc { kind := kind }) = none → Answers c s (fun t => t = s.pump)) ∧
          (∀ v, dst.val ≠ 64 → s.ansSlot dst q (ansVc { kind := kind }) = some v →
            Answers c s (fun t => t = ((v.popQueue n.1 n.2).panAnswer dst a' m.bad).pump))) ∧
    (∀ (p : Fin 64) (a : Ans) (bad : Bool) (e : Trk) (x : Snp), a.kind = .ack ∨ a.kind = .notPresent → a.hdev.toNat = s.me →
      let mine := fun (y : Snp) => !y.owner && y.st == .sent && y.tgt == .agent a.src
      (s.pan p).trk (a.htag.toNat % 1024) = some e → e.inv.awaits a.src = some x → x.owner = false → ∃ u : State,
        s.panAnswer p a bad = u.progress p (a.htag.toNat % 1024) ∧
        (u.pan p).trks = (s.pan p).trks.map (fun t => if t.id = e.id then
          { t with inv := { e.inv with snps := updSnp mine (fun y => { y with st := .done }) e.inv.snps } } else t)) ∧
    (∀ (dst : Fin 65) (k : Fin 768) (tgt : SnpTgt),
      (dst.val = 64 → Answers (.snoopTimeout dst k tgt) s (fun t => t = (s.collExpire k tgt).pump)) ∧
      (∀ e x, dst.val ≠ 64 → (s.pan dst).trk k = some e → e.inv.snps.find? (s.overdue tgt) = some x →
        Answers (.snoopTimeout dst k tgt) s (fun t => t = ((s.expire dst e false x).progress dst k).pump)) ∧
      (∀ e x, dst.val ≠ 64 → (s.pan dst).trk k = some e → e.inv.snps.find? (s.overdue tgt) = none →
        (e.getInv true).snps.find? (s.overdue tgt) = some x →
        Answers (.snoopTimeout dst k tgt) s (fun t => t = ((s.expire dst e true x).progress dst k).pump))) ∧
    (∀ sdev excl addr htag,
      let is := fun (n : Notice) => n.sdev == sdev && n.agent == excl && n.body == .gsnp addr htag
      (s.collFree = none → Answers (.groupSnoop sdev excl addr htag) s (fun t => t = s.pump)) ∧
      (∀ k, s.collFree = some k → Answers (.groupSnoop sdev excl addr htag) s (fun t =>
        t = (((s.takeNote is).takeRxNote is).takeGroup k sdev excl addr htag).pump))) ∧
    (∀ (sdev : BitVec 6) (htag : BitVec 16) (s1 : State) e,
      let p := htag.toNat / 1024
      let k := htag.toNat % 1024
      let mine := fun (x : Snp) => x.tgt == .dev sdev && x.st == .sent
      s.takePanNote p (fun n => n.sdev == sdev && n.body == .gack htag) = some s1 → (s1.pan p).trk k = some e →
      e.inv.snps.any mine = true → Answers (.gack sdev htag) s (fun t =>
        t = ((s1.updTrk p k (fun e => e.setInv false { (e.getInv false) with
          snps := updSnp mine (fun x => { x with st := .done }) (e.getInv false).snps })).progress p e.id).pump))

/-- R136 to R141, R149, R150, R160, R303: timeouts, gone agents and their cleanup, posted faults, and the record of dropped
records. An agent's timeout count rises to 255 at most, and the agent is declared dead at LIMIT; a pan that is told of a gone
agent marks it, ends its hold windows and calls the cleanup; every device's report, or its lack, is counted; a posted fault
is recorded once, and settles the oldest posted request of its agent on its line (the model's choice: log entry 96). Completes: TMO,
GONE, UNGONE, CLEANED, CLEANUP_TMO, PFAULT, LOG_FULL. -/
def Obligations.GoneAndFaultResults : Prop :=
  ∀ (s : State),
    (∀ agent : BitVec 12, agDev agent = s.me →
      let s1 := s.takeNote (fun n => n.agent == agent && n.body == .tmo)
      let p := agPort agent
      let a := agNum agent
      let c := satAdd (s.rf (hpOff p 0x700) (8 * a + 7) (8 * a)) 1 255
      let s2 := s1.setRf (hpOff p 0x700) (8 * a + 7) (8 * a) c
      let dies := max 1 (s2.rf (hpOff p 0x700) 39 32) ≤ c ∧ (s.hinge p).dead.testBit a = false
      (dies → Answers (.tmo agent) s (fun t => t = (s2.declareDead p a c).pump)) ∧
      (¬dies → Answers (.tmo agent) s (fun t => t = s2.pump ∧ t.rf (hpOff p 0x700) (8 * a + 7) (8 * a) = c))) ∧
    (∀ (p : Fin 64) (agent : BitVec 12) (v : State),
      s.takePanNote p (fun n => n.agent == agent && (match n.body with | .gone _ => true | _ => false)) = some v →
      Answers (.gone p agent) s (fun t => ∃ u : State,
      (u.pan p).gone.contains agent.toNat = true ∧
      (∀ a, a ≠ agent.toNat → (u.pan p).gone.contains a = (s.pan p).gone.contains a) ∧
      (u.pan p).holds = (s.pan p).holds.filter (fun h => h.agent != agent) ∧
      (agent.toNat, 0, 0) ∈ (u.pan p).cleanLeft ∧ (∀ j, j ≠ p.val → u.pan j = s.pan j) ∧
      t = (if s.homeOpen then (s.pan p).trks.foldl (fun u e => u.progress p e.id) u else u).pump)) ∧
    (∀ (p : Fin 64) (agent : BitVec 12) (v : State),
      s.takePanNote p (fun n => n.agent == agent && n.body == .ungone) = some v → Answers (.ungone p agent) s (fun t =>
      t.pan p = { s.pan p with gone := (s.pan p).gone.filter (fun g => g != agent.toNat) } ∧ (∀ j, j ≠ p.val → t.pan j = s.pan j))) ∧
    (∀ (dev : BitVec 6) (agent : BitVec 12), agDev agent = s.me → Answers (.cleaned dev agent) s (fun t =>
      t = ((s.takeNote (fun n => n.agent == agent && n.sdev == dev && n.body == .cleaned)).reported agent dev.toNat).pump)) ∧
    (∀ (agent : BitVec 12) (dev : BitVec 6),
      let c := sget (s.hinge (agPort agent)).clean (agNum agent) ([], 0)
      agDev agent = s.me → c.1.contains dev.toNat = true → 200000000 + 2 * s.tmoNs ≤ dt c.2 s.now →
      Answers (.cleanupTmo agent dev) s (fun t => t = ((s.hingeRec (agPort agent) 0x0016 agent dev.toNat).reported agent dev.toNat).pump)) ∧
    (∀ (sdev : BitVec 6) (agent : BitVec 12) (cause : BitVec 16) (time : BitVec 64) (unit : BitVec 12) (addr : BitVec 52),
      agDev agent = s.me →
      let s1 := s.takeNote (fun n => n.agent == agent && n.sdev == sdev && n.body == .pfault cause time unit addr)
      let mine := fun (o : Outst) => o.src == agent && o.posted && o.addr.toNat / 128 == addr.toNat / 128
      let h := s1.hinge (agPort agent)
      (cause.toNat ≤ 2 → Answers (.pfault sdev agent cause time unit addr) s (fun t =>
        t = (s1.pfWrite agent true cause.toNat time.toNat addr.toNat unit.toNat).pump)) ∧
      (2 < cause.toNat → h.outst.any mine = true → Answers (.pfault sdev agent cause time unit addr) s (fun t =>
        t = ((s1.setHinge (agPort agent) { h with outst := (dropFirst mine h.outst).2 }).pfWrite agent false cause.toNat time.toNat
          addr.toNat unit.toNat).pump)) ∧
      (2 < cause.toNat → h.outst.any mine = false → Answers (.pfault sdev agent cause time unit addr) s (fun t => t = s1.pump))) ∧
    (0 < s.err.sinceFull → s.err.log.length < 4096 → Answers .logFull s (fun t => t = { s with err := { s.err with sinceFull := 0 } }.logErr
      { unit := uLogs, cls := 0, code := 0x0015, detail := min s.err.sinceFull 0xFFFFFFFF }))

/-- R217 to R222: the stack code. What is written is read back with no error, with or without an erased layer; a beat whose one
symbol is wrong is corrected to what was written, and the layer is named; a beat with two wrong symbols is never taken for a
clean one; and with a layer erased, whatever the cells of that layer hold, the beat is reconstructed. -/
def Obligations.StackCodeBeat : Prop :=
  ∀ (d : List Nat), d.length = 16 → (∀ x ∈ d, x < 256) →
    let c := rsEncode d
    let hit := fun (c : List Nat) (l e : Nat) => c.set l (c.getD l 0 ^^^ e)
    beatDecode c none = .clean ∧ c.length = 18 ∧ c.take 16 = d ∧
    (∀ l e, l < 18 → 0 < e → e < 256 → beatDecode (hit c l e) none = .corrected l e ∧ beatFix (hit c l e) (.corrected l e) = c) ∧
    (∀ l e m f, l < 18 → m < 18 → l ≠ m → 0 < e → e < 256 → 0 < f → f < 256 → beatDecode (hit (hit c l e) m f) none ≠ .clean) ∧
    (∀ l e, l < 18 → e < 256 → beatDecode (hit c l e) (some l) = .recon l e ∧ beatFix (hit c l e) (.recon l e) = c)

/-- R51, R219 to R222: a stored line survives the loss of any one layer. Whatever one layer of the stack, or none, returns in the
eight beats of a block, the decoder gives the line that was written and does not call the block uncorrectable, whether or not
the layer is marked erased and whether or not corrections must name one layer. -/
def Obligations.StackCodeSurvivesLayer : Prop :=
  ∀ (d : BitVec 1024) (l : Nat) (e : Nat → Nat) (lc : Bool), l < 18 → (∀ j, e j < 256) →
    let b := beatsBlock ((List.range 8).map (fun j =>
      let c := (blockBeats (blockEncode d)).getD j []
      c.set l (c.getD l 0 ^^^ e j)))
    ∀ er, er = none ∨ er = some l → (blockDecode b er lc).line = d ∧ (blockDecode b er lc).ue = false

/-- R222 to R232, R244 to R246: the stack's own commands. A leak takes one from every bucket that is not empty; a valid layer of
BED_ERASE is erased on a channel that has none; a refresh counts a command on its channel; a correctable error of an on-chip
memory is counted, and recorded at most once per millisecond and unit; of an uncorrectable one the record stands, or the
device stops where the memory holds what cannot be rebuilt. Completes: BUCKET_LEAK, BED_ERASE, REFRESH, SRAM_SWEEP. -/
def Obligations.StackCommandResults : Prop :=
  ∀ (s : State) (b : Fin 8),
    (s.alive = true → s.rf (bedOff b 0xB00) 63 48 ≠ 0 → s.rf (bedOff b 0xB00) 63 48 * 1000000 ≤ dt (s.bed b).leakAt s.now →
      Answers (.bucketLeak b) s (fun t => t.bed b = { s.bed b with leakAt := s.now } ∧ t.pans = s.pans ∧
        (∀ k m, k < 36 → m < 4 → t.rf (bedOff b (0xB40 + 8 * k)) (16 * m + 15) (16 * m) =
          s.rf (bedOff b (0xB40 + 8 * k)) (16 * m + 15) (16 * m) - 1) ∧
        (∀ o, (∀ k, k < 36 → o ≠ bedOff b (0xB40 + 8 * k)) → t.rv o = s.rv o))) ∧
    (∀ v : BitVec 64, s.alive = true → Effects (.bedErase b v) s (fun u => u = s.bus.wrErase b v.toNat ∧
      ∀ c, c < 8 → v.toNat.testBit (8 * c + 7) = true → bitsOf v.toNat (8 * c + 4) (8 * c) ≤ 17 →
        (u.erased b c).isSome = true)) ∧
    (∀ ch : Fin 8, (s.bed b).rest = 0 → (s.bed b).init.contains ch.val = true →
      sget (s.bed b).refs ch 0 = 0 ∨ (if (s.bed b).hot then 488 else 976) ≤ dt (sget (s.bed b).refAt ch 0) s.now →
      Answers (.refresh b ch) s (fun t => sget (t.bed b).refs ch 0 = sget (s.bed b).refs ch 0 + 1 ∧
        sget (t.bed b).refAt ch 0 = s.now ∧ t.pans = s.pans ∧ t.regs = s.regs)) ∧
    (∀ (unit : BitVec 12) (id : BitVec 4) (word : BitVec 20) (sel : Nat), s.alive = true → 0 < id.toNat → id.toNat < 12 →
      sramUnit unit.toNat id.toNat = true →
      (id ≠ 8 → Effects (.sramSweep unit id word false sel) s (fun u =>
        let at_ := sget s.err.sramAt unit.toNat 0
        let c := s.count unit.toNat 2
        (at_ = 0 ∨ 1000000 ≤ dt (at_ - 1) s.now → u = ({ c with err := { c.err with
          sramAt := sset c.err.sramAt unit.toNat (s.now + 1) 0 } }).logD unit.toNat 0 0x0107 (id.toNat + 16 * word.toNat)) ∧
        (¬(at_ = 0 ∨ 1000000 ≤ dt (at_ - 1) s.now) → u = c))) ∧
      (id = 6 ∨ id = 7 ∨ id = 11 → Effects (.sramSweep unit id word true sel) s (fun u =>
        u = s.logD unit.toNat 3 0x0109 (id.toNat + 16 * word.toNat))) ∧
      (id = 8 → Effects (.sramSweep unit id word false sel) s (fun u => u = s.sramUe unit.toNat 8 word.toNat sel)) ∧
      (id ≠ 6 → id ≠ 7 → id ≠ 11 → Effects (.sramSweep unit id word true sel) s (fun u =>
        u = s.sramUe unit.toNat id.toNat word.toNat sel)))

/-- R234 to R240: the rake. A start, at once or at its instant, begins a pass at the first row of every channel; one given for a
future instant waits for it; a row visited at its time, when the channel's slot is the rake's, is read and the channel moves
to its next row, and when every channel has read its last one the pass has ended. R241 to R243: an operation of the stack
checker, started in TEST while none runs: WRITE_ENC writes the data bytes of BED_CHK with their check bytes into every beat
of a block of the test row, WRITE_RAW the data and check bytes as they stand, and a READ answers the beat it names; outside
TEST STATUS reads REFUSED; while one runs the write is ignored. (That an operation acts when it is written, and DONE alone follows
later, is the model's choice: log entry 109.) Completes: RAKE_START_NOW, RAKE_START_TIMED,
RAKE_START_INSTANT, RAKE_ROW_VISIT, WRITE_ENC, WRITE_DATA, WRITE_CHECK, WRITE_RAW, READ, CHK_OP_DONE. -/
def Obligations.RakeAndChecker : Prop :=
  (∀ (s : State) (b : Fin 8),
    let begun := fun (u : State) => (u.bed b).rakeT0 = some s.now ∧ (u.bed b).rakePos = [] ∧ (u.bed b).rakePend = none
    let at_ := s.rv (bedOff b 0xC88)
    (s.alive = true → Effects (.rakeStartNow b) s (fun u => begun u ∧ (u.bed b).rakeRefused = false)) ∧
    (s.alive = true → schedule s.now at_ = .pending → Effects (.rakeStartTimed b) s (fun u =>
      (u.bed b).rakePend = some at_ ∧ (u.bed b).rakePos = (s.bed b).rakePos ∧ (u.bed b).rakeRefused = false)) ∧
    (s.alive = true → schedule s.now at_ = .refused → Effects (.rakeStartTimed b) s (fun u =>
      (u.bed b).rakePend = none ∧ (u.bed b).rakePos = (s.bed b).rakePos ∧ (u.bed b).rakeRefused = true)) ∧
    (s.alive = true → schedule s.now at_ = .due ∨ schedule s.now at_ = .past → Effects (.rakeStartTimed b) s begun) ∧
    (∀ x, (s.bed b).rakePend = some x → reached (s.nowAt b) x = true → Answers (.rakeStartInstant b) s (fun t => begun t ∧
      t = s.updBed b (fun x => { x with rakeT0 := some s.now, rakePos := [], rakePend := none }))) ∧
    (∀ (ch : Fin 8) errs written u, s.rowDue b ch = true → s.chanSlot (8 * b.val + ch.val) 2 = some u →
      Answers (.rakeRowVisit b ch errs written) s (fun t => t = ((u.rakeRow b ch errs written).rakePassEnd b).pump)) ∧
    (∀ (ch : Fin 8) errs written, s.rowDue b ch = false ∨ s.chanSlot (8 * b.val + ch.val) 2 = none →
      Answers (.rakeRowVisit b ch errs written) s (fun t => t = s.pump))) ∧
  (∀ (s : State) (b : Fin 8) (v : BitVec 64), s.alive = true →
    let c := bitsOf v.toNat 30 28
    let k := bitsOf v.toNat 27 20
    let p := 8 * b.val + c
    let row := fun (u : State) => sget (u.pan p).testRow k none
    (∀ i, i ∈ [Instr.writeEnc b v, .writeData b v, .writeCheck b v, .writeRaw b v, .read b v] →
      ((s.bed b).chkBusy = true → Effects i s (fun u => u = s.bus)) ∧
      ((s.bed b).chkBusy = false → s.mode.cur ≠ .test → Effects i s (fun u => (u.bed b).chkBusy = true ∧
        u.rf (bedOff b 0xD20) 3 0 = 6 ∧ u.pans = s.pans))) ∧
    ((s.bed b).chkBusy = false → s.mode.cur = .test →
      Effects (.writeEnc b v) s (fun u => (u.bed b).chkBusy = true ∧
        row u = some (beatsBlock (List.replicate 8 (rsEncode (s.chkData b))))) ∧
      Effects (.writeRaw b v) s (fun u => (u.bed b).chkBusy = true ∧
        row u = some (beatsBlock (List.replicate 8 (s.chkData b ++ s.chkCheck b)))) ∧
      ∀ w, row s = some w →
        Effects (.writeData b v) s (fun u => (u.bed b).chkBusy = true ∧ row u = some (setLayers w 0 (s.chkData b))) ∧
        Effects (.writeCheck b v) s (fun u => (u.bed b).chkBusy = true ∧ row u = some (setLayers w 16 (s.chkCheck b))) ∧
        (∀ er, er = (if v.toNat.testBit 34 then (if bitsOf v.toNat 39 35 ≤ 17 then some (bitsOf v.toNat 39 35) else none)
            else s.erased b c) →
          Effects (.read b v) s (fun u =>
            let j := bitsOf v.toNat 33 31
            let beat := (blockBeats w).getD j []
            let st := chkStatus w er (s.layerCheck b) j
            (u.bed b).chkBusy = true ∧ u.pans = s.pans ∧ u.rv (bedOff b 0xD08) = ofBytes (beat.take 8) ∧
            u.rv (bedOff b 0xD10) = ofBytes ((beat.drop 8).take 8) ∧ u.rv (bedOff b 0xD18) = ofBytes (beat.drop 16) ∧
            u.rf (bedOff b 0xD20) 3 0 = st.1))) ∧
    Answers (.chkOpDone b) s (fun t => t = s.updBed b (fun x => { x with chkBusy := false })))

/-- R186 to R189, R193, R196 to R202: the arbiters. A grant sets the winner's wait counter to 0 and raises that of every other
requester by 1; every request that has reached the ancient age is marked ancient wherever it waits; a message that a Hinge
port, a Knuckle link or a memory port has begun to link holds its packer until it ends, and has its grace when it has been
held for MAX_HOLD; at the end of the grace the port is closed off, recorded and reset; a privileged requester held for
MAX_HOLD and the grace is recorded, and reset unless its break is masked; a commit copies the shadow weights of the block
into force, at once or at its instant. (That ARB_GRACE brings the part of the message that has come, and may begin a hold, is the
model's choice: log entry 65.) Completes: ANCIENT_BIT_SET, ARB_GRACE, ARB_CUTOFF, ARB_PRIV_LIMIT, ARB_COMMIT_NOW,
ARB_COMMIT_TIMED, ARB_COMMIT_INSTANT. -/
def Obligations.ArbiterResults : Prop :=
  ∀ (s : State),
    (∀ (a : ArbId) (l : List Asker) (w x : Asker), w ∈ l → x ∈ l → (l.map (fun y => y.num)).Nodup → (l.map (fun y => y.id)).Nodup →
      a.line = 0 → let u := (s.award a l w).arb a
      sget u.waits w.num 0 = 0 ∧ (x ≠ w → sget u.waits x.num 0 = sget (s.arb a).waits x.num 0 + 1) ∧
      (∀ n, (∀ y ∈ l, y.num ≠ n) → sget u.waits n 0 = sget (s.arb a).waits n 0)) ∧
    Answers .ancientBitSet s (fun t => t.regs = s.regs ∧
      (∀ p, (t.pan p).trks = (s.pan p).trks.map (fun e => { e with rq := s.aged e.rq })) ∧
      (∀ p, (t.hinge p).outst = (s.hinge p).outst.map (fun o => { o with rq := o.rq.map s.aged }))) ∧
    (∀ (d : Fin 8) (port : Fin 32) (queue : BitVec 10) (m : Part) (cells : Fin 8) (held : Nat), s.alive = true →
      let now := s.arbCycle (bedArb d)
      let limit := s.maxHold (.bed d)
      (∀ b u, (s.bed d).graces.find? (fun g => g.port == port.val) = none → s.partBody d port queue.toNat m = some b →
        s.packerFree d queue.toNat port b = true → (s.cands d).any (fun c => c.port == port.val) = false →
        s.brinePart (8 * d + queue.toNat / 128) port (queue.toNat % 4) cells b (s.bodyStamp b) = some u →
        Answers (.arbGrace (.bed d) 0 port queue { m := m, cells := cells, held := held }) s (fun t => t.regs = s.regs ∧ t.pans = s.pans ∧
          (t.bed d).queues = (u.bed d).queues ∧ (t.bed d).graces = (s.bed d).graces ++
            [{ port := port, queue := queue.toNat, since := now, grace := if limit ≤ held then some now else none }])) ∧
      (∀ g, (s.bed d).graces.find? (fun g => g.port == port.val) = some g → g.queue = queue.toNat →
        Answers (.arbGrace (.bed d) 0 port queue { m := m, cells := cells, held := held }) s (fun t => t.regs = s.regs ∧ t.pans = s.pans ∧
          (t.bed d).graces = (s.bed d).graces.map (fun g => if g.port = port.val ∧ g.grace = none ∧ limit ≤ max held (now - g.since) then
            { g with grace := some now } else g)))) ∧
    (∀ (l : Fin 8) (port : Fin 32) (queue : BitVec 10) (b : KBody) (cells : Fin 8) (held : Nat), s.alive = true → port.val < 24 →
      s.linkFor b true = some l.val ∨ s.linkFor b false = some l.val → s.isQuar port = false → (s.kn l).graces = [] →
      (s.kn l).wait = [] → Answers (.arbGrace (.kl l) 0 port queue { m := .msg b, cells := cells, held := held }) s (fun t => t.regs = s.regs ∧
        let now := s.arbCycle (klArb l 0)
        (t.kn l).graces = [{ port := port, since := now, grace := if s.maxHold (.kl l) ≤ held then some now else none }] ∧
        ∃ e, (t.kn l).egress = (s.kn l).egress ++ [e] ∧ e.msg.body = b ∧ e.partial_ = true)) ∧
    (∀ (b : ArbBlk) (port : Fin 32), s.graceOver b port = true → Effects (.arbCutoff b 0 port) s (fun u =>
      let cut := if 24 ≤ port.val then s.mpPartials (port - 24) else []
      u = ((((s.closePartials port).quarantine port).logD (arbUnit b) 2 0x0401 (16 * arbUnit b)).cutData (port - 24) cut).quarReset port)) ∧
    (∀ (b : ArbBlk) (n : Fin 8) (r : Priv) (held bit num : Nat), s.alive = true → s.privBit b n r = some (bit, num) →
      let a := arbId b n
      let s1 := s.privHold a num held
      let x := s1.arb a
      let d := privUnit r + n.val * 2 ^ 12
      (s1.overHeld b a num = false → Effects (.arbPrivLimit b n { r := r, held := held }) s (fun u => u = s1)) ∧
      (s1.overHeld b a num = true → (s.rv (arbBase b + 0x908)).testBit bit = true →
        (x.warned = true → Effects (.arbPrivLimit b n { r := r, held := held }) s (fun u => u = s1)) ∧
        (x.warned = false → Effects (.arbPrivLimit b n { r := r, held := held }) s (fun u =>
          u = (s1.setArb a { x with warned := true }).logD (arbUnit b) 2 0x0402 d))) ∧
      (s1.overHeld b a num = true → (s.rv (arbBase b + 0x908)).testBit bit = false → Effects (.arbPrivLimit b n { r := r, held := held }) s (fun u =>
        u = ((s1.setArb a { x with hold := none, warned := false }).privReset r).logD (arbUnit b) 2 0x0403 d))) ∧
    ∀ b : ArbBlk,
      let inForce := fun (u : State) => (∀ n, n < 8 → u.rv (arbBase b + 0x980 + 8 * n) = s.rv (arbBase b + 0x940 + 8 * n)) ∧
        u.arbPendOf b = none
      let at_ := s.rv (arbBase b + 0x918)
      (s.regOpen (arbBase b + 0x910) = true → Answers (.arbCommitNow b) s (fun t => inForce t ∧
        ∀ o, o ≠ arbBase b + 0x910 → (∀ n, n < 8 → o ≠ arbBase b + 0x980 + 8 * n) → t.rv o = s.rv o)) ∧
      (s.regOpen (arbBase b + 0x910) = true → schedule s.now at_ = .pending → Effects (.arbCommitTimed b) s (fun u => u.arbPendOf b = some at_ ∧
        ∀ n, n < 8 → u.rv (arbBase b + 0x980 + 8 * n) = s.rv (arbBase b + 0x980 + 8 * n))) ∧
      (s.regOpen (arbBase b + 0x910) = true → schedule s.now at_ = .due ∨ schedule s.now at_ = .past →
        Effects (.arbCommitTimed b) s inForce) ∧
      (∀ x, s.arbPendOf b = some x → reached (s.blkNow b) x = true → Answers (.arbCommitInstant b) s (fun t => inForce t ∧
        ∀ o, (∀ n, n < 8 → o ≠ arbBase b + 0x980 + 8 * n) → t.rv o = s.rv o))

/-- R250 to R262, R288: how a link trains. A block that every lane receives with its marker counts, the eighth in a row ends
DETECT, one that a lane misses starts the count again, and one with an unused TSID is ignored; in ALIGN blocks in lane order,
straight or reversed, count by their TS2, the eighth ends ALIGN, and lanes in another order or too far apart end the
training; the 64th good codeword in a row ends CODEWORD; a link that stays in a phase for 2 ms starts again, as one does
after the pause of a mismatch, and a closed one that sees a signal. A retraining link keeps its state and returns to ACTIVE
with a request for replay, or is reset at its limit. R260 to R262, R271, R288, R290: the CONFIG exchange. A CFG that agrees
with what the device declares and advertises 16 units or more on every channel is taken, and its units are the credit of the
link; one that does not is recorded and pauses the link; a CFG_ACK after it makes the link ACTIVE with its sequence numbers
and its replay buffer new. Completes: LANE_BLOCK, CODEWORD, LINK_STATE_TIMEOUT, CONFIG_PAUSE_END, CLOSED_SIGNAL_DETECT,
RETRAIN_RETURN, RETRAIN_LIMIT, PORT_RESET_DETECT, CFG, CFG_ACK. -/
def Obligations.LinkTraining : Prop :=
  (∀ (s : State) (l : LinkRef),
    let k := s.lk l
    (∀ (blks : List LaneBlk) (skew : BitVec 8),
      let w := s.lkWidth l
      let whole := blks.length = w ∧ blks.all (fun b => (laneSync b).isSome) = true
      let lanes := blks.map (fun b => (laneTrue b).lane.toNat)
      let tsids := blks.map (fun b => (laneTrue b).tsid)
      let ordered := lanes = List.range w ∨ lanes = (List.range w).reverse
      let ts2 := if tsids.all (fun t => t = 2) then k.ts2 + 1 else k.ts2
      (k.st = .detect → ¬whole → Effects (.laneBlock l blks skew) s (fun u => u.lk l = { k with blks := 0 })) ∧
      let seen := ∀ t ∈ tsids, t ≠ 0 ∧ t ≠ 3
      (k.st = .detect → whole → ¬seen → Effects (.laneBlock l blks skew) s (fun u => u = s)) ∧
      (k.st = .detect → whole → seen → k.blks + 1 < 8 → Effects (.laneBlock l blks skew) s (fun u =>
        u.lk l = { k with blks := k.blks + 1, polinv := polOf blks })) ∧
      (k.st = .detect → whole → seen → 8 ≤ k.blks + 1 → Effects (.laneBlock l blks skew) s (fun u =>
        (u.lk l).st = .align ∧ (u.lk l).subAt = s.now ∧ (u.lk l).polinv = polOf blks)) ∧
      (k.st = .align → whole → seen → ordered → skew.toNat ≤ 20 →
        (ts2 < 8 → Effects (.laneBlock l blks skew) s (fun u =>
          (u.lk l).st = .align ∧ (u.lk l).ts2 = ts2 ∧ ((u.lk l).rev = true ↔ lanes = (List.range w).reverse))) ∧
        (8 ≤ ts2 → Effects (.laneBlock l blks skew) s (fun u => (u.lk l).st = .codeword ∧ (u.lk l).cwGood = 0))) ∧
      (k.st = .align → whole → seen → ¬ordered ∨ 20 < skew.toNat →
        Effects (.laneBlock l blks skew) s (fun u => u = s.trainFail l))) ∧
    (∀ (errs : List (Fin 544)) (seqd : Bool),
      let bad := 15 < (distinct (errs.map (·.val))).length
      (k.st = .codeword → ¬bad → 64 ≤ k.cwGood + 1 → Effects (.codeword l 0xB errs seqd) s (fun u =>
        (u.lk l).st = .config ∧ (u.lk l).cfgSeen = false)) ∧
      (k.st = .codeword → ¬bad → k.cwGood + 1 < 64 → Effects (.codeword l 0xB errs seqd) s (fun u =>
        (u.lk l).st = .codeword ∧ (u.lk l).cwGood = k.cwGood + 1 ∧ (u.lk l).cwBad = 0)) ∧
      (∀ sync, k.st = .codeword ∨ (k.st = .active ∧ k.cwBad + 1 < 4) → bad → Effects (.codeword l sync errs seqd) s (fun u =>
        (u.lk l).st = k.st ∧ (u.lk l).cwGood = 0 ∧ (u.lk l).cwBad = k.cwBad + 1)) ∧
      (∀ sync, k.st = .active → bad → 4 ≤ k.cwBad + 1 → Effects (.codeword l sync errs seqd) s (fun u =>
        (u.lk l).st = .retrain ∧ (u.lk l).since = s.now ∧ (u.lk l).blks = 0))) ∧
    (k.phase = .align ∨ k.phase = .codeword ∨ (k.phase = .config ∧ k.pause = none) → 2000000 ≤ dt k.subAt s.now →
      Effects (.linkStateTimeout l) s (fun u => u = s.trainFail l)) ∧
    (∀ x, k.pause = some x → k.st = .config → reached s.now x = true → Effects (.configPauseEnd l) s (fun u => u = s.toDetect l)) ∧
    (k.st = .closed → Effects (.closedSignalDetect l) s (fun u => u = s.toDetect l ∧ (u.lk l).st = .detect)) ∧
    (k.st = .retrain → k.phase = .codeword → 64 ≤ k.cwGood → Effects (.retrainReturn l) s (fun u =>
      (u.lk l).st = .active ∧ (u.lk l).rxExpect = k.rxExpect ∧ (u.lk l).replay = k.replay ∧ (u.lk l).asking.isSome = true)) ∧
    (k.st = .retrain → max 1 (s.lkCtl l 47 32) * 1000000 ≤ dt k.since s.now → Effects (.retrainLimit l) s (fun u =>
      u = s.linkReset l 3)) ∧
    (∀ x, k.detectAt = some x → k.st = .reset → reached s.now x = true → Effects (.portResetDetect l) s (fun u =>
      u = s.resetEnds l ∧ ((match l with
        | .hp p h => (s.hinge p).mode = s.rf (hpOff p 0) 33 32 ∧ (s.hinge p).mode ≠ 0 ∧ (h = true → (s.hinge p).mode = 2)
        | .kl _ => True) → (u.lk l).st = .detect)))) ∧
  (∀ (s : State) (flit : BitVec 512),
    let m := flSlot flit 0
    (∀ (p : Fin 16) (h : Bool),
      let l := LinkRef.hp p h
      let k := s.lk l
      let cred := [(1, bitsOf m 95 80), (2, bitsOf m 79 64), (3, bitsOf m 63 48)]
      k.st = .config → k.pause = none → cfgFlit flit 1 = true → ctlShape flit = true →
      (bitsOf m 119 116 = s.declared p h → (∀ c ∈ cred, 16 ≤ c.2) → Effects (.cfg l flit) s (fun u =>
        u.lk l = { k with cfgSeen := true, credTx := cred, credAdv := cred })) ∧
      (bitsOf m 119 116 ≠ s.declared p h ∨ (∃ c ∈ cred, c.2 < 16) → Effects (.cfg l flit) s (fun u =>
        u = s.mismatch l (bitsOf m 119 116 + 16 * s.declared p h + 256 * b2n h) 0 ∧
        (u.lk l).pause = some (s.now + 100000000) ∧ (u.lk l).cfgSeen = true))) ∧
    (∀ n : Fin 8,
      let l := LinkRef.kl n
      let k := s.lk l
      let cred := (List.range 7).map (fun c => (c, bitsOf m (95 - 12 * c) (84 - 12 * c)))
      let nbr := (bitsOf m 119 114 = s.rf (klOff n 0) 23 18 ∧ bitsOf m 113 111 = s.rf (klOff n 0) 17 15) ∨ s.bootMode = true
      k.st = .config → k.pause = none → cfgFlit flit 1 = true → ctlShape flit = true →
      (nbr → (∀ c ∈ cred, 16 ≤ c.2) → Effects (.cfg l flit) s (fun u =>
        u.lk l = { k with cfgSeen := true, credTx := cred, credAdv := cred } ∧ (u.kn n).peerDev = bitsOf m 119 114 ∧
        (u.kn n).peerLink = bitsOf m 113 111)) ∧
      (¬nbr ∨ (∃ c ∈ cred, c.2 < 16) → Effects (.cfg l flit) s (fun u =>
        (u.lk l).pause = some (s.now + 100000000) ∧ (u.lk l).cfgSeen = true))) ∧
    ∀ l, (s.lk l).st = .config → (s.lk l).pause = none → (s.lk l).cfgSeen = true → cfgFlit flit 2 = true →
      ctlShape flit = true →
      Effects (.cfgAck l flit) s (fun u => (u.lk l).st = .active ∧ (u.lk l).txNext = 0 ∧ (u.lk l).rxExpect = 0 ∧
        (u.lk l).replay = [] ∧ (u.lk l).credTx = (s.lk l).credTx))

/-- R263, R267, R269, R273 to R276, R278: sequencing. A whole group in sequence is taken once, the next expected number moves
past it, and a request for replay ends; one that came before is dropped and nothing changes; one ahead of the expected
number, and one whose check fails, asks for a replay, unless one is asked for already. R263, R264, R273 to R278: flits of a
link that is up. A message in sequence goes to its port; an idle flit's acknowledgement is taken; REPLAY_REQ sends again what
is held from the number asked for; a request for replay that is not met is repeated after 1 us, up to eight, and the link
retrains once the eighth has left; a control with an unused code is counted; a flit whose header check fails asks for a replay. Completes: MSG, IDLE,
REPLAY_REQ, REPLAY_REQ_REPEAT, UNUSED_CTL. -/
def Obligations.LinkFlits : Prop :=
  (∀ (s : State) (l : LinkRef) (f : BitVec 512) (pay : List (BitVec 512)) (n : Nat),
    let k := s.lk l
    let r := s.sequence l f pay
    let ahead := (flSeq f + 4096 - k.rxExpect) % 4096
    k.up = true → flAckv f = false →
    (hcrcOk f = false → r.1 = false ∧ r.2 = (s.count (linkUnit l) 0x111).askReplay l) ∧
    (hcrcOk f = true → flKind f = 1 → (flPay f).getD 0 = n → pay.length = n → (flPay f).isSome = true → pcrcOk f pay = true →
      (ahead = 0 → r.1 = true ∧ (r.2.lk l).rxExpect = (k.rxExpect + 1 + n) % 4096 ∧ (r.2.lk l).asking = none ∧
        (r.2.lk l).st = k.st ∧ (r.2.lk l).replay = k.replay) ∧
      (2048 ≤ ahead → r.1 = false ∧ r.2 = s) ∧
      (0 < ahead → ahead < 2048 → r.1 = false ∧ (r.2.lk l).asking.isSome = true ∧ (r.2.lk l).rxExpect = k.rxExpect))) ∧
  (∀ (s : State) (l : LinkRef) (flit : BitVec 512), (s.lk l).up = true →
    (∀ pay p h ms, l = .hp p h → (hcrcOk flit = true → flKind flit < 2 ∨ 5 < flKind flit) → (s.sequence l flit pay).1 = true →
      hingeParse flit pay = some ms → Answers (.msg l flit pay) s (fun t =>
        t = ((s.sequence l flit pay).2.hingeMsgs p h ms).pump)) ∧
    (∀ pay n ms, l = .kl n → (hcrcOk flit = true → flKind flit < 2 ∨ 5 < flKind flit) → (s.sequence l flit pay).1 = true →
      kParse flit pay = some ms → Answers (.msg l flit pay) s (fun t =>
        t = ((s.sequence l flit pay).2.knMsgs n ms).pump)) ∧
    (∀ pay, hcrcOk flit = false → Answers (.msg l flit pay) s (fun t =>
      t = ((s.count (linkUnit l) 0x111).askReplay l).pump)) ∧
    (hcrcOk flit = true → flKind flit = 2 → Effects (.idle l flit) s (fun u => u = s.takeAck l flit)) ∧
    (hcrcOk flit = false → Effects (.idle l flit) s (fun u => u = (s.count (linkUnit l) 0x111).askReplay l)) ∧
    (hcrcOk flit = true → flKind flit = 3 → flAckv flit = false → Effects (.replayReq l flit) s (fun u =>
      u = (s.count (linkUnit l) 0x113).replayFrom l (flSeq flit))) ∧
    (hcrcOk flit = false → Effects (.replayReq l flit) s (fun u => u = (s.count (linkUnit l) 0x111).askReplay l)) ∧
    (∀ r n x, (s.lk l).asking = some (r, n, x) → 1000 ≤ dt x s.now → n < 8 → Effects (.replayReqRepeat l) s (fun u =>
      (u.lk l).asking = some (r, n + 1, s.now) ∧ (u.lk l).st = (s.lk l).st ∧ (u.lk l).rrqLeft = (s.lk l).rrqLeft + 1)) ∧
    (∀ r n x, (s.lk l).asking = some (r, n, x) → 8 ≤ n → Effects (.replayReqRepeat l) s (fun u => u = s)) ∧
    (∀ r n x, (s.lk l).asking = some (r, n, x) → 8 ≤ n → (s.lk l).rrqLeft = 0 → (s.lk l).st = .active →
      3 * (s.lk l).unitBits (s.lkWidth l) ≤ (s.lk l).txBits + 280 → ((s.txLink l).lk l).st = .retrain) ∧
    (flKind flit = 4 → unusedCtl (ctlCode flit) = true → (s.control l flit).1 = true → Effects (.unusedCtl l flit) s (fun u =>
      u = (s.control l flit).2.lkCount l 0x119 0x11C 1)))

/-- R277, R279 to R286, R295, R302, R305, R455: resets and closing. A port reset by the peer, or by the register, resets the
port: its links are in RESET, with no sequence, no replay buffer and no credit, and train again after 1 us; a reset of the
device's own sends PORT_RESET eight times first; a Hinge port's agents are gone, and its dead marks and timeouts are cleared;
what had come in earns no credit; it is recorded. A close starts on the links that are ACTIVE, and goes on as its messages come; at its timeout it is recorded and ends;
once every link that closes has been electrically idle they are CLOSED; an open lets closed links train. Completes: PORT_RESET, LINK_CTL_RESET,
LINK_CTL_CLOSE, LINK_CTL_OPEN, CLOSE_REQ, CLOSE_READY, CLOSE_DONE, CLOSE_TMO, ELECTRICAL_IDLE_ENTRY. -/
def Obligations.LinkEndResults : Prop :=
  ∀ (s : State),
    (∀ (l : LinkRef) (flit : BitVec 512), (s.lk l).st ≠ .disabled → (s.lk l).st ≠ .closed → hcrcOk flit = true → flKind flit = 5 →
      Effects (.portReset l flit) s (fun u => u = s.linkReset l 0)) ∧
    (∀ (l : LinkRef) (cause : Nat),
      (match l with
        | .hp p h => (s.hinge p).mode ≠ 0 ∧ (h = true → (s.hinge p).mode = 2)
        | .kl n => (s.kn n).link.st ≠ .disabled) →
      let u := s.linkReset l cause
      let k := u.lk l
      k.st = .reset ∧ k.detectAt = some (s.now + 1000) ∧ k.rstLeft = (if cause = 0 then 0 else 8) ∧ k.replay = [] ∧ k.asking = none ∧
      k.txNext = 0 ∧ k.rxExpect = 0 ∧ k.credTx = [] ∧ k.credAdv = [] ∧ k.credRx = [] ∧ k.credDue = [] ∧
      (∀ p h, l = .hp p h →
        (∀ a, a < 4 → (u.hinge p).gone.testBit a = true) ∧ (u.hinge p).dead = 0 ∧ (u.hinge p).closing = false ∧
        (u.hinge p).rxAns = [] ∧ (∀ o ∈ (u.hinge p).outst, o.units = 0) ∧ u.rf (hpOff p 0x700) 31 0 = 0 ∧
        (u.hinge p).resets = satAdd (s.hinge p).resets 1 255 ∧ ∃ t : State, u = t.logD (uHinge p) 2 0x0208 cause) ∧
      (∀ n, l = .kl n → (u.kn n).resets = satAdd (s.kn n).resets 1 255 ∧ (∀ e ∈ (u.kn n).rx, e.units = 0) ∧
        ∃ t : State, u = t.logD (uKn n) 2 0x0306 cause)) ∧
    (∀ r : PortRef, s.regOpen (linkCtl r) = true → Effects (.linkCtlReset r) s (fun u => u = s.bus.ctlReset r)) ∧
    (∀ p : Fin 16, s.regOpen (linkCtl (.hp p)) = true → Effects (.linkCtlClose (.hp p)) s (fun u => u = (s.bus.closeStart (.hp p)).closeCheck p)) ∧
    (∀ n : Fin 8, s.regOpen (linkCtl (.kl n)) = true → Effects (.linkCtlClose (.kl n)) s (fun u => (u.kn n).link = (s.kn n).link.closeReq s.now)) ∧
    (∀ n : Fin 8, s.regOpen (linkCtl (.kl n)) = true → (s.kn n).link.st = .closed → Effects (.linkCtlOpen (.kl n)) s (fun u => (u.kn n).link.st = .detect)) ∧
    (∀ p : Fin 16, s.regOpen (linkCtl (.hp p)) = true → (s.hinge p).link0.st = .closed → (s.hinge p).link1.st = .closed → Effects (.linkCtlOpen (.hp p)) s (fun u =>
      (u.hinge p).link0.st = .detect ∧ (u.hinge p).link1.st = .detect)) ∧
    (∀ (l : LinkRef) (flit : BitVec 512), (s.lk l).up = true → flKind flit = 4 → (s.control l flit).1 = true →
      let c := (s.control l flit).2
      (ctlCode flit = 0x10 → Effects (.closeReq l flit) s (fun u =>
        let v := (c.closeStart (linkPort l)).updLk l (fun k => { k with closeReqSeen := true })
        u = (match l with | .hp p _ => v.closeCheck p | .kl _ => v))) ∧
      (ctlCode flit = 0x11 → (c.lk l).st = .closing → Effects (.closeReady l flit) s (fun u => u = (match l with
        | .hp p _ => (c.updHinge p (fun h => { h with readyAgents := h.readyAgents ||| bitsOf (flSlot flit 0) 119 116 })).closeCheck p
        | .kl _ => c.updLk l (fun k => { k with closeReadySeen := true })))) ∧
      (ctlCode flit = 0x12 → (c.lk l).st = .closing → Effects (.closeDone l flit) s (fun u => u = (match l with
        | .hp _ _ => c
        | .kl _ => c.updLk l (fun k =>
          if k.closeReadySeen && k.closeReadySent then { k with idleAt := some (s.now + 1000) } else k))))) ∧
    (∀ p : Fin 16, (s.hinge p).closing = true → (s.hinge p).link0.closeDoneSent = false → (s.hinge p).link1.closeDoneSent = false →
      max 1 (s.rf (hpOff p 0x10) 31 16) * 1000000 ≤
        dt (if (s.hinge p).link0.st == .closing then (s.hinge p).link0.closeAt else (s.hinge p).link1.closeAt) s.now →
      Effects (.closeTmo (.hp p)) s (fun u =>
        u = (if s.unready p = 0 then s else s.logD (uHinge p) 2 0x0207 (s.unready p)).closeEnd p)) ∧
    (∀ n : Fin 8, (s.kn n).link.st = .closing → (s.kn n).link.idleAt = none →
      max 1 (s.rf (klOff n 0x10) 31 16) * 1000000 ≤ dt (s.kn n).link.closeAt s.now → Effects (.closeTmo (.kl n)) s (fun u =>
        u = (s.logD (uKn n) 2 0x070A n).klClosed n ∧ (u.kn n).link.st = .closed)) ∧
    (∀ (n : Fin 8) x, (s.kn n).link.st = .closing → (s.kn n).link.idleAt = some x → reached s.now x = true →
      Effects (.electricalIdleEntry (.kl n)) s (fun u => (u.kn n).link.st = .closed)) ∧
    (∀ p : Fin 16,
      let h := s.hinge p
      let isOver := fun (k : Link) => k.st = .closing → ∃ x, k.idleAt = some x ∧ reached s.now x = true
      (h.link0.st = .closing ∨ h.link1.st = .closing → isOver h.link0 → isOver h.link1 → Effects (.electricalIdleEntry (.hp p)) s (fun u =>
        (h.link0.st = .closing → (u.hinge p).link0.st = .closed) ∧ (h.link1.st = .closing → (u.hinge p).link1.st = .closed) ∧
        (u.hinge p).closing = false)) ∧
      (¬(isOver h.link0 ∧ isOver h.link1) → Effects (.electricalIdleEntry (.hp p)) s (fun u => u = s)))

/-- R40, R42, R290, R296, R297, R302, R306, R429, R441: a whole message that arrives on a Knuckle link that is up. In a mode that
does not take it, it is discarded and counted, and its credits go back; one for another device is forwarded; a request for
this device that the map gives to another or to none is a conflict of the maps; every other message for this device waits in
the receive buffer of its channel, behind what came before it, with its stamp, for the queue it goes to. Completes:
KNUCKLE_MESSAGE. -/
def Obligations.KnuckleMessageResults : Prop :=
  ∀ (s : State) (l : Fin 8) (m : KMsg), (s.kn l).link.up = true →
    let s0 := (s.updKn l (fun k => { k with bwIn := k.bwIn + kBytes m.body })).count (uKn l) 0x121 (kBytes m.body)
    let s1 := s0.count (uKn l) 0x003 (b2n (s0.ripeK m.body))
    let ends := fun (u : State) => Answers (.knuckleMessage l m) s (fun t => t = u.pump)
    let m : KMsg := { m with body := s0.agedK m.body }
    let put := s1.updKn l (fun k => { k with rx := k.rx ++ [{ msg := m, units := 0, stamp := s1.kStamp m.body, dst := s1.kDst m.body }] })
    (s1.kTakes m = false → ends ((s1.knDiscard l).oweK l m.kvc.toNat 0)) ∧
    (s1.kTakes m = true → kDev m.body ≠ s.me → ends (s1.unitsWith (s1.kForward l m) (16 + l) false m.kvc.toNat 0)) ∧
    (s1.kTakes m = true → kDev m.body = s.me →
      ((∀ r, m.body ≠ .req r) → ends put) ∧
      (∀ r, m.body = .req r →
        (∀ a x, s1.homeOf r.addr.toNat = some (s.me, a, x) → ends put) ∧
        (∀ d a x, s1.homeOf r.addr.toNat = some (d, a, x) → d ≠ s.me → ends ((s1.mapConflict l r (some d)).oweK l m.kvc.toNat 0)) ∧
        (s1.homeOf r.addr.toNat = none → ends ((s1.mapConflict l r none).oweK l m.kvc.toNat 0))))

/-- R300, R405: a commit of the routes, at once, or at its instant. It copies every shadow entry into the active table, keeps the
table before it, and changes the epoch; it is refused while the hold of the last one runs; the table kept goes when that hold
has ended. R303: the three timers of the fabric. A grant to an agent of another device without its mark for the timeout
counts as delivered, with a record; a request that has not been answered for twice the timeout is answered TargetDown, with a
record; a posted one becomes a posted fault. Completes: ROUTE_COMMIT_NOW, ROUTE_COMMIT_TIMED, ROUTE_COMMIT_INSTANT,
PREVIOUS_TABLE_EXPIRY, KN_MARK_TMO, KN_REQ_TMO, POSTED_REQUEST_TMO. -/
def Obligations.RoutesAndFabricTimers : Prop :=
  (∀ (s : State),
    let at_ := s.rv 0x1408
    let done := fun (u : State) => (∀ d, d < 64 → u.route d = s.rv (0x1000 + 8 * d)) ∧ u.fab.epoch = !s.fab.epoch ∧
      u.fab.prev = s.activeRoutes ∧ u.fab.prevValid = true ∧ u.fab.commitAt = some s.now ∧ u.fab.routePend = none
    let refused := fun (u : State) => (∀ d, d < 64 → u.route d = s.route d) ∧ u.fab.epoch = s.fab.epoch ∧
      u.fab.routePend = none ∧ u.fab.routeRefused = true
    (s.alive = true → s.routeEarly s.now = false → Effects .routeCommitNow s (fun u => done u ∧ u.fab.routeRefused = false)) ∧
    (s.alive = true → s.routeEarly s.now = true → Effects .routeCommitNow s refused) ∧
    (s.alive = true → schedule s.now at_ = .pending → s.routeEarly at_ = false → Effects .routeCommitTimed s (fun u =>
      u.fab.routePend = some at_ ∧ u.fab.routeRefused = false ∧ ∀ d, d < 64 → u.route d = s.route d)) ∧
    (s.alive = true → schedule s.now at_ = .refused ∨ (schedule s.now at_ = .pending ∧ s.routeEarly at_ = true) →
      Effects .routeCommitTimed s refused) ∧
    (∀ x, s.fab.routePend = some x → reached s.now x = true → s.routeEarly s.now = false → Effects .routeCommitInstant s done) ∧
    (∀ c, s.fab.commitAt = some c → s.fab.prevValid = true → s.routeEarly s.now = false → dt c s.now < 2 ^ 63 →
      Answers .previousTableExpiry s (fun t => t = { s with fab := { s.fab with prev := [], prevValid := false } }))) ∧
  (∀ (s : State),
    (∀ (p : Fin 64) (k : Fin 768) (e : Trk), s.homeOpen = true → (s.pan p).trk k = some e → e.grant.isSome = true → e.mark = none →
      agDev e.rq.src ≠ s.me → s.tmoNs ≤ dt e.grantAt s.now → Effects (.knMarkTmo p k) s (fun u =>
        let rec_ : ErrInfo :=
          { unit := p, cls := 2, code := 0x0309, agent := some e.rq.src.toNat, detail := e.rq.tag.toNat + p.val * 1024 }
        u = ((s.logErr rec_).updTrk p k (fun e => { e with mark := some false })).progress p k)) ∧
    ∀ (port : Fin 16) (src : BitVec 12) (tag : BitVec 10) (o : Outst),
      let u := s.updHinge port (fun h => { h with outst := (dropFirst (· == o) h.outst).2 })
      (s.overdueReq port src tag false = some o → Effects (.knReqTmo port src tag) s (fun v =>
        let rec_ : ErrInfo :=
          { unit := uHinge port, cls := 2, code := 0x030A, agent := some src.toNat, detail := tag.toNat + o.homeDev * 1024 }
        v = (u.logErr rec_).portSays (.targetDown src tag))) ∧
      (s.overdueReq port src tag true = some o → Effects (.postedRequestTmo port src tag) s (fun v =>
        v = u.pfWrite src false 3 s.now o.addr.toNat (uHinge port))))

/-- R162, R307 to R310: management messages and the host's accesses. On the head an access to its own window is a register access
of BAR0, and one to another device's waits its turn and is forwarded; MRD is answered with the register's value, MWR writes
it, each with STATUS 2 where the register cannot be reached; MCPL, or 1 ms without it, ends the access that it answers; MVEC
raises the sender's vector at the host; an unused opcode is counted. (That the head's ID is learnt from the first MRD or MWR is the model's choice: log entry 14.) Completes:
HOST_BAR2_ACCESS, MRD, MWR, MCPL, MVEC,
UNUSED_MGMT_OPCODE, MCPL_TIMEOUT. -/
def Obligations.ManagementResults : Prop :=
  ∀ (s : State), s.alive = true →
    (∀ (dev : BitVec 6) (off : BitVec 26) (wr w32 : Bool) (v : BitVec 64), s.mode.head = true →
      let a : HostAcc := { dev := dev.toNat, off := off.toNat, wr := wr, w32 := w32, v := v.toNat }
      let c := s.count uEndpoint 0x100
      (dev.toNat ≠ s.me → Effects (.hostBar2Access dev off wr w32 v) s (fun u =>
        u = ({ s with fab := { s.fab with hostQ := s.fab.hostQ ++ [a] } }).fwdQueue)) ∧
      (dev.toNat = s.me → s.regOpen off.toNat = true → wr = true → Effects (.hostBar2Access dev off wr w32 v) s (fun u =>
        u = c.hostWrite 0 off.toNat v.toNat (!w32))) ∧
      (dev.toNat = s.me → s.regOpen off.toNat = true → wr = false → Effects (.hostBar2Access dev off wr w32 v) s (fun u =>
        u.fab.hostStat = 1 ∧ u.fab.hostData = BitVec.ofNat 64 (c.readReg 0 off.toNat w32).1)) ∧
      (dev.toNat = s.me → s.regOpen off.toNat = false → Effects (.hostBar2Access dev off wr w32 v) s (fun u =>
        u.fab.hostStat = 2 ∧ u.regs = s.regs))) ∧
    (∀ (l : Nat) (m : Mgmt) (st : BitVec 16) (rest : List (Nat × Mgmt × BitVec 16)), s.fab.mgmtIn = (l, m, st) :: rest →
      let t := { s with fab := { s.fab with mgmtIn := rest } }
      let t1 := t.learnHead m
      let off := m.offset.toNat
      (m.opc = 0 → s.regOpen off = true → Effects .mrd s (fun u =>
        u = (t1.readReg 1 off m.w32).2.reply l m 0 (t1.readReg 1 off m.w32).1)) ∧
      (m.opc = 0 → s.regOpen off = false → Effects .mrd s (fun u => u = t1.reply l m 2 0)) ∧
      (m.opc = 1 → s.regOpen off = true → Effects .mwr s (fun u => u = (t1.hostWrite 1 off m.data.toNat (!m.w32)).reply l m 0 0)) ∧
      (m.opc = 1 → s.regOpen off = false → Effects .mwr s (fun u => u = t1.reply l m 2 0)) ∧
      (∀ x, m.opc = 2 → s.fab.mgmt.find? (fun x => x.mtag == m.mtag.toNat && x.dev == m.sdev.toNat) = some x →
        Effects .mcpl s (fun u => u = t.fwdDone x m.status.toNat m.data)) ∧
      (m.opc = 3 → s.mode.head = true → Effects .mvec s (fun u =>
        u.fab.msix = (32 * m.sdev.toNat + m.mtag.toNat % 32) :: s.fab.msix ∧ u.fab.mgmtIn = rest ∧ u.regs = s.regs)) ∧
      (4 ≤ m.opc.toNat → Effects .unusedMgmtOpcode s (fun u => u = t.count (uKn l) 0x120))) ∧
    (∀ (mtag : BitVec 8) x, s.fab.mgmt.find? (fun x => x.mtag == mtag.toNat) = some x → 1000000 ≤ dt x.at_ s.now →
      Effects (.mcplTimeout mtag) s (fun u => u = s.fwdDone x 7 0))

/-- R312 to R316, R318, R320, R321, R456: a memory port's link. A target enumerated at the speed and width of its mode is up,
ready when every step of its enumeration has succeeded; what waits for a ready port is sent as its arbiter grants it; the step that fails is recorded; one
that does not fit is recorded and stays down; a link that goes down is recorded, and so is a reset and an indication of
viral, and the requests it had taken fail. A request whose time has run out fails. R317, R319: the events of a memory device
are recorded, in order, while their recording is enabled; an access to its configuration space or its registers starts where
its link is up, and its completion is DONE, with the data of a read. (The order in which BARs are placed, and the step that a refusal and BARs that
do not fit are recorded with, are the model's choice, log entry 46; so is what a write does to the access in progress, log entry 106.)
Completes: MP_ENUMERATION, MP_LINK_DOWN, MP_LINK_RESET,
VIRAL_INDICATION, MP_COMPLETION_TIMEOUT, MP_EVENT, MP_IO_ADDR, MP_IO_DONE. -/
def Obligations.MemoryPortResults : Prop :=
  (∀ (s : State) (m : Fin 8) (half : Bool),
    let h := b2n half
    (∀ (speed : BitVec 2) (width : Fin 17), s.mpRuns = true → s.mpTarget m h = true → s.mpRetired m = false →
      (s.mp m).down = false → (s.mp m).ready h = false →
      (∀ dev, s.mpAccepts m speed.toNat width = false → Effects (.mpEnumeration m half speed width dev) s (fun u =>
        u = ((s.setHalf m h { link := 0 }).mpRec m h 2 0x030F 0).mpUnquarantine m)) ∧
      (∀ dev : MemDev, s.mpAccepts m speed.toNat width = true →
        let x : MHalf := { link := 2, speed := speed.toNat, width := width }
        let bars := barBases (0x40000000 * (h + 1)) (dev.bars.map (·.val))
        let hdm := s.hdmFor (2 * m.val + h)
        let step : Nat :=
          if dev.type3 = false ∨ dev.memCap = false ∨ dev.single = false ∨ dev.cap < s.mpCap m h then 1
          else if 2 ^ 30 < dev.bars.foldl (fun a b => a + 2 ^ b.val) 0 then 2
          else if dev.takesHdm = false then 3
          else if dev.takesMsi = false then 4
          else 0
        (step = 0 → Effects (.mpEnumeration m half speed width dev) s (fun u =>
          (u.mp m).half h = { x with bars := bars, hdm := hdm, msi := true, ready := true } ∧
          (u.mp m).reqs = (s.mp m).reqs ∧ u.pans = s.pans ∧ u.regs = s.regs)) ∧
        let y := if step ≤ 2 then x else if step = 3 then { x with bars := bars } else { x with bars := bars, hdm := hdm }
        let s1 := if speed = 1 then s.mpRec m h 0 0x030E (16 + 64 * width.val) else s
        (step ≠ 0 → Effects (.mpEnumeration m half speed width dev) s (fun u =>
          u = ((s1.setHalf m h y).mpUnquarantine m).mpRec m h 2 0x030F (16 * step) ∧
          (u.mp m).half h = y ∧ (u.mp m).reqs = (s.mp m).reqs)))) ∧
    (((s.mp m).half h).link = 2 → Effects (.mpLinkDown m half) s (fun u =>
      u = ((s.setHalf m h {}).mpRec m h 2 0x030D 0).halfDown m h)) ∧
    (s.regOpen (mpOff m 0x10) = true → s.mpRuns = true → Effects (.mpLinkReset m) s (fun u => u = s.bus.mpReset m 1)) ∧
    (s.regOpen (mpOff m 0x10) = true → s.mpRuns = false → Effects (.mpLinkReset m) s (fun u => u = s.bus)) ∧
    (∀ n w r,
      let asks := (s.mp m).waiting.map (fun r => s.asker (mpArb m) r.pan (r.pan / 8) r.anc r.stamp)
      s.winner (mpArb m) asks = some w → (s.mp m).waiting.find? (fun r => r.pan == w.num) = some r →
      s.pumpMp m (n + 1) = ((s.award (mpArb m) asks w).mpIssue m r).pumpMp m n ∧
      ((s.mpIssue m r).mp m).reqs = (s.mp m).reqs.map (fun q => if q = r then q.issue s.now else q)) ∧
    (((s.mp m).half h).link = 2 → Effects (.viralIndication m half) s (fun u => u = s.mpReset m 3)) ∧
    (∀ (ix : Nat) (r : MReq), (s.mp m).reqs[ix]? = some r →
      s.mpRetired m = true ∨ max 1 (s.rf (mpOff m 0x10) 31 16) * 1000 ≤ dt r.at_ s.now →
      Effects (.mpCompletionTimeout m ix) s (fun u => u = s.reqFails m r (if r.sent then 0 else 1)))) ∧
  (∀ (s : State) (m : Fin 8),
    (∀ (half : Bool) (recs : List MemEvent), (s.rv (mpOff m 0x10)).testBit 1 = true → (s.mp m).ready (b2n half) = true →
      Effects (.mpEvent m half recs) s (fun u => u = recs.foldl (fun t e => t.mpEvent m (b2n half) e) s)) ∧
    (∀ v : BitVec 64, s.regOpen (mpOff m 0x20) = true → (s.mp m).ioDone = false → Answers (.mpIoAddr m v) s (fun t =>
      t = s.bus.updMp m (fun p => { p with ioStatus := 4 }))) ∧
    (∀ v : BitVec 64, s.regOpen (mpOff m 0x20) = true → (s.mp m).ioDone = true → Answers (.mpIoAddr m v) s (fun t =>
      let up := ((s.mp m).half (b2n (v.toNat.testBit 61))).link = 2
      t.rv (mpOff m 0x20) = v.toNat &&& 0xE00F0000FFFFFFFF ∧ (∀ o, o ≠ mpOff m 0x20 → t.rv o = s.rv o) ∧
      (up → (t.mp m).ioDone = false ∧ (t.mp m).ioStatus = 0 ∧ (t.mp m).ioAt = s.now) ∧
      (¬up → (t.mp m).ioDone = true ∧ (t.mp m).ioStatus = 4))) ∧
    (∀ (status : Fin 4) (data : BitVec 32), (s.mp m).ioDone = false → status ≠ 3 ∨ s.ioLate m = true →
      Answers (.mpIoDone m status data) s (fun t => (t.mp m).ioDone = true ∧ (t.mp m).ioStatus = status.val ∧ t.pans = s.pans ∧
        (∀ o, o ≠ mpOff m 0x28 → t.rv o = s.rv o) ∧
        (status = 0 → s.rf (mpOff m 0x20) 63 62 % 2 = 0 → t.rf (mpOff m 0x28) 31 0 = data.toNat))))

/-- R76, R86, R141, R225, R368 to R373, R376: the commands of a pan engine, taken in the order in which PAN_ENG_CMD received them
while they can be performed and the pan's admission arbiter grants the engine. One that is performed leaves the queue and is
counted; one that must wait, or that another source wins over (R191, R196), stays, and goes on at the next step; SNP and GSNP
act on the transaction of the selected event; SET_QUOTA and SET_CLEAN keep their pace; a command that is not defined, or
needs an event that is not selected, is recorded and dropped; HALT stops the engine with a fatal record. (That a command which another source wins over changes nothing is the model's choice, log
entry 54; that LINE_UE reads the block again and ignores way 15, log entry 154.) Completes: SNP,
GSNP, SET_QUOTA, SET_FLUSH, WAIT, SET_CLEAN, LINE_CLEAR, LINE_UE, COMPLETE, HALT, ENG_CMD_BAD. -/
def Obligations.PanEngineCommands : Prop :=
  ∀ (s : State) (p : Fin 64) (q : EngReq) (rest : List EngReq), (s.pan p).cmds = q :: rest → s.cmdOpen p = true →
    let w := q.word
    let psi := cmdPsi w
    let a := panArb p 0
    let l := s.admAskers p
    let ends := fun (c : Instr) (op : Nat) (r : Bool × State) => cmdOp w = op →
      (∀ v, r.1 = true → s.winner a l = some v → v.num = 25 → Effects c s (fun u =>
        u = ((r.2.award a l v).updPan p (fun x => { x with cmds := x.cmds.drop 1 })).count (uEng p) (0x120 + op))) ∧
      (∀ v, r.1 = true → s.winner a l = some v → v.num ≠ 25 → Effects c s (fun u => u = s)) ∧
      (r.1 = false → Effects c s (fun u => u = r.2))
    let s0 := s.combDrain p
    let err := fun (errs : List (Fin 16 × BitVec 1152)) =>
      (errs.filter (fun x => x.1.val == cmdWay w)).foldl (fun a x => a ^^^ x.2) 0
    (∀ e k, s.evtTrk p = some (e, k) → ends (.snp p) 1 (true, s.engSnp p e k (cmdAgent w)) ∧
      ends (.gsnp p) 2 (true, s.engGsnp p e k (cmdDev w))) ∧
    (∀ b, ends (.setQuota p b) 3 (s.setQuota p psi b)) ∧
    (∀ b errs, (s0.pan p).combDue = true →
      ends (.setFlush p b errs) 4 (false, if (s0.pan p).dataEn then s0.wake (p / 8) else s0)) ∧
    ((s0.pan p).combDue = false →
      (∀ b errs u, s0.bring p psi b = (.ready, u) → ends (.setFlush p b errs) 4 (u.flushWays p psi errs (List.range 15))) ∧
      (∀ b errs u, s0.bring p psi b = (.lost, u) → ends (.setFlush p b errs) 4 (true, u)) ∧
      (∀ b errs u, s0.bring p psi b = (.wait, u) → ends (.setFlush p b errs) 4 (false, u))) ∧
    (∀ b, ends (.setClean p b) 5 (s.setClean p psi b)) ∧
    ends (.lineClear p) 6 (s.lineClear p psi (cmdTag w)) ∧
    (∀ b errs, cmdWay w = 15 → ends (.lineUe p b errs) 7 (true, s)) ∧
    (∀ b errs u, cmdWay w ≠ 15 → s.bring p psi b = (.ready, u) → ends (.lineUe p b errs) 7 (u.lineUeAct p psi (cmdWay w) (err errs))) ∧
    (∀ b errs u, cmdWay w ≠ 15 → s.bring p psi b = (.lost, u) → ends (.lineUe p b errs) 7 (true, u)) ∧
    ends (.complete p) 8 (s.complete p) ∧
    (∀ v, cmdOp w = 9 → s.winner a l = some v → v.num = 25 → Effects (.halt p) s (fun u => (u.eng p).halted = true ∧
      (u.pan p).cmds = rest ∧ u.holding = true)) ∧
    (s.paced p (s.pan p).lastQuota (s.pace p) = false → cmdOp w = 3 → ∀ b, Effects (.setQuota p b) s (fun u => u = s)) ∧
    (cmdOp w = 0 ∨ 10 ≤ cmdOp w ∨ ((cmdOp w = 1 ∨ cmdOp w = 2) ∧ s.evtTrk p = none) →
      (s.slot a l 25 = none → Effects (.engCmdBad p) s (fun u => u = s)) ∧
      ∀ v, s.slot a l 25 = some v → Effects (.engCmdBad p) s (fun u =>
        (u.pan p).cmds = rest ∧ (∀ j, j ≠ p.val → u.pan j = s.pan j) ∧ u.regs = s.regs ∧
        u = (v.updPan p (fun x => { x with cmds := x.cmds.drop 1 })).logD (uEng p) 2 0x0503 (cmdOp w)))

/-- R76, R367 to R371, R389, R398: what starts an event and selects one. KICK asks for a foreground event of each bit; the write
of PAN_EVT_CUR saves the cursor of the event that was selected and selects the head of the queue it names, whose cursor it
gives the engine; SWEEP starts a sweep at the first set, or has the running one start again. R48, R87: the probes.
DEV_ADDR_PROBE is busy from its write to its answer, which is the map's; a pan's metadata probe answers the way's word from
the metadata cache or the write queue where the set is there, says that it is not available while the stack rests, and reads
the stack otherwise. Completes: KICK, PAN_EVT_CUR, SWEEP, DEV_ADDR_PROBE, ADDR_PROBE_DONE, PAN_MD_PROBE, MD_PROBE_DONE. -/
def Obligations.ProbesAndEvents : Prop :=
  (∀ (s : State) (p : Fin 64), s.alive = true →
    (∀ bits : BitVec 8, s.regOpen (panOff p 0xC00) = true → Answers (.kick p bits) s (fun t =>
      t = (s.bus.updPan p (fun x => { x with kick := x.kick ||| bits.toNat })).kicks p)) ∧
    (∀ q : Bool, (s.eng p).runs = true → Answers (.panEvtCur p q) s (fun t =>
      t.rv (panOff p 0xC40) = b2n q ∧ (t.pan p).slCount = 0 ∧
      (t.pan p).sel = !(if q then (s.pan p).bg else (s.pan p).fg).isEmpty ∧
      ((s.pan p).sel = false → (t.pan p).fg = (s.pan p).fg ∧ (t.pan p).bg = (s.pan p).bg ∧
        (t.eng p).cursor = match (if q then (s.pan p).bg else (s.pan p).fg) with | e :: _ => e.cursor | [] => 0) ∧
      ((s.pan p).sel = true → s.evtQ p = false → ∀ e rest, (s.pan p).fg = e :: rest →
        (t.pan p).fg = { e with cursor := (s.eng p).cursor } :: rest ∧ (t.pan p).bg = (s.pan p).bg))) ∧
    (s.regOpen (panOff p 0x410) = true → (s.pan p).sweepBusy = false → Answers (.sweep p) s (fun t => (t.pan p).sweepBusy = true ∧ (t.pan p).sweepPsi = 0 ∧
      (t.pan p).sweepRestart = false ∧ (t.pan p).bg.any (fun e => e.typ == 2) = true)) ∧
    (s.regOpen (panOff p 0x410) = true → (s.pan p).sweepBusy = true → Answers (.sweep p) s (fun t => (t.pan p).sweepBusy = true ∧
      (t.pan p).sweepRestart = true ∧ (t.pan p).sweepPsi = (s.pan p).sweepPsi ∧ (t.pan p).bg.any (fun e => e.typ == 2) = true))) ∧
  (∀ (s : State),
    (∀ spa : BitVec 52, s.alive = true → Answers (.devAddrProbe spa) s (fun t =>
      t.rv 0x100 = spa.toNat ∧ t.rf 0x108 63 63 = 0 ∧ t.ru.probeBusy = true ∧
      (∀ o, o ≠ 0x100 → o ≠ 0x108 → t.rv o = s.rv o))) ∧
    (s.ru.probeBusy = true → Answers .addrProbeDone s (fun t => t.ru.probeBusy = false ∧
      (s.homeOf (s.rv 0x100) = none → t.rv 0x108 = 2 ^ 63 + 2 ^ 62) ∧
      (∀ d l x, d < 64 → s.homeOf (s.rv 0x100) = some (d, l, x) →
        t.rv 0x108 = 2 ^ 63 + d * 2 ^ 56 + panOf l * 2 ^ 50 + l % 2 ^ 44) ∧
      (∀ o, o ≠ 0x108 → t.rv o = s.rv o))) ∧
    ∀ p : Fin 64,
      (∀ v : BitVec 64, s.regOpen (panOff p 0x438) = true → Answers (.panMdProbe p v) s (fun t =>
        t.rv (panOff p 0x438) = v.toNat % 2 ^ 24 ∧
        t.pan p = { s.pan p with mdProbe := some (v.toNat % 2 ^ 24), mdDone := false })) ∧
      (∀ v err, (s.pan p).mdProbe = some v →
        let psi := v % 2 ^ 20
        let way := bitsOf v 23 20
        (∀ b q, (s.pan p).mdHeld psi = some (b, q) → Answers (.mdProbeDone p err) s (fun t =>
          t.rv (panOff p 0x440) = mdWord b way ∧
          t.pan p = { s.pan p with mdProbe := none, mdDone := true, mdSrc := true, mdUnavail := false })) ∧
        ((s.pan p).mdHeld psi = none → s.stackUp p = false → Answers (.mdProbeDone p err) s (fun t =>
          t.rv (panOff p 0x440) = 0 ∧
          t.pan p = { s.pan p with mdProbe := none, mdDone := true, mdSrc := false, mdUnavail := true })) ∧
        ((s.pan p).mdHeld psi = none → s.stackUp p = true → (s.readBlock p (slotKey psi 15) err).1.ue = false →
          Answers (.mdProbeDone p err) s (fun t =>
            t.rv (panOff p 0x440) = mdWord (s.readBlock p (slotKey psi 15) err).1.line way ∧ (t.pan p).mdDone = true ∧
            (t.pan p).mdSrc = false ∧ (t.pan p).mdUnavail = false ∧ (t.pan p).mdProbe = none))))

/-- R379, R383 to R387: the Saltmaster cores. RUN written 0 holds a core in reset; RUN written 1 starts one that is, at the entry
of its code, with its registers 0; neither moves a core that has halted; RESTART resets a powered core: its stores are lost,
its latches are broken, it starts again at its entry where RUN is 1, and it is recorded; the timer's edge comes at its instant, at
once for one that is due or past; the tick comes once in each millisecond; doorbells are set and cleared by their bits;
SM_MSG written by its core raises the core's vector. Completes: SM_RUN, RESTART, SM_TIMER_CMP, SM_TIMER, SM_TICK,
SM_DOORBELL, SM_DOORBELL_ACK, SM_MSG. -/
def Obligations.SaltmasterResults : Prop :=
  ∀ (s : State) (c : Fin 4),
    let k := 64 + c.val
    let e := s.eng k
    (s.regOpen (smOff c 0) = true → e.halted = true → ∀ run, Effects (.smRun c run) s (fun u => u.eng k = e)) ∧
    (s.regOpen (smOff c 0) = true → e.halted = false → Effects (.smRun c false) s (fun u => (u.eng k).inReset = true ∧ (u.eng k).pc = 0 ∧ (u.eng k).g = [] ∧
      u.rf (smOff c 0) 1 1 = 0)) ∧
    (s.regOpen (smOff c 0) = true → e.halted = false → e.inReset = true → Effects (.smRun c true) s (fun u => u.rf (smOff c 0) 1 1 = 1 ∧
      (u.eng k).inReset = !(s.img.inForce && e.powered && !e.noCode) ∧ (u.eng k).g = [] ∧
      (s.img.inForce = true → e.powered = true → e.noCode = false → (u.eng k).pc = s.entryOf k))) ∧
    (s.regOpen (smOff c 0) = true → e.inReset = false → Effects (.smRun c true) s (fun u => u.rf (smOff c 0) 1 1 = 1 ∧ u.eng k = e)) ∧
    (s.regOpen (smOff c 0) = true → e.powered = true → Effects (.restart c) s (fun u =>
      let runs := s.rf (smOff c 0) 1 1 = 1 ∧ s.img.inForce = true ∧ e.noCode = false
      (u.eng k).g = [] ∧ (u.eng k).halted = false ∧ (u.eng k).sbuf = [] ∧ (u.eng k).cwin = [] ∧
      (runs → (u.eng k).inReset = false ∧ (u.eng k).pc = s.entryOf k ∧ (u.eng k).mode = 1) ∧ (¬runs → (u.eng k).inReset = true) ∧
      u.rf (smOff c 0) 1 1 = s.rf (smOff c 0) 1 1 ∧
      (∀ n, n < 64 → sget s.ru.latOwn n 0 ≠ 0 → sameOwner (sget s.ru.latOwn n 0 - 1) (4 + c) = true →
        sget u.ru.latOwn n 0 = 0 ∧ sget u.ru.latBroken n false = true) ∧
      ∃ t : State, u = t.logD (uEng k) 2 0x0505 0)) ∧
    (∀ v : BitVec 64, s.regOpen (smOff c 0x10) = true → Effects (.smTimerCmp c v) s (fun u => u.rv (smOff c 0x10) = v.toNat ∧
      (schedule s.now v.toNat = .pending → (u.eng k).timer = some v.toNat ∧ (u.eng k).ipend.testBit 0 = false) ∧
      (schedule s.now v.toNat = .due → (u.eng k).timer = none ∧ (u.eng k).ipend.testBit 0 = true) ∧
      (schedule s.now v.toNat = .past → (u.eng k).timer = none ∧ (u.eng k).ipend.testBit 0 = true) ∧
      (schedule s.now v.toNat = .refused → (u.eng k).timer = none ∧ (u.eng k).ipend.testBit 0 = false))) ∧
    (∀ x, e.timer = some x → reached s.now x = true → Answers (.smTimer c) s (fun t =>
      t.eng k = { e with timer := none, ipend := e.ipend ||| 1 } ∧ (∀ j, j ≠ k → t.eng j = s.eng j))) ∧
    (s.alive = true → s.now / 1000000 ≠ s.mt.coreMs → Answers .smTick s (fun t => t.mt.coreMs = s.now / 1000000 ∧
      (e.inReset = false → t.eng k = { e with ipend := e.ipend ||| 2 }) ∧ (e.inReset = true → t.eng k = e))) ∧
    (∀ bits : BitVec 8,
      (s.regOpen (smOff c 0x18) = true → Answers (.smDoorbell c bits) s (fun t =>
        t = s.bus.updEng k (fun e => { e with doorbell := e.doorbell ||| bits.toNat }))) ∧
      (s.regOpen (smOff c 0x20) = true → Answers (.smDoorbellAck c bits) s (fun t => ∀ i, i < 8 →
        (t.eng k).doorbell.testBit i = (e.doorbell.testBit i && !bits.toNat.testBit i)))) ∧
    (∀ v : BitVec 64, s.regOpen (smOff c 0x28) = true → Effects (.smMsg c v) s (fun u => u.rv (smOff c 0x28) = v.toNat ∧
      u.err.vec.testBit (20 + c.val) = true))

/-- R392 to R399: the machine-time unit. A TICK edge 39 cycles or more after the last position moves time 40 ns on, by one more
or less while a slew is left, and keeps the interval, here and in the copies of the beds and of the port ring; an earlier one is a
glitch, and the sixteenth in a row ends LOCKED; a tick 58 cycles late is counted missing and time moves on, and the third in a row
ends LOCKED; before the first lock an edge and a missing tick are only counted (log entry 75); while FREE, or before the first lock,
time moves on by the kept intervals; 256 good edges in a row bring LOCKED back without a change of time. R396, R397: the 100 periods
of a frame give its TIME and FSEQ if its CRC is theirs and no bit breaks the Manchester code; any other frame, and one while FREE, is
bad, and the eighth bad one in a row is recorded. R398 to R404: the first good frame gives the time and LOCKED, and the periodic
schedules start there (log entry 202); a later one gives the offset: none, up to 1,000 ns either way to be slewed, or a jump that
waits, which ends a slew in progress (log entry 116); a jump that waits is applied at the next tick position, or at the first one from
its instant on, moves time and the stamps held by the offset, and every pending instant is evaluated again. Completes: TICK_EDGE, TICK_MISSING, FREE_TICK, FRAME,
BAD_FRAME, APPLY_NOW, APPLY_TIMED, JUMP_APPLY. -/
def Obligations.MachineTime : Prop :=
  (∀ (s : State), s.mode.cur ≠ .off →
    let m := s.mt
    let a := m.advance
    (a.tick = (m.tick + (if 0 < m.slew then 41 else if m.slew < 0 then 39 else 40)) % 2 ^ 64 ∧
      a.slew = (if 0 < m.slew then m.slew - 1 else if m.slew < 0 then m.slew + 1 else 0)) ∧
    (m.st = 1 → 39 ≤ m.c → Effects .tickEdge s (fun u => u.mt = { a with
      ivals := (m.c :: m.ivals).take 16, c := 0, frac := 0, missing := 0, glitches := 0, edgeC := 0, copies := u.mt.copies } ∧
      (∀ r, r < 9 → let x := m.copies.getD r {}
        u.mt.copies.getD r {} = { c := 0, ivals := (x.c :: x.ivals).take 16 }))) ∧
    (m.st = 1 → m.c < 39 → m.glitches + 1 < 16 → Effects .tickEdge s (fun u =>
      u.mt = { m with glitches := m.glitches + 1, edgeC := 0 })) ∧
    (m.st = 1 → m.c < 39 → 16 ≤ m.glitches + 1 → Effects .tickEdge s (fun u => u.mt.st = 2 ∧ u.mt.untrusted = true ∧
      u.mt.tick = m.tick ∧ u.mt.sticky.testBit 2 = true)) ∧
    (m.st = 2 → 46 ≤ m.edgeC → m.edgeC ≤ 50 → m.goodEdges + 1 < 256 → Effects .tickEdge s (fun u =>
      u.mt = { m with goodEdges := m.goodEdges + 1, edgeC := 0 })) ∧
    (m.st = 2 → m.edgeC < 46 ∨ 50 < m.edgeC → Effects .tickEdge s (fun u => u.mt = { m with goodEdges := 0, edgeC := 0 })) ∧
    (m.st = 2 → 46 ≤ m.edgeC → m.edgeC ≤ 50 → 256 ≤ m.goodEdges + 1 → Effects .tickEdge s (fun u =>
      u.mt.st = 1 ∧ u.mt.tick = s.now ∧ u.mt.c = 0 ∧ u.mt.frac = 0)) ∧
    (m.st = 0 → m.edgeC < 39 → Effects .tickEdge s (fun u => u = (s.count uMt 0x101).timePasses ∧ u.mt = m)) ∧
    (m.st = 0 → 39 ≤ m.edgeC → Effects .tickEdge s (fun u => u.mt = { m with edgeC := 0 })) ∧
    (m.st = 1 → 58 ≤ m.c → m.missing + 1 < 3 → Effects .tickMissing s (fun u =>
      u.mt = { a with c := m.c - 48, missing := m.missing + 1, copies := u.mt.copies })) ∧
    (m.st = 1 → 58 ≤ m.c → 3 ≤ m.missing + 1 → Effects .tickMissing s (fun u =>
      u.mt.st = 2 ∧ u.mt.untrusted = false ∧ u.mt.tick = a.tick ∧ u.mt.sticky.testBit 1 = true)) ∧
    (m.st = 0 → 58 ≤ m.edgeC → Effects .tickMissing s (fun u => u.mt = { m with edgeC := m.edgeC - 48 })) ∧
    (m.st ≠ 1 → m.n.2 ≤ m.c * m.n.1 + m.frac → Answers .freeTick s (fun t => t.mt = { a with
      c := (m.c * m.n.1 + m.frac - m.n.2) / m.n.1, frac := (m.c * m.n.1 + m.frac - m.n.2) % m.n.1, copies := t.mt.copies }))) ∧
  (∀ (time fseq crc : Nat), time < 2 ^ 64 → fseq < 2 ^ 16 → crc < 2 ^ 16 →
    frameRead (frameLine time fseq crc) = if crc = frameCrc time fseq then some (time, fseq) else none) ∧
  (∀ (l : List (Bool × Bool)) (i : Nat), l.length = 100 → 4 ≤ i → i < 100 → (l.getD i (true, false)).1 = (l.getD i (true, false)).2 →
    frameRead l = none) ∧
  (∀ (s : State) (l : List (Bool × Bool)), s.mt.st = 2 ∨ frameRead l = none → s.frameGot l = s.badFrame) ∧
  (∀ (s : State), s.mode.cur ≠ .off →
    let m := s.mt
    (∀ (time : BitVec 64) (fseq : BitVec 16), m.st = 0 → Effects (.frame time fseq) s (fun u =>
      u.mt.st = 1 ∧ u.mt.tick = time.toNat ∧ u.mt.c = 0 ∧ u.mt.fseq = fseq.toNat ∧ u.mt.frameOk = true ∧ u.mt.badFrames = 0 ∧
      u.hv.lastPer = time.toNat ∧ u.hv.lastDump = time.toNat)) ∧
    (∀ (time : BitVec 64) (fseq : BitVec 16), m.st = 1 →
      let off := signedDiff time.toNat s.now
      Effects (.frame time fseq) s (fun u => u.mt.offset = off ∧ u.mt.st = 1 ∧ u.mt.tick = m.tick ∧ u.mt.frameOk = true ∧
        (off = 0 → u.mt.slew = 0 ∧ u.mt.jumpPend = false) ∧
        (off ≠ 0 → off.natAbs ≤ 1000 → u.mt.slew = off ∧ u.mt.jumpPend = false) ∧
        (1000 < off.natAbs → u.mt.slew = 0 ∧ u.mt.jumpPend = true ∧ u.mt.sticky.testBit 4 = true))) ∧
    (Effects .badFrame s (fun u => u.mt.frameOk = false ∧ u.mt.badFrames = m.badFrames + 1 ∧ u.mt.tick = m.tick ∧ u.mt.st = m.st ∧
      (m.badFrames + 1 = 8 → u.mt.sticky.testBit 3 = true))) ∧
    (∀ (time : BitVec 64) (fseq : BitVec 16), m.st = 2 → Effects (.frame time fseq) s (fun u => u.mt.frameOk = false ∧
      u.mt.badFrames = m.badFrames + 1 ∧ u.mt.tick = m.tick)) ∧
    (s.alive = true → m.jumpPend = true →
      let at_ := s.rv 0x10018
      Answers .applyNow s (fun t => t.mt = { m with applyNow := true, applyPend := none, applyRefused := false, atPos := false }) ∧
      (schedule s.now at_ = .pending → Effects .applyTimed s (fun u => u.mt = { m with
        applyNow := false, applyPend := some at_, applyRefused := false })) ∧
      (schedule s.now at_ = .refused → Effects .applyTimed s (fun u => u.mt = { m with
        applyNow := false, applyPend := none, applyRefused := true })) ∧
      (schedule s.now at_ = .due ∨ schedule s.now at_ = .past → Effects .applyTimed s (fun u => u.mt = { m with
        applyNow := true, applyPend := none, applyRefused := false, atPos := false }))) ∧
    (s.jumpDue = true → Effects .jumpApply s (fun u => ∃ v : State, u = v.reschedule.timePasses ∧
      v.mt.tick = (((m.tick : Int) + m.offset) % (2 ^ 64 : Nat)).toNat ∧ v.mt.c = m.c ∧ v.mt.slew = 0 ∧ v.mt.jumpPend = false ∧
      v.mt.applyPend = none ∧ v.mt.applyNow = false ∧ v.hv.lastPer = v.now ∧ v.hv.lastDump = v.now ∧
      v.pans = (s.moveStamps ((v.stampNow + 65536 - s.stampNow) % 65536)).pans)) ∧
    (m.jumpPend = true → s.jumpDue = (m.atPos && (m.applyNow || m.applyPend.any (fun x => reached s.now x)))))

/-- R407: a counter is 48 bits wide and wraps; that it has wrapped is kept for the next snapshot, and no other counter changes.
R409 to R416: the harvest. SNAP_NOW and SNAP_TIMED ask for a snapshot; one that is due is taken while no transfer runs, and skipped
with a record while one does; a dump instant met while a dump is written is skipped with a record (which of the instants met together
the snapshot's record gives is log entry 119); at the end of the transfer the banks change places, the sequence number rises, and a dump of that bank
begins in the next slot (after an abandoned one as well, log entry 118); the end of a dump counts it, or records its failure; the
registers of the dump keep the fields that the spec gives them, and EN newly 1 starts the dump instants anew. R418, R419: the bandwidth windows of a
link or a memory port. At a boundary the bytes of a whole window are latched, and the highest seen so far; the counts start again; a
write of the window's length starts a window that is not whole (log entry 121). Completes: SNAP_NOW, SNAP_TIMED, SNAPSHOT_INSTANT, HARVEST_FLIP,
DUMP_COMPLETE, HV_DUMP_CONFIG, BW_WINDOW_END, BW_CTL. -/
def Obligations.HarvestAndBandwidth : Prop :=
  (∀ (s : State) (u e n k : Nat), (∀ j, sget s.hv.cnt j 0 < 2 ^ 48) →
    let key := u * 512 + e
    let t := s.count u e n
    sget t.hv.cnt key 0 = (sget s.hv.cnt key 0 + n) % 2 ^ 48 ∧ (∀ j, sget t.hv.cnt j 0 < 2 ^ 48) ∧
    (k ≠ key → sget t.hv.cnt k 0 = sget s.hv.cnt k 0) ∧
    (2 ^ 48 ≤ sget s.hv.cnt key 0 + n → sget t.hv.wrapped key false = true) ∧ { t with hv := s.hv } = s) ∧
  (∀ (s : State), s.regOpen 0x10100 = true →
    let at_ := s.rv 0x10108
    Effects .snapNow s (fun u => u.hv.snapNow = true ∧ u.hv.snapPend = none ∧ u.hv.snapRefused = false) ∧
    (schedule s.now at_ = .pending → Effects .snapTimed s (fun u =>
      u.hv.snapPend = some at_ ∧ u.hv.snapNow = s.hv.snapNow ∧ u.hv.snapRefused = false)) ∧
    (schedule s.now at_ = .refused → Effects .snapTimed s (fun u =>
      u.hv.snapPend = none ∧ u.hv.snapNow = s.hv.snapNow ∧ u.hv.snapRefused = true)) ∧
    (schedule s.now at_ = .due → Effects .snapTimed s (fun u => u.hv.snapPend = none ∧ u.hv.snapNow = true)) ∧
    (schedule s.now at_ = .past → Effects .snapTimed s (fun u => u.hv.snapPend = none ∧ u.hv.snapNow = true ∧ u.hv.snapLate = true))) ∧
  (∀ (s : State), s.alive = true →
    let due := (s.perDue.orElse (fun _ => s.dumpDue)).orElse (fun _ => s.timedDue)
    (due = none → Effects .snapshotInstant s (fun u => u = s)) ∧
    (due.isSome = true → s.hv.busy.isSome = true → Effects .snapshotInstant s (fun u => ∃ v : State,
      u = (v.count uHarvest 0x101).logD uHarvest 0 0x0609 s.hv.seq ∧ v.hv.skipped = true ∧
      u.hv.skipped = true ∧ u.hv.busy = s.hv.busy ∧ u.hv.seq = s.hv.seq ∧ u.hv.front = s.hv.front)) ∧
    (∀ d, s.dumpDue.isSome = true → s.hv.busy = none → s.hv.dump = some d → Effects .snapshotInstant s (fun u => ∃ (v : State) (n : Snap),
      u = ((v.count uHarvest 0x103).logD uHarvest 0 0x060B d.slot).capturing n ∧ n.write = false ∧ u.hv.dump = s.hv.dump)) ∧
    (∀ x, due = some x → s.hv.busy = none → Effects .snapshotInstant s (fun u => ∃ n, u.hv.busy = some n ∧
      n.at_ = x ∧ n.periodic = s.perDue.isSome ∧ n.dump = s.dumpDue.isSome ∧ n.timed = s.timedDue.isSome ∧
      n.free = (s.mt.st != 1) ∧ n.jump = s.mt.jumpPend ∧ n.write = (s.dumpDue.isSome && s.hv.dump.isNone) ∧
      u.hv.seq = s.hv.seq ∧ u.hv.front = s.hv.front))) ∧
  (∀ (s : State),
    (∀ n, s.hv.busy = some n → Effects .harvestFlip s (fun u => u.hv.front = !s.hv.front ∧ u.hv.seq = (s.hv.seq + 1) % 65536 ∧
      u.hv.busy = none ∧ u.hv.recs.length = (if s.hv.recs.length < 64 then s.hv.recs.length + 1 else s.hv.recs.length) ∧
      (n.write = true → u.hv.dump = some { slot := s.nextSlot, base := s.rf 0x10118 43 20 * 2 ^ 20 + s.nextSlot * 2 ^ 20, data := u.hv.bank u.hv.front } ∧
        u.hv.dumpSlot = (s.nextSlot + 1) % s.dumpSlots) ∧
      (n.write = false → u.hv.dump = s.hv.dump ∧ u.hv.dumpSlot = s.hv.dumpSlot))) ∧
    (∀ (m : Fin 8) d, s.hv.dump = some d →
      Effects (.dumpComplete true m) s (fun u => ∃ v : State, u = v.count uHarvest 0x102 ∧ u.hv.dump = none ∧
        u.hv.dumps = satAdd s.hv.dumps 1 0xFFFFFFFF) ∧
      Effects (.dumpComplete false m) s (fun u => ∃ v : State, v.hv.dump = some d ∧
        u = (v.dumpEnd.count uHarvest 0x104).logD uHarvest 2 0x060A (d.slot + 4096 * m) ∧ u.hv.dump = none ∧ u.hv.dumps = s.hv.dumps))) ∧
  (∀ (s : State) (v : BitVec 64),
    (s.regOpen 0x10118 = true → Answers (.hvDumpConfig true v) s (fun t => t.rv 0x10118 = bitsOf v.toNat 43 20 * 2 ^ 20)) ∧
    (s.regOpen 0x10120 = true → Answers (.hvDumpConfig false v) s (fun t =>
      t.rv 0x10120 = bitsOf v.toNat 43 12 * 2 ^ 12 + v.toNat % 2 ∧
      (v.getLsbD 0 = true → (s.rv 0x10120).testBit 0 = false → t.hv.lastDump = s.now)))) ∧
  (∀ (s : State) (b : BwRef), s.alive = true →
    let x := s.bwOf b
    let now := s.now / s.bwWin b * s.bwWin b
    let o := bwBase b
    let sent := min x.2.1 (2 ^ 48 - 1)
    let got := min x.1 (2 ^ 48 - 1)
    (later x.2.2.2 now = true → x.2.2.1 = true → Answers (.bwWindowEnd b) s (fun t => t.bwOf b = (0, 0, true, now) ∧
      t.rv (o + 0xB08) = got ∧ t.rv (o + 0xB10) = sent ∧ t.rv (o + 0xB28) = now % 2 ^ 64 ∧
      t.rv (o + 0xB18) = max (s.rv (o + 0xB18)) got ∧ t.rv (o + 0xB20) = max (s.rv (o + 0xB20)) sent)) ∧
    (later x.2.2.2 now = true → x.2.2.1 = false → Answers (.bwWindowEnd b) s (fun t => t.bwOf b = (0, 0, true, now) ∧ t.regs = s.regs)) ∧
    (∀ win : BitVec 20, s.regOpen (o + 0xB00) = true → Answers (.bwCtl b win) s (fun t =>
      t.bwOf b = (0, 0, false, s.now) ∧ t.rv (o + 0xB00) = win.toNat)))

/-- R442 to R445: a step of the Sluice governor. With no override the envelope moves from E towards the lower of the demand
and the cap, up by no more than SLOPE and down by no more than SLOPE, or SHED_SLOPE in a shed and while a descent that it started
lies above the cap; the cap is the budget, and FLOOR too in a shed; a demand above the envelope is throttled, with a duty that the
spec does not give (a free value, log entry 3), and one below it is filled up. The first step after a reset begins at the demand.
Under the override the envelope is the lower of the demand and the cap at once, but for SHED_SLOPE (log entry 28), and nothing is
filled. R446, R447: the shed request. A shed begins at every sample that agrees on assertion while the agreed state is released, and
its 10 ms count from there (log entry 124); it ends at a sample that agrees on release 10 ms or more after; samples that disagree for
the limit in a row are a discrepancy, each time that the limit is reached, which lasts until SHED_DISC is cleared after as many
agreeing releases, with its effect until 10 ms after the fault (log entry 125). Completes: SLUICE_STEP, SHED_SAMPLE,
SHED_DISC_CLEAR. -/
def Obligations.SluiceAndShed : Prop :=
  (∀ (s : State) (d : BitVec 14), s.alive = true →
    let e := if s.sl.started then s.sl.e else d.toNat
    let cap := s.sluiceCap
    let up := min 200 (max 2 (s.rf 0x20000 7 0))
    let falling := s.shedding || (s.sl.descent && decide (cap < e))
    let fast := min 200 (max 2 (s.rf 0x20000 15 8))
    let down := if falling then fast else up
    cap ≤ 10 * min 800 (max 150 (s.rf 0x20008 41 32)) ∧ (s.shedding = true → cap ≤ 10 * min 800 (max 150 (s.rf 0x20008 25 16))) ∧
    (s.sl.override_ = false → Effects (.sluiceStep d) s (fun u => u.sl.e = max (e - down) (min (e + up) (min d.toNat cap)) ∧
      e ≤ u.sl.e + down ∧ u.sl.e ≤ e + up ∧ (cap < u.sl.e → u.sl.e + down = e) ∧
      u.sl.d = d.toNat ∧ u.sl.fill = u.sl.e - d.toNat ∧ u.sl.started = true ∧
      u.sl.descent = ((s.shedding || s.sl.descent) && decide (cap < u.sl.e)) ∧
      (u.sl.e < d.toNat → u.sl.duty < 63) ∧ (d.toNat ≤ u.sl.e → u.sl.duty = 63))) ∧
    (s.sl.override_ = true → Effects (.sluiceStep d) s (fun u =>
      u.sl.e = (if falling then max (e - fast) (min d.toNat cap) else min d.toNat cap) ∧ u.sl.fill = 0 ∧
      u.sl.d = d.toNat ∧ u.sl.started = true ∧
      (u.sl.e < d.toNat → u.sl.duty < 63) ∧ (d.toNat ≤ u.sl.e → u.sl.duty = 63)))) ∧
  ∀ (s : State), s.alive = true →
    let l := s.sl
    (l.agreed = false → Effects (.shedSample true false) s (fun u =>
      u.sl.shed = true ∧ u.sl.shedAt = s.now ∧ u.sl.agreed = true ∧ u.sl.disRun = 0 ∧ u.sl.relRun = 0)) ∧
    (l.agreed = true → Effects (.shedSample true false) s (fun u =>
      u.sl.shed = l.shed ∧ u.sl.shedAt = l.shedAt ∧ u.sl.agreed = true)) ∧
    (Effects (.shedSample false true) s (fun u => u.sl.agreed = false ∧ u.sl.relRun = l.relRun + 1 ∧ u.sl.disRun = 0 ∧
      u.sl.shed = (l.shed && decide (dt l.shedAt s.now < 10000000)) ∧
      u.sl.discHold = (l.discHold && decide (dt l.discAt s.now < 10000000)))) ∧
    (∀ a, let lim := if l.disRun = 0 then s.discSamples else l.disLimit
      Effects (.shedSample a a) s (fun u => u.sl.disRun = l.disRun + 1 ∧ u.sl.relRun = 0 ∧ u.sl.agreed = l.agreed ∧
        u.sl.shed = l.shed ∧ (l.disRun + 1 = lim → u.sl.disc = true ∧ u.sl.discHold = false ∧ u.sl.discAt = s.now) ∧
        (l.disRun + 1 ≠ lim → u.sl.disc = l.disc ∧ u.sl.discHold = l.discHold ∧ u.sl.discAt = l.discAt))) ∧
    (l.disc = true → s.discSamples ≤ l.relRun → Effects .shedDiscClear s (fun u => u.sl.disc = false ∧
      u.sl.discHold = (l.discHold || decide (dt l.discAt s.now < 10000000)))) ∧
    (l.disc = false ∨ l.relRun < s.discSamples → Effects .shedDiscClear s (fun u => u = s.bus))

/-- R97, R103, R105, R106, R113: the table of the home's transactions. A sharer is added to an S line in the first free pointer, or
by OVF where its device is in the line's group, or not at all (a line with OVF 1 keeps its pointers though one is free: log entry
189). From the state of the line and the request: whom the home snoops and how, what it answers and which state it grants, and the
directory it leaves; the response leaves once, when what the table has it wait for has come, and a posted request has none; the
transaction ends when its response is sent, its data written and its grant marked, and then its directory stands in its way's word
of the set's metadata, with V and D, and no other way's word and no other pan is touched. -/
def Obligations.HomeTransitionTable : Prop :=
  (∀ (g : Nat) (e : Way) (r : BitVec 12),
    let known := r = e.pta ∨ r = e.ptb ∨ r = e.ptc
    let inG := g.testBit (agDev r)
    (known → addSharer g e r = some e.dir) ∧
    (¬known → e.ovf = false → e.ptb = e.pta → addSharer g e r = some { e.dir with ptb := r }) ∧
    (¬known → e.ovf = false → e.ptb ≠ e.pta → e.ptc = e.pta → addSharer g e r = some { e.dir with ptc := r }) ∧
    (¬known → e.ovf = false → e.ptb ≠ e.pta → e.ptc ≠ e.pta → addSharer g e r = if inG then some { e.dir with ovf := true } else none) ∧
    (¬known → e.ovf = true → addSharer g e r = if inG then some e.dir else none) ∧
    (¬known → e.ovf = false → e.ptb = e.pta ∨ e.ptc = e.pta → ∀ d, addSharer g e r = some d → ∀ a,
      (a ∈ (e.withDir d).sharers ↔ a = r ∨ a ∈ e.sharers))) ∧
  (∀ (t : Trk) (g : Nat), t.kind = .req → t.pois = false →
    let r := t.rq.src
    let after := t.finalDir g false
    (t.op = 0 → (t.ent = none ∨ ∃ e, t.ent = some e ∧ e.ust = 0) → t.grants g = some 1 ∧ after = { ust := 1, pta := r, ptb := r, ptc := r }) ∧
    (∀ e, t.op = 0 → t.ent = some e → e.ust = 1 → t.grants g = (if (addSharer g e r).isSome then some 1 else none) ∧
      after = (addSharer g e r).getD e.dir ∧ t.finalDir g true = e.dir) ∧
    (∀ e, t.op = 0 → t.ent = some e → e.ust = 2 → e.pta ≠ r → t.inv.absorbed = none → t.grants g = some 1 ∧
      after = { ust := 1, pta := e.pta, ptb := r, ptc := e.pta }) ∧
    (t.op = 1 ∨ t.op = 2 → t.grants g = some 2 ∧ after = { ust := 2, pta := r, ptb := r, ptc := r } ∧ t.finalDir g true = {}) ∧
    (t.op = 3 → t.grants g = none ∧ (t.ent = none → after = {}) ∧
      ∀ e, t.ent = some e → (e.ust ≠ 2 ∨ t.inv.absorbed = none → after = e.dir) ∧ (e.ust = 2 → t.inv.absorbed.isSome = true → after = {})) ∧
    (4 ≤ t.op → t.grants g = none ∧ after = {})) ∧
  (∀ (t : Trk) (g : Nat) (lost : Bool), t.pois = true → t.finalDir g lost = { ust := 3 }) ∧
  (∀ (s : State) (p : Nat) (t : Trk) (e : Way),
    let u := s.applySnoops p t e
    let with_ := fun (v : State) (i : Inv) => v.updTrk p t.id (fun t => { t with inv := i })
    (e.ust = 0 ∨ e.ust = 3 ∨ (e.ust = 1 ∧ (t.op = 0 ∨ t.op = 3)) → u = with_ s {}) ∧
    (e.ust = 1 → t.op ≠ 0 → t.op ≠ 3 → e.ovf = true → u = with_ s { grp := some (if s.nonCaching t.rq.src then 0xFFF else t.rq.src) }) ∧
    (e.ust = 1 → t.op ≠ 0 → t.op ≠ 3 → e.ovf = false → ∃ (v : State) (l : List Snp), u = with_ v { snps := l } ∧ v.pans = s.pans ∧
      l.map (fun x => (x.tgt, x.op)) =
        (e.sharers.filter (fun a => a != t.rq.src && !s.isGone p a)).map (fun a => (SnpTgt.agent a, SnpOp.inv))) ∧
    (e.ust = 2 → s.isGone p e.pta = false → ∃ (v : State) (x : Snp), u = with_ v { snps := [x] } ∧ v.pans = s.pans ∧
      x.tgt = .agent e.pta ∧ x.owner = true ∧
      x.op = (if t.op = 0 then .data else if t.op = 3 then .cur else if t.op = 4 then .inv else .invData))) ∧
  (∀ (s : State) (p k : Nat) (t : Trk), (s.pan p).trk k = some t → t.kind = .req → t.ph = .run → t.responded = false →
    let r := t.rq.src
    let tag := t.rq.tag
    let tells := fun (m : OutMsg) => s.stRespond p k = (s.say p m).answered p k
    let gr := t.grants (s.groupOf p t.psi t.tag)
    let granting := fun (m : OutMsg) => s.stRespond p k =
      ((s.updTrk p k (fun t => { t with responded := true, grant := gr, grantAt := s.now })).say p m).count p 0x124
        (if t.op = 0 ∧ gr = none then 1 else 0)
    (t.posted = true → s.stRespond p k = s.answered p k) ∧
    (t.posted = false →
      (t.op ≤ 3 → t.inv.done = false → t.pois = false ∨ t.op ≠ 3 ∨ t.inv.own = none → s.stRespond p k = s) ∧
      (t.op ≤ 3 → t.inv.done = true → t.pois = true → tells (.poisoned r tag)) ∧
      (t.op ≤ 3 → t.inv.done = true → t.pois = false → t.pureUpgrade = true → granting (.ack r tag 2)) ∧
      (∀ d, t.op ≤ 3 → t.inv.done = true → t.pois = false → t.pureUpgrade = false → t.old = some d →
        granting (.ackData r tag (BitVec.ofNat 2 (gr.getD 0)) d)) ∧
      (t.op = 4 ∨ t.op = 5 → t.written = true → t.inv.done = true → tells (.ack r tag 0)) ∧
      (6 ≤ t.op → t.pois = true → t.inv.done = true → tells (.poisoned r tag)) ∧
      (6 ≤ t.op → t.pois = false → t.written = true → tells (.ackData r tag 0 t.resp)))) ∧
  (∀ (s : State) (p w j : Nat) (t : Trk) (lost : Bool), t.way = some w → w < 15 → (s.pan p).mdcFind t.psi = some j →
    let e := s.finalEntry p t w lost
    let d := t.finalDir (s.groupOf p t.psi t.tag) lost
    let u := s.writeEntry p t lost
    let entry := fun (v : State) (i : Nat) => mdWay ((v.pan p).md t.psi) i
    (t.back = none → e.dir = d ∧ (∀ n, t.inWay = some n → e.v = true ∧ (n = true → e.d = true)) ∧
      (t.inWay = none → t.alloc = false → e.v = (entry s w).v)) ∧
    (e.free = false → e.ust < 4 → (entry u w).dir = e.dir ∧ (entry u w).v = e.v ∧ (entry u w).d = e.d) ∧
    (e.free = true → (entry u w).dir = {} ∧ (entry u w).v = false ∧ (entry u w).d = false) ∧
    (∀ i, i < 15 → i ≠ w → entry u i = entry s i) ∧ (∀ q, q ≠ p → u.pan q = s.pan q)) ∧
  (∀ (s : State) (p k : Nat) (t : Trk), (s.pan p).trk k = some t →
    (t.written = false ∨ (t.kind = .req ∧ t.responded = false) ∨ (t.grant.isSome = true ∧ t.mark = none) ∨
      (t.inv.done = false ∧ t.detaches = false) → s.stFinish p k = s) ∧
    (t.ph = .run → t.written = true → t.kind = .req → t.responded = true → t.grant = none ∨ t.mark.isSome = true →
      t.inv.done = true ∨ t.detaches = true → t.reads = [] → t.mem = false → t.back = none →
      let v := (s.writeEntry p t (t.mark == some true)).endNotices p t
      (t.inv.done = true → s.stFinish p k = v.endTrk p k) ∧
      (t.inv.done = false → s.stFinish p k = v.updTrk p k (fun t => { t with ph := .detached }))) ∧
    (t.kind = .req → ((s.endTrk p k).pan p).trk k = none))

/-- R448, R449: the steps of the beds. While no change is in progress, the next bed whose step is not its target, in turn from
the one served last, changes to the nearest step allowed: its voltage rises first and its clock is switched after, or its
clock is switched first and the voltage falls after; requests are clamped to step 12 and written at once, or held until a
commit. R451, R452: the step that a bed is given is the one nearest to its target that suits its neighbours, and after a thermal trip
the target is step 0. Completes: BED_STEP_CHANGE, VR_SETTLE_DONE, CLOCK_SWITCH_DONE, SL_BED_REQ, STEP_COMMIT_NOW, STEP_COMMIT_TIMED,
STEP_COMMIT_INSTANT. -/
def Obligations.BedStepResults : Prop :=
  ∀ (s : State),
    (∀ b, b < 8 → (s.mode.tripped = true → s.bedTarget b = 0) ∧
      (s.mode.tripped = false → s.bedTarget b = min (if s.shedding then min (s.bedReq b) (min 12 (s.rf 0x20008 4 0)) else s.bedReq b) (s.bed b).cap) ∧
      (∀ k, k ≤ 12 → s.stepOk b k = true → s.stepOk b (s.newStep b) = true ∧
        (s.newStep b - s.bedTarget b) + (s.bedTarget b - s.newStep b) ≤ (k - s.bedTarget b) + (s.bedTarget b - k))) ∧
    (s.alive = true → s.beds.any (fun x => x.2.chg.isSome) = false →
      let s1 := forUpTo 8 (fun b t => t.clamp b) s
      (s1.nextBed = none → Effects .bedStepChange s (fun u => u = s1)) ∧
      ∀ b, s1.nextBed = some b →
        let n := s1.newStep b
        ((s1.bed b).step < n → Effects .bedStepChange s (fun u => u.bed b = { s1.bed b with
          volt := stepMv n, chg := some (n, 1, s.now + max 1 (s.rf 0x200B0 15 0) * 1000) } ∧ u.sl.served = b)) ∧
        (n ≤ (s1.bed b).step → Effects .bedStepChange s (fun u => u.bed b = { s1.bed b with
          step := n, chg := some (n, 2, s.now + 100) } ∧ u.sl.served = b))) ∧
    (∀ (b : Fin 8) n x, (s.bed b).chg = some (n, 1, x) → reached s.now x = true → Answers (.vrSettleDone b) s (fun t =>
      t = s.updBed b (fun x => { x with step := n, chg := some (n, 2, s.now + 100) }))) ∧
    (∀ (b : Fin 8) n x, (s.bed b).chg = some (n, 2, x) → reached s.now x = true → Answers (.clockSwitchDone b) s (fun t =>
      t = s.updBed b (fun x => { x with volt := stepMv n, chg := none }))) ∧
    (∀ (b : Fin 8) (v : BitVec 5), s.alive = true → (s.rv 0x20080).testBit 5 = false → Answers (.slBedReq b v) s (fun t =>
      t.rv (0x20040 + 8 * b) = v.toNat ∧ t.bedReq b = min 12 v.toNat ∧ (t.bed b).clamped = false)) ∧
    (∀ (b : Fin 8) (v : BitVec 5), s.alive = true → (s.rv 0x20080).testBit 5 = true → Answers (.slBedReq b v) s (fun t =>
      sget t.sl.held b none = some v.toNat ∧ t.regs = s.regs)) ∧
    (let committed := fun (u : State) => u.sl.held = [] ∧ u.sl.stepPend = none ∧ ∀ b v, b < 8 → sget s.sl.held b none = some v →
        u.rv (0x20040 + 8 * b) = v % 32 ∧ (u.bed b).clamped = false
     let at_ := s.rv 0x20088
     (s.alive = true → Answers .stepCommitNow s committed) ∧
     (s.alive = true → schedule s.now at_ = .pending → Effects .stepCommitTimed s (fun u =>
       u.sl.stepPend = some at_ ∧ u.sl.held = s.sl.held)) ∧
     (s.alive = true → schedule s.now at_ = .refused → Effects .stepCommitTimed s (fun u =>
       u.sl.stepRefused = true ∧ u.sl.stepPend = none ∧ u.sl.held = s.sl.held)) ∧
     (∀ x, s.sl.stepPend = some x → reached s.now x = true → Answers .stepCommitInstant s committed))

/-- R448, R450 to R452, R458: the sensors and the regulators. The readings of every bed are taken as they come; a die at 110
degrees or a stack at 100 trips, once between two device resets, with a fatal record: every bed is at step 0 and every stack rests;
the cap of a bed that is warm falls by one step, and that of a cool one rises by one, and stands at 12 once it limits no longer (log
entry 128); an alert of a regulator is counted and recorded, at most once per millisecond and address, and marked unknown where no bed
names the address. ALERT_N is low while an unmasked vector is set, FAULT_N while the device holds or a discrepancy stands,
THERM_TRIP_N from the trip on. Completes: THERMAL_READ, THERMAL_CAP_UPDATE, VR_ALERT. -/
def Obligations.ThermalResults : Prop :=
  ∀ (s : State),
    (∀ r : List BedTemp, s.mode.cur ≠ .off → Effects (.thermalRead r) s (fun u =>
      (∀ b, b < 8 → (u.bed b).die = (r.getD b {}).die.map (·.toNat) ∧ (u.bed b).stk = (r.getD b {}).stk.map (·.toNat)) ∧
      (s.mode.tripped = false →
        (∃ b, b < 8 ∧ (440 ≤ hottest ((r.getD b {}).die.map (·.toNat)) ∨ 400 ≤ hottest ((r.getD b {}).stk.map (·.toNat)))) →
        u.mode.thermTrip = true ∧ u.mode.tripped = true ∧ u.holding = true ∧
        ∀ b, b < 8 → (u.bed b).step = 0 ∧ (u.bed b).volt = 650 ∧ (u.bed b).chg = none ∧ (u.bed b).rest = 2))) ∧
    (s.alive = true → Effects .thermalCapUpdate s (fun u => ∀ b, b < 8 →
      let x := s.bed b
      let w := s.bedWant b
      let warm := s.warnDie ≤ x.dieG ∨ s.warnStk ≤ x.stkG
      let cool := x.dieG + 12 ≤ s.warnDie ∧ x.stkG + 12 ≤ s.warnStk
      (warm → (u.bed b).cap = x.cap - 1 ∧ u.mode.thermal = true) ∧
      (¬warm → cool → (u.bed b).cap = if w ≤ x.cap + 1 then 12 else x.cap + 1) ∧
      (¬warm → ¬cool → (u.bed b).cap = x.cap))) ∧
    (∀ (addr : BitVec 7) (status : BitVec 16), s.alive = true →
      let a := addr.toNat
      let old := sget s.sl.vrAt a 0
      let v := ({ s with sl := { s.sl with vrAt := sset s.sl.vrAt a (s.now + 1) 0 } }).count uSluice 0x105
      let det := a + 2 ^ 7 * status.toNat
      let names := fun b => s.img.inForce = true ∧ s.vrAddr b = a
      (old = 0 ∨ 1000000 ≤ dt (old - 1) s.now → sget v.sl.vrAt a 0 = s.now + 1 ∧
        ((∀ b, b < 8 → ¬names b) → Effects (.vrAlert addr status) s (fun u => u = v.logD uSluice 2 0x070C (det + 2 ^ 23))) ∧
        (∀ b, b < 8 → names b → (∀ c, c < b → ¬names c) → Effects (.vrAlert addr status) s (fun u =>
          u = v.logD uSluice 2 0x070C (det + 2 ^ 24 * b)))) ∧
      (old ≠ 0 → dt (old - 1) s.now < 1000000 → Effects (.vrAlert addr status) s (fun u => u = s))) ∧
    (s.alertLow = true ↔ s.alive = true ∧ ∃ i, i < 32 ∧ s.err.vec.testBit i = true ∧ (s.rv 0x30018).testBit i = false) ∧
    (s.faultLow = true ↔ s.alive = true ∧ (s.holding = true ∨ s.sl.disc = true)) ∧
    (s.thermTripLow = s.mode.thermTrip)

/-- R453 to R457: resting stacks and parts that are powered down. A stack that may rest begins its entry, rests 100 ns later, and
works again 2,000 ns after its exit began (the entry's row given twice begins and ends it: log entry 131); WAKE begins the exit, or
has it follow the entry, except after a thermal trip (log entry 204); a memory port that no decoder names is down once its access has
ended; a core that is powered down loses its registers, and every latch that it holds is broken, and it starts again when it is
powered up. Completes: STACK_REST_ENTRY, STACK_REST_EXIT, WAKE, MP_POWER_DOWN, MP_POWER_UP, CORE_POWER_DOWN,
CORE_POWER_UP. -/
def Obligations.RestAndPowerDownResults : Prop :=
  ∀ (s : State),
    (∀ b : Fin 8, let x := s.bed b
      (x.rest = 0 → s.mayRest b = true → Answers (.stackRestEntry b) s (fun t =>
        t.bed b = { x with rest := 1, restAt := s.now, wakeReq := false } ∧ t.pans = s.pans)) ∧
      (x.rest = 1 → 100 ≤ dt x.restAt s.now → Answers (.stackRestEntry b) s (fun t =>
        t.bed b = { x with rest := if x.wakeReq then 3 else 2, restAt := s.now, wakeReq := false } ∧ t.pans = s.pans)) ∧
      (x.rest = 3 → 2000 ≤ dt x.restAt s.now → s.homeOpen = false → Effects (.stackRestExit b) s (fun u =>
        u.bed b = { x with rest := 0, lastCmd := s.now })) ∧
      (x.rest = 3 → 2000 ≤ dt x.restAt s.now → s.homeOpen = true → Effects (.stackRestExit b) s (fun u =>
        u = forUpTo 8 (fun c t => (t.pan (8 * b + c)).trks.foldl (fun u k => u.progress (8 * b + c) k.id) t)
          (s.setBed b { x with rest := 0, lastCmd := s.now }))) ∧
      (s.alive = true → Answers (.wake b) s (fun t =>
        (t.bed b).rest = (if x.rest = 2 ∧ s.mode.tripped = false then 3 else x.rest) ∧
        (x.rest = 1 → s.mode.tripped = false → (t.bed b).wakeReq = true) ∧ (t.bed b).noRest = (s.now + s.restIdle b) % 2 ^ 64))) ∧
    (∀ m : Fin 8, s.alive = true →
      ((s.rv 0x200A0).testBit m = false → s.mpNamed m = true → Effects (.mpPowerDown m) s (fun u =>
        u = s.logD uSluice 2 0x0709 m)) ∧
      ((s.rv 0x200A0).testBit m = false → s.mpNamed m = false → (s.mp m).ioDone = true → Effects (.mpPowerDown m) s (fun u =>
        (u.mp m).down = true ∧ (u.rv 0x200A0).testBit m = true)) ∧
      ((s.mp m).down = true → Effects (.mpPowerUp m) s (fun u =>
        (u.mp m).down = false ∧ (u.rv 0x200A0).testBit m = false))) ∧
    (∀ c : Fin 3, s.alive = true →
      let k := 65 + c.val
      ((s.rv 0x200A0).testBit (8 + c) = false → Effects (.corePowerDown c) s (fun u => (u.eng k).powered = false ∧
        (u.eng k).inReset = true ∧ (u.eng k).g = [] ∧ (u.rv 0x200A0).testBit (8 + c) = true ∧
        ∀ n, n < 64 →
          let o := sget s.ru.latOwn n 0
          (o ≠ 0 → sameOwner (o - 1) (5 + c) = true → sget u.ru.latOwn n 0 = 0 ∧ sget u.ru.latBroken n false = true) ∧
          (o = 0 ∨ sameOwner (o - 1) (5 + c) = false → sget u.ru.latOwn n 0 = o ∧
            sget u.ru.latBroken n false = sget s.ru.latBroken n false))) ∧
      ((s.rv 0x200A0).testBit (8 + c) = true → Effects (.corePowerUp c) s (fun u => (u.eng k).powered = true ∧
        (u.eng k).inReset = !(s.smRun (c.val + 1) && s.img.inForce && !(s.eng k).noCode) ∧
        (u.rv 0x200A0).testBit (8 + c) = false)))

/-- R308, R425, R461 to R468, R473: register accesses of the host, and of the head for it. A read gives the register's value; a
write that is one 64-bit access at a multiple of 8 reaches its register; any other is a violation and changes no register,
and so is a write of a locked register once LOCK is 1; an access where nothing is defined changes nothing and reads 0, whatever its width; a doubleword of
the image window is written unless a load is in progress. The host's own path reaches the registers of the head alone (R21).
Completes: REGISTER_WRITE, REGISTER_READ, UNDEFINED_ACCESS, IMAGE_WINDOW_WRITE. -/
def Obligations.RegisterAccessResults : Prop :=
  ∀ (s : State), s.alive = true →
    (∀ (w : BitVec 8) (off : BitVec 26) (v : BitVec 64) (r : RegRef), w.toNat ≤ 1 → s.reaches w.toNat = true →
      s.regOpen off.toNat = true → regAt off.toNat = some r →
      let o := off.toNat
      let c := (if w = 0 then s.count uEndpoint 0x100 else s).busAccess w.toNat
      (o % 8 = 0 → s.ru.lock = false ∨ r.row.lock = 0 → o ≠ mbxOff 0 0xC0 → Effects (.registerWrite w off v true) s (fun u =>
        u = c.wrRow w.toNat r v.toNat)) ∧
      (o % 8 = 0 → s.ru.lock = true → r.row.lock ≠ 0 → Effects (.registerWrite w off v true) s (fun u =>
        u.regs = s.regs ∧ u.ru.viol = true ∧ u.img = s.img ∧ u.mode = s.mode ∧ u.pans = s.pans)) ∧
      (o % 8 ≠ 0 → Effects (.registerWrite w off v true) s (fun u => u.regs = s.regs ∧ u.ru.viol = true ∧ u.img = s.img)) ∧
      Effects (.registerWrite w off v false) s (fun u => u.regs = s.regs ∧ u.ru.viol = true ∧ u.img = s.img ∧ u.mode = s.mode)) ∧
    (∀ (off : BitVec 26) (w32 : Bool), s.mode.head = true → s.regOpen off.toNat = true → Effects (.registerRead 0 off w32 false) s (fun u =>
      u.fab.hostStat = 1 ∧ u.fab.hostData = BitVec.ofNat 64 ((s.count uEndpoint 0x100).readReg 0 off.toNat w32).1)) ∧
    (∀ (off : BitVec 26) (w32 : Bool), s.mode.head = true → s.regOpen off.toNat = false → Effects (.registerRead 0 off w32 false) s (fun u =>
      u.fab.hostStat = 2 ∧ u.regs = s.regs)) ∧
    (∀ (off : BitVec 26) (w32 : Bool), s.mode.head = true →
      (undefinedAt off.toNat = false → Effects (.registerRead 0 off w32 true) s (fun u => u.fab.hostStat = 2 ∧ u.regs = s.regs)) ∧
      (undefinedAt off.toNat = true → s.regOpen off.toNat = true → Effects (.registerRead 0 off w32 true) s (fun u =>
        u.fab.hostStat = 1 ∧ u.fab.hostData = 0 ∧ u.regs = s.regs))) ∧
    (∀ (w : BitVec 8) (off : BitVec 26) (w32 long : Bool), 1 ≤ w.toNat → s.regOpen off.toNat = true →
      Effects (.registerRead w off w32 long) s (fun u => u = (s.readReg w.toNat off.toNat w32).2)) ∧
    (∀ (w : BitVec 8) (off : BitVec 26) (v : BitVec 64) (b c : Bool), s.reaches w.toNat = false →
      Effects (.registerWrite w off v b) s (fun u => u = s) ∧ Effects (.registerRead w off b c) s (fun u => u = s)) ∧
    (∀ (w : BitVec 8) (off : BitVec 26) (wr : Bool), undefinedAt off.toNat = true → Effects (.undefinedAccess w off wr) s (fun u =>
      u.regs = s.regs ∧ u.img = s.img ∧ u.mode = s.mode ∧ u.pans = s.pans ∧ u.ru = s.ru)) ∧
    (∀ (fwd : Bool) (k : BitVec 20) (v : BitVec 64), s.reaches (b2n fwd) = true → s.regOpen (0x1080000 + 8 * k.toNat) = true →
      (s.img.busy = false → Effects (.imageWindowWrite { k := k, fwd := fwd } v) s (fun u => sget u.img.win k.toNat 0 = v ∧
        (∀ j, j ≠ k.toNat → sget u.img.win j 0 = sget s.img.win j 0) ∧ u.regs = s.regs)) ∧
      (s.img.busy = true → Effects (.imageWindowWrite { k := k, fwd := fwd } v) s (fun u => u.img = s.img ∧ u.regs = s.regs)))

/-- R466 to R468, R481: LOCK written 1 stays 1; a key register takes the first value written to it and refuses every other, and
the key is set once all four have one. R464, R465: one bit of a protected register flipped makes its parity wrong (flips are an
operand of PARITY_SWEEP: log entry 74); wrong parity stops the device at the next read of the register, or once a sweep comes to it
(whose grants are counted at its end: log entry 70). Completes: LOCK, AUTH_KEY, PARITY_SWEEP. -/
def Obligations.LockKeyAndParity : Prop :=
  ∀ (s : State), s.alive = true →
    Answers .lock s (fun t => t.ru = { s.ru with lock := true } ∧ t.regs = s.regs) ∧
    (∀ (k : Fin 4) (v : BitVec 64) (w : BitVec 8), s.reaches w.toNat = true →
      (s.img.keyWritten.testBit k = false → Answers (.authKey k v w) s (fun t => t.rv (0x50000 + 8 * k) = v.toNat ∧
        t.img.keyWritten = s.img.keyWritten ||| 2 ^ k.val ∧ (t.img.keySet = true ↔ t.img.keyWritten = 15) ∧
        (∀ o, o ≠ 0x50000 + 8 * k.val → t.rv o = s.rv o))) ∧
      (s.img.keyWritten.testBit k = true → Answers (.authKey k v w) s (fun t => t.regs = s.regs ∧ t.img = s.img ∧
        t.ru.viol = true))) ∧
    (∀ (o : Nat) (bit : Fin 64) (r : RegRef), regAt o = some r → r.row.par = true → r.row.name = .AUTH_KEY ∨ (storeMask r).testBit bit = true →
      s.parityOk r.off = true → (s.upset o bit).parityOk r.off = false) ∧
    (∀ (w : BitVec 8) (off : BitVec 26) (long : Bool) (r : RegRef), 1 ≤ w.toNat → s.reaches w.toNat = true → s.regOpen off.toNat = true →
      regAt off.toNat = some r → off.toNat % 8 = 0 → r.row.par = true → s.parityOk r.off = false →
      s.ru.parityBad.contains r.off = false → Effects (.registerRead w off false long) s (fun u => u.holding = true)) ∧
    (∀ flips : List (BitVec 26 × Fin 64), s.mode.cur ≠ .blank →
      let s1 := flips.foldl (fun t f => t.upset f.1.toNat f.2) s
      (s1.parityWrong = [] → Effects (.paritySweep flips) s (fun u => u = s1.sweepGrants.count uParity 0x100)) ∧
      ((∃ o ∈ s1.parityWrong, s.ru.parityBad.contains o = false) → Effects (.paritySweep flips) s (fun u => u.holding = true)))

/-- R469 to R472: the mailboxes. Its owner selects the source of an empty mailbox, and DONE empties a full one, which the next
record of its source then fills; a fill leaves a full mailbox 0 as it is, and gives a core's mailbox the newest record of its source
that it has not had, over the one that it still holds; a read of its data while it is empty is noted.
R384: the latches. A free latch goes to who acquires it; one that is held stays with its holder; its holder alone can release
it, which also clears its broken mark; the reset of the host's endpoint breaks every latch that the host holds. Completes:
MBX_SEL, MBX_DONE, MBX_FILL, MBX_DATA_READ, ACQUIRE, RELEASE, MGMT_ENDPOINT_RESET. -/
def Obligations.MailboxAndLatches : Prop :=
  (∀ (s : State) (m : Fin 5), s.alive = true →
    let c := fun (w : BitVec 8) => s.busAccess w.toNat
    (∀ (w : BitVec 8) (src : BitVec 4), s.reaches w.toNat = true → mbxOwner m w.toNat = true → s.mbxHas m = false → mbxMay m src.toNat = true →
      Answers (.mbxSel m w src) s (fun t => t = (c w).wrMbxSel m src.toNat ∧ t.rv (mbxOff m 0) = src.toNat)) ∧
    (∀ (w : BitVec 8) (src : BitVec 4), s.reaches w.toNat = true → mbxOwner m w.toNat = false ∨ s.mbxHas m = true → Answers (.mbxSel m w src) s (fun t => t = c w)) ∧
    (∀ w : BitVec 8, s.reaches w.toNat = true → mbxOwner m w.toNat = true → s.mbxHas m = true → Answers (.mbxDone m w) s (fun t =>
      t = ({ c w with ru := { (c w).ru with mbxValid := putBit (c w).ru.mbxValid m false } }).mbxFill m)) ∧
    (∀ w : BitVec 8, s.reaches w.toNat = true → mbxOwner m w.toNat = false ∨ s.mbxHas m = false → Answers (.mbxDone m w) s (fun t => t = c w)) ∧
    (m.val = 0 → s.mbxHas 0 = true → Answers (.mbxFill m) s (fun t => t = s)) ∧
    (∀ x rest, m.val = 0 → s.mbxHas 0 = false → s.mbxSrc 0 = 1 → s.err.log = x :: rest → Answers (.mbxFill m) s (fun t =>
      t.err.log = rest ∧ t.mbxHas 0 = true ∧ t.rv (mbxOff 0 0x40) = (x.getD 0 0).toNat)) ∧
    (∀ n q x, m.val ≠ 0 → s.mbxNewest m = (n, some (q, x)) →
      let wrap := if s.mbxSrc m = 3 then 2 ^ 16 else 2 ^ 32
      let since := fun v : Nat => (v + wrap - sget s.ru.mbxSeq m 0 % wrap) % wrap
      (since n ≤ since q → Answers (.mbxFill m) s (fun t => t = s)) ∧
      (since q < since n → Answers (.mbxFill m) s (fun t => t.mbxHas m = true ∧ sget t.ru.mbxSeq m 0 = n ∧
        (s.mbxHas m = true → t.ru.mbxLost.testBit m = true) ∧ ∀ k, k < 8 → t.rv (mbxOff m (0x40 + 8 * k)) = (x.getD k 0).toNat))) ∧
    (∀ (k : Fin 8) (w : BitVec 8), s.reaches w.toNat = true → mbxReader m w.toNat = true → s.mbxHas m = false → Answers (.mbxDataRead m k w) s (fun t =>
      t.ru = { s.ru with mbxStale := putBit s.ru.mbxStale m true } ∧ t.regs = s.regs)) ∧
    (∀ (k : Fin 8) (w : BitVec 8), s.reaches w.toNat = true → mbxReader m w.toNat = true → s.mbxHas m = true → Answers (.mbxDataRead m k w) s (fun t => t = c w))) ∧
  (∀ (s : State), s.alive = true →
    let own := fun (u : State) (n : Nat) => sget u.ru.latOwn n 0
    (∀ (n : Fin 64) (w : BitVec 8), s.reaches w.toNat = true →
      (own s n = 0 → Answers (.acquire n w) s (fun t => own t n = w.toNat + 1 ∧ (∀ k, k ≠ n.val → own t k = own s k) ∧
        t.regs = s.regs)) ∧
      (own s n ≠ 0 → Answers (.acquire n w) s (fun t => t.ru = s.ru ∧ t.regs = s.regs)) ∧
      (own s n ≠ 0 → sameOwner (own s n - 1) w.toNat = true → Answers (.release n w) s (fun t => own t n = 0 ∧
        sget t.ru.latBroken n false = false ∧ (∀ k, k ≠ n.val → own t k = own s k))) ∧
      (own s n = 0 ∨ sameOwner (own s n - 1) w.toNat = false → Answers (.release n w) s (fun t => t.ru = s.ru ∧ t.regs = s.regs))) ∧
    (s.mode.head = true → Answers .mgmtEndpointReset s (fun t => ∀ n, n < 64 →
      (own s n ≠ 0 → sameOwner (own s n - 1) 0 = true → own t n = 0 ∧ sget t.ru.latBroken n false = true) ∧
      (own s n = 0 ∨ sameOwner (own s n - 1) 0 = false → own t n = own s n))))

/-- R467: the register-violation log holds 16 records. A new record has the log's sequence number, which goes up by one modulo
2^32, the writer's code and the kind in word 0, the machine time in word 1, the offset in word 2 and the data written in word
3; in a full log it takes the place of the oldest, and VLOG_OVF is set; and the host's mailbox reads the log, oldest first.
Completes: MBX_FILL. -/
def Obligations.RegisterViolationLog : Prop :=
  (∀ (s : State) (w kind off data : Nat),
    let t := s.violation w kind off data
    let x : List (BitVec 64) := [BitVec.ofNat 64 (s.ru.vseq % 2 ^ 32 * 2 ^ 32 + w % 256 * 2 ^ 24 + kind * 2 ^ 22), BitVec.ofNat 64 s.now,
      BitVec.ofNat 64 (off % 2 ^ 26), BitVec.ofNat 64 data]
    t.ru.vseq = (s.ru.vseq + 1) % 2 ^ 32 ∧ t.ru.viol = true ∧
    (s.ru.vlog.length ≤ 16 → t.ru.vlog.length ≤ 16) ∧
    (s.ru.vlog.length < 16 → t.ru.vlog = s.ru.vlog ++ [x] ∧ t.ru.vlogOvf = s.ru.vlogOvf) ∧
    (16 ≤ s.ru.vlog.length → t.ru.vlog = s.ru.vlog.tail ++ [x] ∧ t.ru.vlogOvf = true)) ∧
  ∀ (s : State) (x : List (BitVec 64)) (rest : List (List (BitVec 64))), s.alive = true → s.mbxHas 0 = false → s.mbxSrc 0 = 6 →
    s.ru.vlog = x :: rest → Answers (.mbxFill 0) s (fun t => t.ru.vlog = rest ∧ t.mbxHas 0 = true ∧
      ∀ k, k < 8 → t.rv (mbxOff 0 (0x40 + 8 * k)) = (x.getD k 0).toNat)

/-- A step executes the command at the front of the queue on the state with the rest of the queue (the model's way of taking
commands: log entry 4). On an empty queue one cycle of the 1.2 GHz service clock passes: the step goes on, and the queue
stays empty (the model's choice: log entry 4). -/
def Obligations.StepTakesFrontCommand : Prop :=
  (∀ (s : State) (c : Instr), step { s with pending := c :: s.pending } = exec c s) ∧
  (∀ s : State, s.pending = [] → step s = .next s.idle ∧ s.idle.pending = [])

/-- R16, R160, R398, R425, R437, R440, R446, R481: the state after reset. The device is in BLANK with no command waiting, no
record in its log, no machine time, no image in force, no key, every register at its reset value, every engine held in reset,
the agreed state of the shed released, and no pan holding anything. (Device ID 0 and a device that is not the head are the
model's choice, log entry 22; what a register without a reset value reads is log entry 26.) R481: the reset state has the
invariant of the key. -/
def Obligations.ResetState : Prop :=
  (let s := State.reset
  s.pending = [] ∧ s.mode.cur = .blank ∧ s.mode.busy = false ∧ s.alive = true ∧ s.err.log = [] ∧ s.err.seq = 0 ∧ s.mt.st = 0 ∧
    s.img.inForce = false ∧ s.img.keySet = false ∧ s.img.keyWritten = 0 ∧ s.img.counter = 0 ∧ s.regs = [] ∧ s.pans = [] ∧
    s.sl.agreed = false ∧ s.sl.shed = false ∧ s.ru.lock = false ∧ s.mode.head = false ∧ s.mode.devid = 0 ∧
    (∀ o, s.rv o = resetAt o % 2 ^ 64) ∧ (∀ e, e < 68 → (s.eng e).inReset = true ∧ (s.eng e).pc = 0)) ∧
  ((State.reset.img.keySet = true ↔ State.reset.img.keyWritten = 15))

/-- R405: the reading of an instant against the time at which it is given: due at that time, pending up to 2^62 ns ahead, refused
from there on up to 2^63, and past for every other; and an instant that is pending is reached when the time comes to it. -/
def Obligations.InstantSchedule : Prop :=
  ∀ (now ahead : Nat), now < 2 ^ 64 → ahead < 2 ^ 64 →
    let at_ := (now + ahead) % 2 ^ 64
    (ahead = 0 → schedule now at_ = .due) ∧
    (0 < ahead → ahead ≤ 2 ^ 62 → schedule now at_ = .pending) ∧
    (2 ^ 62 < ahead → ahead < 2 ^ 63 → schedule now at_ = .refused) ∧
    (2 ^ 63 ≤ ahead → schedule now at_ = .past) ∧
    (0 < ahead → ahead ≤ 2 ^ 62 → ∀ k, k < 2 ^ 63 → (reached ((now + k) % 2 ^ 64) at_ = true ↔ ahead ≤ k))

/-- R156, R160, R161: a record of the error log. It takes the next sequence number whether or not it is dropped; a log of at most
4,096 records stays so; while there is room the record is the newest; in a full log a corrected one is dropped, one of
another class takes the place of the oldest corrected one, and a fatal one always finds a place; a fatal record is kept
apart. R149, R150: the posted-fault log holds at most 1,024 records and takes every new one while there is room; a full one
gives up its oldest seen record, or else its oldest of a device's own, and with neither the new record is dropped; a Fence
reports the agent's oldest unseen record, and leaves none of the agent's unseen. -/
def Obligations.ErrorAndFaultLogs : Prop :=
  (∀ (s : State) (i : ErrInfo),
    let w := i.words s.err.seq s.now
    let t := (s.logCore i).2
    let corrected := fun (x : List (BitVec 64)) => recClass x == 0
    t.err.seq = (s.err.seq + 1) % 2 ^ 32 ∧ t.regs = s.regs ∧ t.pans = s.pans ∧ t.mode = s.mode ∧
    (s.err.log.length ≤ 4096 → t.err.log.length ≤ 4096) ∧
    (s.err.log.length < 4096 → t.err.log = s.err.log ++ [w] ∧ t.err.ovf = s.err.ovf) ∧
    (4096 ≤ s.err.log.length → i.cls = 0 → t.err.log = s.err.log ∧ t.err.ovf = true) ∧
    (∀ l x r, 4096 ≤ s.err.log.length → i.cls ≠ 0 → s.err.log = l ++ x :: r → corrected x = true → l.any corrected = false →
      t.err.log = l ++ r ++ [w] ∧ t.err.ovf = true) ∧
    (i.cls = 3 → t.err.log.getLast? = some w ∧ t.err.fatal.getLast? = some w ∧ (s.err.fatal.length ≤ 16 → t.err.fatal.length ≤ 16)) ∧
    (4096 ≤ s.err.log.length → i.cls ≠ 0 → i.cls ≠ 3 → s.err.log.any corrected = false → t.err.log = s.err.log)) ∧
  ((∀ (log : List (List (BitVec 64))) (w : List (BitVec 64)),
    (log.length ≤ 1024 → (pfPlace log w).1.length ≤ 1024) ∧
    (log.length < 1024 → pfPlace log w = (log ++ [w], false)) ∧
    (1024 ≤ log.length → log.any pfSeen = false → log.any pfDev = false → pfPlace log w = (log, true)) ∧
    (∀ l x r, 1024 ≤ log.length → log = l ++ x :: r → pfSeen x = true → l.any pfSeen = false →
      pfPlace log w = (l ++ r ++ [w], false)) ∧
    (∀ l x r, 1024 ≤ log.length → log.any pfSeen = false → log = l ++ x :: r → pfDev x = true → l.any pfDev = false →
      pfPlace log w = (l ++ r ++ [w], false))) ∧
  ∀ (e : ErrUnit) (a : BitVec 12),
    ((∀ w ∈ e.pf, w ≠ []) → (e.fenceSeen a).fenceStat a = none ∧
      ∀ w ∈ (e.fenceSeen a).pf, pfOrig w = a.toNat → pfDev w = false → pfSeen w = true) ∧
    (sget e.marks a.toNat 0 = 0 → ∀ l w r, e.pf = l ++ w :: r →
      l.any (fun x => pfOrig x == a.toNat && !pfDev x && !pfSeen x) = false →
      pfOrig w = a.toNat → pfDev w = false → pfSeen w = false → e.fenceStat a = some (pfSeqOf w)))

/-- R366, R387, R388: the stores of the Saltmaster cores to the register space. A bounded field is written at the nearer bound, a
mask field in its permitted bits alone; a store that comes too soon, or in RECOVER, is not applied; each such store writes a record
of the policy log, and a clamped or refused one a record of the error log and vector POLICY; a register that no core may write is
not written, with a record. -/
def Obligations.PolicyStores : Prop :=
  (∀ lo hi v : Nat, (lo ≤ v → v ≤ hi → clampTo lo hi v = v) ∧ (v < lo → clampTo lo hi v = lo) ∧ (lo ≤ v → hi < v → clampTo lo hi v = hi)) ∧
  (∀ old mask v i : Nat, (maskTo old mask v).testBit i = if mask.testBit i then v.testBit i else old.testBit i) ∧
  (∀ (s : State) (r : RegRef) (v : Nat),
    let f := fun (w : Nat) (hi lo : Nat) => bitsOf (sget s.img.pol w 0).toNat hi lo
    let old := s.rv r.off
    (r.row.name = .PAN_QUOTA → ∃ g, s.bounded r v = some (v, g, f 6 31 0) ∧ ∀ c, c < 16 →
      bitsOf g (4 * c + 3) (4 * c) = clampTo (f 0 (4 * c + 3) (4 * c)) (f 1 (4 * c + 3) (4 * c)) (bitsOf v (4 * c + 3) (4 * c))) ∧
    (r.row.name = .PAN_BYPASS → ∃ g, s.bounded r v = some (v % 2 ^ 20, g, f 6 63 32) ∧
      bitsOf g 19 16 = clampTo (f 2 3 0) (f 2 7 4) (bitsOf v 19 16) ∧
      ∀ i, i < 16 → g.testBit i = if (f 2 31 16).testBit i then v.testBit i else old.testBit i) ∧
    (r.row.name = .PAN_PREFETCH → ∃ a g, s.bounded r v = some (a, g, f 7 31 0) ∧
      bitsOf g 23 12 = clampTo (f 3 11 0) (f 3 27 16) (bitsOf v 23 12) ∧ bitsOf g 4 0 = clampTo (f 2 36 32) (f 2 44 40) (bitsOf v 4 0) ∧
      ∀ i, i < 16 → g.testBit (24 + i) = if (f 2 63 48).testBit i then v.testBit (24 + i) else old.testBit (24 + i)) ∧
    (r.row.name = .BED_RAKE_CTL → ∃ a g, s.bounded r v = some (a, g, f 7 63 32) ∧
      bitsOf g 39 20 = clampTo (f 4 19 0) (f 4 51 32) (bitsOf v 39 20) ∧ g % 2 ^ 20 = old % 2 ^ 20) ∧
    (r.row.name = .SL_BED_REQ → s.bounded r v = some (v % 32,
      clampTo (f 5 (4 * r.ix + 3) (4 * r.ix)) (f 5 (4 * r.ix + 35) (4 * r.ix + 32)) (v % 32), f 8 31 0)) ∧
    (r.row.name = .PAN_QUOTA_CTL → ∃ a, s.bounded r v = some (a, a, f 8 63 32))) ∧
  (∀ (s : State) (c o v : Nat) (r : RegRef), regAt o = some r → o % 8 = 0 →
    let s1 := s.busAccess (4 + c)
    let u := s.coreStore c o v
    let core := uEng (64 + c)
    (∀ asked got us, s1.bounded r v = some (asked, got, us) →
      let x := polPlace r
      let det := x.1 + x.2 % 2 ^ 16 * 2 ^ 12
      (s.mode.cur = .recover ∨ s1.tooSoon r.off us = true →
        u = ((s1.count core 0x107).logD core 0 0x0508 det).polLog x.1 c x.2 false true v (s1.regVal (4 + c) r) ∧
        u.regs = s.regs ∧ u.pans = s.pans ∧ u.ru.polAt = s.ru.polAt ∧ u.err.vec.testBit 24 = true) ∧
      (s.mode.cur ≠ .recover → s1.tooSoon r.off us = false →
        let t := ({ s1 with ru := { s1.ru with polAt := sset s1.ru.polAt r.off (s.now + 1) 0 } }).wrRow (4 + c) r got
        (asked = got → u = (t.count core 0x105).polLog x.1 c x.2 false false v (t.regVal (4 + c) r)) ∧
        (asked ≠ got → u = ((t.count core 0x106).logD core 0 0x0507 det).polLog x.1 c x.2 true false v (t.regVal (4 + c) r)))) ∧
    (s1.bounded r v = none → coreMay c r = true → u = s1.wrRow (4 + c) r v) ∧
    (s1.bounded r v = none → coreMay c r = false → u = (s1.count core 0x108).logD core 2 0x0506 o ∧ u.regs = s.regs ∧ u.pans = s.pans)) ∧
  (∀ (s : State) (off us : Nat), s.tooSoon off us = true ↔
    ∃ t, sget s.ru.polAt off 0 = t + 1 ∧ us ≠ 0 ∧ dt t s.now < us * 1000) ∧
  (∀ (s : State) (unit core off req wrote : Nat) (clamped refused : Bool),
    let u := s.polLog unit core off clamped refused req wrote
    let w : List (BitVec 64) := [BitVec.ofNat 64 (s.ru.polSeq % 2 ^ 32 * 2 ^ 32 + unit * 2 ^ 20 + core * 2 ^ 18 + b2n clamped * 2 ^ 17
      + b2n refused * 2 ^ 16 + off % 2 ^ 16), BitVec.ofNat 64 s.now, BitVec.ofNat 64 req, BitVec.ofNat 64 wrote]
    u.ru.polSeq = (s.ru.polSeq + 1) % 2 ^ 32 ∧ u.regs = s.regs ∧ u.pans = s.pans ∧
    (s.ru.pol.length < 512 → u.ru.pol = s.ru.pol ++ [w] ∧ u.ru.polOvf = s.ru.polOvf) ∧
    (512 ≤ s.ru.pol.length → u.ru.pol = s.ru.pol.tail ++ [w] ∧ u.ru.polOvf = true) ∧
    (clamped = true ∨ refused = true ∨ s.ru.pol.length = 255 → u.err.vec.testBit 24 = true) ∧
    (clamped = false → refused = false → s.ru.pol.length ≠ 255 → u.err.vec = s.err.vec))

/-- R481, R425: that the key is set says that each of its four registers has been written. Every step keeps it, whatever the
command. (That the reset state has it is stated in ResetState.) -/
def Obligations.KeySetInvariant : Prop :=
  ∀ (s t : State), (s.img.keySet = true ↔ s.img.keyWritten = 15) → step s = .next t → (t.img.keySet = true ↔ t.img.keyWritten = 15)

/-- Every step of a state whose key is set only by its four writes goes on, to a state whose queue is the rest of the queue: no
command stops the block, and none adds or removes a command (the model's choices: log entries 2 and 4). -/
def Obligations.EveryStepGoesOn : Prop :=
  ∀ (s : State), (s.img.keySet = true ↔ s.img.keyWritten = 15) → ∃ t, step s = .next t ∧ t.pending = s.pending.tail

/-- R22: the device ID and the head strap are taken when a reset ends and never at another time: no command but the end of a
reset, and the loss and return of power, changes them. -/
def Obligations.StrapsSampledAtReset : Prop :=
  ∀ (s t : State) (c : Instr), (s.img.keySet = true ↔ s.img.keyWritten = 15) → exec c s = .next t →
    (∀ head id, c ≠ .rampToBlank head id) → (∀ head id, c ≠ .devResetNRelease head id) → c ≠ .powerOn → c ≠ .powerOff →
    t.mode.devid = s.mode.devid ∧ t.mode.head = s.mode.head
end

