-- ==== Sys2Proof/Laws/Bits.lean ====
section
/-! SUPPORT. Bit fields: what setBits and bitsOf do to the bits of a number, and the commit bits of a control register. -/

namespace Sys2Proof.Machine

theorem bitsOf_testBit (v hi lo i : Nat) : (bitsOf v hi lo).testBit i = (decide (i < hi + 1 - lo) && v.testBit (lo + i)) := by
  unfold bitsOf
  rw [Nat.testBit_mod_two_pow, Nat.testBit_shiftRight]

/-- A number is its bits above a field, the field, and the bits below it. -/
theorem split_at (v hi lo : Nat) (h : lo ≤ hi + 1) :
    v = 2 ^ (hi + 1) * (v / 2 ^ (hi + 1)) + bitsOf v hi lo * 2 ^ lo + v % 2 ^ lo := by
  unfold bitsOf
  rw [Nat.shiftRight_eq_div_pow]
  have h1 : v % 2 ^ (hi + 1) = (v / 2 ^ lo) % 2 ^ (hi + 1 - lo) * 2 ^ lo + v % 2 ^ lo := by
    have e : 2 ^ (hi + 1) = 2 ^ lo * 2 ^ (hi + 1 - lo) := by rw [← Nat.pow_add]; congr 1; omega
    rw [e, Nat.mod_mul, Nat.mul_comm, Nat.add_comm]
  have h2 := Nat.div_add_mod v (2 ^ (hi + 1))
  omega

theorem setBits_eq (v hi lo x : Nat) (h : lo ≤ hi + 1) :
    setBits v hi lo x = 2 ^ (hi + 1) * (v / 2 ^ (hi + 1)) + (2 ^ lo * (x % 2 ^ (hi + 1 - lo)) + v % 2 ^ lo) := by
  unfold setBits
  have := split_at v hi lo h
  rw [Nat.mul_comm (2 ^ lo)]
  omega

theorem setBits_testBit (v hi lo x i : Nat) (h : lo ≤ hi + 1) :
    (setBits v hi lo x).testBit i = if lo ≤ i ∧ i ≤ hi then x.testBit (i - lo) else v.testBit i := by
  rw [setBits_eq v hi lo x h]
  have hb : v % 2 ^ lo < 2 ^ lo := Nat.mod_lt _ (Nat.two_pow_pos _)
  have hx : x % 2 ^ (hi + 1 - lo) < 2 ^ (hi + 1 - lo) := Nat.mod_lt _ (Nat.two_pow_pos _)
  have hm : 2 ^ lo * (x % 2 ^ (hi + 1 - lo)) + v % 2 ^ lo < 2 ^ (hi + 1) := by
    have e : 2 ^ (hi + 1) = 2 ^ lo * 2 ^ (hi + 1 - lo) := by rw [← Nat.pow_add]; congr 1; omega
    rw [e]
    calc 2 ^ lo * (x % 2 ^ (hi + 1 - lo)) + v % 2 ^ lo < 2 ^ lo * (x % 2 ^ (hi + 1 - lo)) + 2 ^ lo := by omega
      _ = 2 ^ lo * (x % 2 ^ (hi + 1 - lo) + 1) := by rw [Nat.mul_add, Nat.mul_one]
      _ ≤ _ := Nat.mul_le_mul_left _ hx
  rw [Nat.testBit_two_pow_mul_add _ hm]
  split
  · next hi' =>
    rw [Nat.testBit_two_pow_mul_add _ hb]
    split
    · next hl =>
      rw [if_neg (by omega), Nat.testBit_mod_two_pow]
      simp [hl]
    · next hl =>
      rw [if_pos (by omega), Nat.testBit_mod_two_pow]
      simp; omega
  · next hi' =>
    rw [if_neg (by omega), Nat.testBit_div_two_pow]
    congr 1
    omega

theorem commitBits_testBit (v k i : Nat) : (commitBits v k).testBit i = if i ≤ 1 then k.testBit i else v.testBit i := by
  unfold commitBits
  rw [setBits_testBit _ _ _ _ _ (by omega)]
  simp

/-- The field [hi:lo] of a number outside which v was changed. -/
theorem bitsOf_setBits_ne (v hi lo x h l : Nat) (hr : lo ≤ hi + 1) (hd : h < lo ∨ hi < l) :
    bitsOf (setBits v hi lo x) h l = bitsOf v h l := by
  apply Nat.eq_of_testBit_eq
  intro i
  rw [bitsOf_testBit, bitsOf_testBit, setBits_testBit _ _ _ _ _ hr]
  by_cases hi' : i < h + 1 - l
  · rw [if_neg (by omega)]
  · simp [hi']

/-- The field just written. -/
theorem bitsOf_setBits_same (v hi lo x : Nat) (hr : lo ≤ hi + 1) : bitsOf (setBits v hi lo x) hi lo = x % 2 ^ (hi + 1 - lo) := by
  apply Nat.eq_of_testBit_eq
  intro i
  rw [bitsOf_testBit, setBits_testBit _ _ _ _ _ hr, Nat.testBit_mod_two_pow]
  by_cases hi' : i < hi + 1 - lo
  · rw [if_pos (by omega)]; simp
  · simp [hi']

/-- The commit bits leave every other field of a control register. -/
theorem bitsOf_commitBits (v k h l : Nat) (hl : 2 ≤ l) : bitsOf (commitBits v k) h l = bitsOf v h l :=
  bitsOf_setBits_ne _ _ _ _ _ _ (by omega) (Or.inr (by omega))

end Sys2Proof.Machine
end

