-- ==== Sys2Proof/Laws/Frame.lean ====
section
/-! SUPPORT. The line form of a frame: what frameRead finds in the periods that frameLine spells (R396, R397). -/

namespace Sys2Proof.Machine

theorem bitsDown_length (v n : Nat) : (bitsDown v n).length = n := by
  induction n with
  | zero => rfl
  | succ k ih => simp [bitsDown, ih]

theorem bitsUp_from (l : List Bool) (a : Nat) : l.foldl (fun a b => 2 * a + b2n b) a = a * 2 ^ l.length + bitsUp l := by
  induction l generalizing a with
  | nil => simp [bitsUp]
  | cons b l ih =>
    have e := ih (2 * 0 + b2n b)
    simp only [bitsUp, List.foldl_cons, List.length_cons] at e ⊢
    rw [ih, e, Nat.pow_succ]
    simp only [bitsUp, Nat.add_mul, Nat.mul_zero, Nat.zero_add, Nat.mul_comm 2 a, Nat.mul_assoc, Nat.mul_comm 2 (2 ^ l.length)]
    omega

/-- The bits of a number, most significant first, spell it again. -/
theorem bitsUp_bitsDown (v n : Nat) : bitsUp (bitsDown v n) = v % 2 ^ n := by
  induction n with
  | zero => simp [bitsDown, bitsUp, Nat.mod_one]
  | succ k ih =>
    have h := bitsUp_from (bitsDown v k) (2 * 0 + b2n (v.testBit k))
    simp only [bitsDown_length, ih] at h
    simp only [bitsDown, bitsUp, List.foldl_cons]
    rw [h, Nat.pow_succ, Nat.mod_mul, ← Nat.shiftRight_eq_div_pow]
    rcases Nat.mod_two_eq_zero_or_one (v >>> k) with e | e <;> simp [b2n, Nat.testBit, Nat.and_comm 1, Nat.and_one_is_mod, e, Nat.add_comm]

theorem lineBits_manchester (l : List Bool) : lineBits (l.map manchester) = some l := by
  induction l with
  | nil => rfl
  | cons b l ih => cases b <;> simp [lineBits, manchester, unManchester, ih]

/-- A frame on the line is read as what it was made from, when its CRC is right. -/
theorem frameRead_frameLine (time fseq crc : Nat) (ht : time < 2 ^ 64) (hf : fseq < 2 ^ 16) (hc : crc < 2 ^ 16)
    (h : frameCrc time fseq = crc) : frameRead (frameLine time fseq crc) = some (time, fseq) := by
  have l1 : (bitsDown time 64).length = 64 := bitsDown_length ..
  have l2 : (bitsDown fseq 16).length = 16 := bitsDown_length ..
  have l3 : (bitsDown crc 16).length = 16 := bitsDown_length ..
  have e1 : (frameLine time fseq crc).take 4 = frameStart := by simp [frameLine, frameStart]
  have e2 : (frameLine time fseq crc).length = 100 := by simp [frameLine, frameStart, l1, l2, l3]
  have e3 : (frameLine time fseq crc).drop 4 = (bitsDown time 64 ++ (bitsDown fseq 16 ++ bitsDown crc 16)).map manchester := by
    simp [frameLine, frameStart]
  unfold frameRead
  rw [if_neg (by simp [e1, e2]), e3, lineBits_manchester]
  have t1 : (bitsDown time 64 ++ (bitsDown fseq 16 ++ bitsDown crc 16)).take 64 = bitsDown time 64 := by
    rw [List.take_left' l1]
  have t2 : (bitsDown time 64 ++ (bitsDown fseq 16 ++ bitsDown crc 16)).drop 64 = bitsDown fseq 16 ++ bitsDown crc 16 := by
    rw [List.drop_left' l1]
  have t3 : (bitsDown time 64 ++ (bitsDown fseq 16 ++ bitsDown crc 16)).drop 80 = bitsDown crc 16 := by
    rw [show 80 = 64 + 16 from rfl, ← List.drop_drop, t2, List.drop_left' l2]
  simp only [t1, t2, t3, List.take_left' l2, bitsUp_bitsDown, Nat.mod_eq_of_lt ht, Nat.mod_eq_of_lt hf, Nat.mod_eq_of_lt hc, h, if_true]

theorem crc16Run_lt (c v n : Nat) (h : c < 2 ^ 16) : crc16Run c v n < 2 ^ 16 := by
  induction n generalizing c with
  | zero => exact h
  | succ k ih =>
    unfold crc16Run
    refine ih _ ?_
    have hm : c * 2 % 65536 < 2 ^ 16 := Nat.mod_lt _ (by decide)
    split
    · exact hm
    · exact Nat.xor_lt_two_pow hm (by decide)

/-- The periods that FRAME gives the device carry its TIME and FSEQ. -/
theorem frameRead_good (time : BitVec 64) (fseq : BitVec 16) :
    frameRead (frameLine time.toNat fseq.toNat (frameCrc time.toNat fseq.toNat)) = some (time.toNat, fseq.toNat) :=
  frameRead_frameLine _ _ _ time.isLt fseq.isLt (crc16Run_lt _ _ _ (by decide)) rfl

end Sys2Proof.Machine
end

