-- ==== Sys2Proof/Laws/Sparse.lean ====
section
/-! SUPPORT. Laws of the sparse tables: what a key reads after a write, and that every write keeps the canonical form. -/

namespace Sys2Proof.Machine

variable {α : Type}

@[simp] theorem sget_nil (k : Nat) (d : α) : sget [] k d = d := rfl

theorem sget_sput_same (m : Sparse α) (k : Nat) (v d : α) : sget (sput m k v) k d = v := by
  induction m with
  | nil => simp [sput, sget]
  | cons h t ih =>
    obtain ⟨i, w⟩ := h
    unfold sput
    by_cases h1 : k < i
    · simp [h1, sget]
    · by_cases h2 : i = k
      · simp [h2, sget]
      · simp [h1, h2, sget, ih]

theorem sget_sput_ne (m : Sparse α) {k j : Nat} (v d : α) (h : j ≠ k) : sget (sput m k v) j d = sget m j d := by
  induction m with
  | nil => simp [sput, sget, Ne.symm h]
  | cons x t ih =>
    obtain ⟨i, w⟩ := x
    unfold sput
    by_cases h1 : k < i
    · simp [h1, sget, Ne.symm h]
    · by_cases h2 : i = k
      · subst h2; simp [sget, Ne.symm h]
      · simp [h1, h2, sget, ih]

theorem sget_sdel_same (m : Sparse α) (k : Nat) (d : α) : sget (sdel m k) k d = d := by
  induction m with
  | nil => rfl
  | cons x t ih =>
    obtain ⟨i, w⟩ := x
    by_cases h : i = k <;> simp [sdel, sget, h, ih]

theorem sget_sdel_ne (m : Sparse α) {k j : Nat} (d : α) (h : j ≠ k) : sget (sdel m k) j d = sget m j d := by
  induction m with
  | nil => rfl
  | cons x t ih =>
    obtain ⟨i, w⟩ := x
    by_cases h1 : i = k
    · subst h1; simp [sdel, sget, ih, Ne.symm h]
    · simp [sdel, sget, h1, ih]

section writes
variable [DecidableEq α]

/-- A read after a write of the same key gives the value written. -/
@[simp] theorem sget_sset_same (m : Sparse α) (k : Nat) (v d : α) : sget (sset m k v d) k d = v := by
  unfold sset
  split
  · subst_vars; exact sget_sdel_same m k _
  · exact sget_sput_same m k v d

/-- A write leaves every other key as it was. -/
theorem sget_sset_ne (m : Sparse α) {k j : Nat} (v d e : α) (h : j ≠ k) : sget (sset m k v d) j e = sget m j e := by
  unfold sset
  split
  · exact sget_sdel_ne m e h
  · exact sget_sput_ne m v e h

/-- What a key reads after a write of any key. -/
theorem sget_sset (m : Sparse α) (k j : Nat) (v d : α) : sget (sset m k v d) j d = if j = k then v else sget m j d := by
  by_cases h : j = k
  · subst h; simp
  · simp [h, sget_sset_ne]

end writes

/-! ### The canonical form -/

/-- Above a bound: every key is greater than it. -/
def sabove (b : Option Nat) (i : Nat) : Bool := match b with | none => true | some n => decide (n < i)

theorem skeysAbove_cons (b : Option Nat) (i : Nat) (v : α) (t : Sparse α) :
    skeysAbove b ((i, v) :: t) = (sabove b i && skeysAbove (some i) t) := rfl

theorem skeysAbove_weaken (m : Sparse α) {i : Nat} (b : Option Nat) (h : skeysAbove (some i) m = true) (hb : sabove b i = true) :
    skeysAbove b m = true := by
  cases m with
  | nil => rfl
  | cons x t =>
    obtain ⟨j, w⟩ := x
    rw [skeysAbove_cons, Bool.and_eq_true] at h ⊢
    refine ⟨?_, h.2⟩
    cases b with
    | none => rfl
    | some n => simp [sabove] at *; omega

theorem skeysAbove_sput (m : Sparse α) (k : Nat) (v : α) (b : Option Nat) (h : skeysAbove b m = true) (hk : sabove b k = true) :
    skeysAbove b (sput m k v) = true := by
  induction m generalizing b with
  | nil => simp [sput, skeysAbove_cons, hk, skeysAbove]
  | cons x t ih =>
    obtain ⟨i, w⟩ := x
    rw [skeysAbove_cons, Bool.and_eq_true] at h
    unfold sput
    by_cases h1 : k < i
    · rw [if_pos h1, skeysAbove_cons, skeysAbove_cons, hk, h.2]; simp [sabove, h1]
    · by_cases h2 : i = k
      · subst h2; simp [skeysAbove_cons, h.1, h.2]
      · simp only [h1, h2, if_false, skeysAbove_cons, h.1, Bool.true_and]
        exact ih _ h.2 (by simp [sabove]; omega)

theorem skeysAbove_sdel (m : Sparse α) (k : Nat) (b : Option Nat) (h : skeysAbove b m = true) :
    skeysAbove b (sdel m k) = true := by
  induction m generalizing b with
  | nil => rfl
  | cons x t ih =>
    obtain ⟨i, w⟩ := x
    rw [skeysAbove_cons, Bool.and_eq_true] at h
    unfold sdel
    split
    · exact skeysAbove_weaken _ b (ih _ h.2) h.1
    · rw [skeysAbove_cons, h.1, ih _ h.2]; rfl

section canonical
variable [DecidableEq α]

theorem snoDefault_sput (m : Sparse α) (k : Nat) (v d : α) (h : snoDefault d m = true) (hv : v ≠ d) :
    snoDefault d (sput m k v) = true := by
  induction m with
  | nil => simp [sput, snoDefault, hv]
  | cons x t ih =>
    obtain ⟨i, w⟩ := x
    simp only [snoDefault, Bool.and_eq_true] at h
    unfold sput
    by_cases h1 : k < i
    · simp [h1, snoDefault, hv, h.2]; simpa using h.1
    · by_cases h2 : i = k
      · subst h2; simp [snoDefault, hv, h.2]
      · simp [h1, h2, snoDefault, ih h.2]; simpa using h.1

theorem snoDefault_sdel (m : Sparse α) (k : Nat) (d : α) (h : snoDefault d m = true) : snoDefault d (sdel m k) = true := by
  induction m with
  | nil => rfl
  | cons x t ih =>
    obtain ⟨i, w⟩ := x
    simp only [snoDefault, Bool.and_eq_true] at h
    unfold sdel
    split
    · exact ih h.2
    · simp [snoDefault, ih h.2]; simpa using h.1

/-- A write keeps the canonical form. -/
theorem swf_sset (m : Sparse α) (k : Nat) (v d : α) (h : swf d m = true) : swf d (sset m k v d) = true := by
  unfold swf at *
  rw [Bool.and_eq_true] at *
  unfold sset
  split
  · exact ⟨skeysAbove_sdel m k none h.1, snoDefault_sdel m k d h.2⟩
  · next hv => exact ⟨skeysAbove_sput m k v none h.1 rfl, snoDefault_sput m k v d h.2 hv⟩

/-- An update keeps the canonical form. -/
theorem swf_supd (m : Sparse α) (k : Nat) (d : α) (f : α → α) (h : swf d m = true) : swf d (supd m k d f) = true :=
  swf_sset m k _ d h

/-- The empty table is in canonical form. -/
@[simp] theorem swf_nil (d : α) : swf d ([] : Sparse α) = true := rfl

end canonical

end Sys2Proof.Machine
end

