-- ==== Sys2Proof/Laws/State.lean ====
section
/-! SUPPORT. Laws of the state's updates: what each operation on a unit leaves unchanged, and what a unit reads after it. -/

namespace Sys2Proof.Machine

variable (s : State)

/-! ### Pan -/

@[simp] theorem State.setPan_pending (k : Nat) (x : Pan) : (s.setPan k x).pending = s.pending := rfl
@[simp] theorem State.setPan_freeIx (k : Nat) (x : Pan) : (s.setPan k x).freeIx = s.freeIx := rfl
@[simp] theorem State.setPan_svc (k : Nat) (x : Pan) : (s.setPan k x).svc = s.svc := rfl
@[simp] theorem State.setPan_regs (k : Nat) (x : Pan) : (s.setPan k x).regs = s.regs := rfl
@[simp] theorem State.setPan_parity (k : Nat) (x : Pan) : (s.setPan k x).parity = s.parity := rfl
@[simp] theorem State.setPan_mt (k : Nat) (x : Pan) : (s.setPan k x).mt = s.mt := rfl
@[simp] theorem State.setPan_mode (k : Nat) (x : Pan) : (s.setPan k x).mode = s.mode := rfl
@[simp] theorem State.setPan_err (k : Nat) (x : Pan) : (s.setPan k x).err = s.err := rfl
@[simp] theorem State.setPan_hv (k : Nat) (x : Pan) : (s.setPan k x).hv = s.hv := rfl
@[simp] theorem State.setPan_sl (k : Nat) (x : Pan) : (s.setPan k x).sl = s.sl := rfl
@[simp] theorem State.setPan_ru (k : Nat) (x : Pan) : (s.setPan k x).ru = s.ru := rfl
@[simp] theorem State.setPan_img (k : Nat) (x : Pan) : (s.setPan k x).img = s.img := rfl
@[simp] theorem State.setPan_fab (k : Nat) (x : Pan) : (s.setPan k x).fab = s.fab := rfl
@[simp] theorem State.setPan_beds (k : Nat) (x : Pan) : (s.setPan k x).beds = s.beds := rfl
@[simp] theorem State.setPan_hinges (k : Nat) (x : Pan) : (s.setPan k x).hinges = s.hinges := rfl
@[simp] theorem State.setPan_knuckles (k : Nat) (x : Pan) : (s.setPan k x).knuckles = s.knuckles := rfl
@[simp] theorem State.setPan_memports (k : Nat) (x : Pan) : (s.setPan k x).memports = s.memports := rfl
@[simp] theorem State.setPan_engines (k : Nat) (x : Pan) : (s.setPan k x).engines = s.engines := rfl
@[simp] theorem State.setPan_bed (k : Nat) (x : Pan) (p : Nat) : (s.setPan k x).bed p = s.bed p := rfl
@[simp] theorem State.setPan_hinge (k : Nat) (x : Pan) (p : Nat) : (s.setPan k x).hinge p = s.hinge p := rfl
@[simp] theorem State.setPan_kn (k : Nat) (x : Pan) (p : Nat) : (s.setPan k x).kn p = s.kn p := rfl
@[simp] theorem State.setPan_mp (k : Nat) (x : Pan) (p : Nat) : (s.setPan k x).mp p = s.mp p := rfl
@[simp] theorem State.setPan_eng (k : Nat) (x : Pan) (p : Nat) : (s.setPan k x).eng p = s.eng p := rfl
@[simp] theorem State.setPan_rv (k : Nat) (x : Pan) (p : Nat) : (s.setPan k x).rv p = s.rv p := rfl
@[simp] theorem State.setPan_now (k : Nat) (x : Pan) : (s.setPan k x).now = s.now := rfl
@[simp] theorem State.setPan_alive (k : Nat) (x : Pan) : (s.setPan k x).alive = s.alive := rfl
@[simp] theorem State.setPan_me (k : Nat) (x : Pan) : (s.setPan k x).me = s.me := rfl
@[simp] theorem State.updPan_pending (k : Nat) (f : Pan → Pan) : (s.updPan k f).pending = s.pending := rfl
@[simp] theorem State.updPan_freeIx (k : Nat) (f : Pan → Pan) : (s.updPan k f).freeIx = s.freeIx := rfl
@[simp] theorem State.updPan_svc (k : Nat) (f : Pan → Pan) : (s.updPan k f).svc = s.svc := rfl
@[simp] theorem State.updPan_regs (k : Nat) (f : Pan → Pan) : (s.updPan k f).regs = s.regs := rfl
@[simp] theorem State.updPan_parity (k : Nat) (f : Pan → Pan) : (s.updPan k f).parity = s.parity := rfl
@[simp] theorem State.updPan_mt (k : Nat) (f : Pan → Pan) : (s.updPan k f).mt = s.mt := rfl
@[simp] theorem State.updPan_mode (k : Nat) (f : Pan → Pan) : (s.updPan k f).mode = s.mode := rfl
@[simp] theorem State.updPan_err (k : Nat) (f : Pan → Pan) : (s.updPan k f).err = s.err := rfl
@[simp] theorem State.updPan_hv (k : Nat) (f : Pan → Pan) : (s.updPan k f).hv = s.hv := rfl
@[simp] theorem State.updPan_sl (k : Nat) (f : Pan → Pan) : (s.updPan k f).sl = s.sl := rfl
@[simp] theorem State.updPan_ru (k : Nat) (f : Pan → Pan) : (s.updPan k f).ru = s.ru := rfl
@[simp] theorem State.updPan_img (k : Nat) (f : Pan → Pan) : (s.updPan k f).img = s.img := rfl
@[simp] theorem State.updPan_fab (k : Nat) (f : Pan → Pan) : (s.updPan k f).fab = s.fab := rfl
@[simp] theorem State.updPan_beds (k : Nat) (f : Pan → Pan) : (s.updPan k f).beds = s.beds := rfl
@[simp] theorem State.updPan_hinges (k : Nat) (f : Pan → Pan) : (s.updPan k f).hinges = s.hinges := rfl
@[simp] theorem State.updPan_knuckles (k : Nat) (f : Pan → Pan) : (s.updPan k f).knuckles = s.knuckles := rfl
@[simp] theorem State.updPan_memports (k : Nat) (f : Pan → Pan) : (s.updPan k f).memports = s.memports := rfl
@[simp] theorem State.updPan_engines (k : Nat) (f : Pan → Pan) : (s.updPan k f).engines = s.engines := rfl
@[simp] theorem State.updPan_bed (k : Nat) (f : Pan → Pan) (p : Nat) : (s.updPan k f).bed p = s.bed p := rfl
@[simp] theorem State.updPan_hinge (k : Nat) (f : Pan → Pan) (p : Nat) : (s.updPan k f).hinge p = s.hinge p := rfl
@[simp] theorem State.updPan_kn (k : Nat) (f : Pan → Pan) (p : Nat) : (s.updPan k f).kn p = s.kn p := rfl
@[simp] theorem State.updPan_mp (k : Nat) (f : Pan → Pan) (p : Nat) : (s.updPan k f).mp p = s.mp p := rfl
@[simp] theorem State.updPan_eng (k : Nat) (f : Pan → Pan) (p : Nat) : (s.updPan k f).eng p = s.eng p := rfl
@[simp] theorem State.updPan_rv (k : Nat) (f : Pan → Pan) (p : Nat) : (s.updPan k f).rv p = s.rv p := rfl
@[simp] theorem State.updPan_now (k : Nat) (f : Pan → Pan) : (s.updPan k f).now = s.now := rfl
@[simp] theorem State.updPan_alive (k : Nat) (f : Pan → Pan) : (s.updPan k f).alive = s.alive := rfl
@[simp] theorem State.updPan_me (k : Nat) (f : Pan → Pan) : (s.updPan k f).me = s.me := rfl
@[simp] theorem State.pan_setPan (k : Nat) (x : Pan) : (s.setPan k x).pan k = x := sget_sset_same _ _ _ _
theorem State.pan_setPan_ne {p k : Nat} (x : Pan) (h : p ≠ k) : (s.setPan k x).pan p = s.pan p := sget_sset_ne _ _ _ _ h
@[simp] theorem State.pan_updPan (k : Nat) (f : Pan → Pan) : (s.updPan k f).pan k = f (s.pan k) := sget_sset_same _ _ _ _
theorem State.pan_updPan_ne {p k : Nat} (f : Pan → Pan) (h : p ≠ k) : (s.updPan k f).pan p = s.pan p := sget_sset_ne _ _ _ _ h

/-! ### Bed -/

@[simp] theorem State.setBed_pending (k : Nat) (x : Bed) : (s.setBed k x).pending = s.pending := rfl
@[simp] theorem State.setBed_freeIx (k : Nat) (x : Bed) : (s.setBed k x).freeIx = s.freeIx := rfl
@[simp] theorem State.setBed_svc (k : Nat) (x : Bed) : (s.setBed k x).svc = s.svc := rfl
@[simp] theorem State.setBed_regs (k : Nat) (x : Bed) : (s.setBed k x).regs = s.regs := rfl
@[simp] theorem State.setBed_parity (k : Nat) (x : Bed) : (s.setBed k x).parity = s.parity := rfl
@[simp] theorem State.setBed_mt (k : Nat) (x : Bed) : (s.setBed k x).mt = s.mt := rfl
@[simp] theorem State.setBed_mode (k : Nat) (x : Bed) : (s.setBed k x).mode = s.mode := rfl
@[simp] theorem State.setBed_err (k : Nat) (x : Bed) : (s.setBed k x).err = s.err := rfl
@[simp] theorem State.setBed_hv (k : Nat) (x : Bed) : (s.setBed k x).hv = s.hv := rfl
@[simp] theorem State.setBed_sl (k : Nat) (x : Bed) : (s.setBed k x).sl = s.sl := rfl
@[simp] theorem State.setBed_ru (k : Nat) (x : Bed) : (s.setBed k x).ru = s.ru := rfl
@[simp] theorem State.setBed_img (k : Nat) (x : Bed) : (s.setBed k x).img = s.img := rfl
@[simp] theorem State.setBed_fab (k : Nat) (x : Bed) : (s.setBed k x).fab = s.fab := rfl
@[simp] theorem State.setBed_pans (k : Nat) (x : Bed) : (s.setBed k x).pans = s.pans := rfl
@[simp] theorem State.setBed_hinges (k : Nat) (x : Bed) : (s.setBed k x).hinges = s.hinges := rfl
@[simp] theorem State.setBed_knuckles (k : Nat) (x : Bed) : (s.setBed k x).knuckles = s.knuckles := rfl
@[simp] theorem State.setBed_memports (k : Nat) (x : Bed) : (s.setBed k x).memports = s.memports := rfl
@[simp] theorem State.setBed_engines (k : Nat) (x : Bed) : (s.setBed k x).engines = s.engines := rfl
@[simp] theorem State.setBed_pan (k : Nat) (x : Bed) (p : Nat) : (s.setBed k x).pan p = s.pan p := rfl
@[simp] theorem State.setBed_hinge (k : Nat) (x : Bed) (p : Nat) : (s.setBed k x).hinge p = s.hinge p := rfl
@[simp] theorem State.setBed_kn (k : Nat) (x : Bed) (p : Nat) : (s.setBed k x).kn p = s.kn p := rfl
@[simp] theorem State.setBed_mp (k : Nat) (x : Bed) (p : Nat) : (s.setBed k x).mp p = s.mp p := rfl
@[simp] theorem State.setBed_eng (k : Nat) (x : Bed) (p : Nat) : (s.setBed k x).eng p = s.eng p := rfl
@[simp] theorem State.setBed_rv (k : Nat) (x : Bed) (p : Nat) : (s.setBed k x).rv p = s.rv p := rfl
@[simp] theorem State.setBed_now (k : Nat) (x : Bed) : (s.setBed k x).now = s.now := rfl
@[simp] theorem State.setBed_alive (k : Nat) (x : Bed) : (s.setBed k x).alive = s.alive := rfl
@[simp] theorem State.setBed_me (k : Nat) (x : Bed) : (s.setBed k x).me = s.me := rfl
@[simp] theorem State.updBed_pending (k : Nat) (f : Bed → Bed) : (s.updBed k f).pending = s.pending := rfl
@[simp] theorem State.updBed_freeIx (k : Nat) (f : Bed → Bed) : (s.updBed k f).freeIx = s.freeIx := rfl
@[simp] theorem State.updBed_svc (k : Nat) (f : Bed → Bed) : (s.updBed k f).svc = s.svc := rfl
@[simp] theorem State.updBed_regs (k : Nat) (f : Bed → Bed) : (s.updBed k f).regs = s.regs := rfl
@[simp] theorem State.updBed_parity (k : Nat) (f : Bed → Bed) : (s.updBed k f).parity = s.parity := rfl
@[simp] theorem State.updBed_mt (k : Nat) (f : Bed → Bed) : (s.updBed k f).mt = s.mt := rfl
@[simp] theorem State.updBed_mode (k : Nat) (f : Bed → Bed) : (s.updBed k f).mode = s.mode := rfl
@[simp] theorem State.updBed_err (k : Nat) (f : Bed → Bed) : (s.updBed k f).err = s.err := rfl
@[simp] theorem State.updBed_hv (k : Nat) (f : Bed → Bed) : (s.updBed k f).hv = s.hv := rfl
@[simp] theorem State.updBed_sl (k : Nat) (f : Bed → Bed) : (s.updBed k f).sl = s.sl := rfl
@[simp] theorem State.updBed_ru (k : Nat) (f : Bed → Bed) : (s.updBed k f).ru = s.ru := rfl
@[simp] theorem State.updBed_img (k : Nat) (f : Bed → Bed) : (s.updBed k f).img = s.img := rfl
@[simp] theorem State.updBed_fab (k : Nat) (f : Bed → Bed) : (s.updBed k f).fab = s.fab := rfl
@[simp] theorem State.updBed_pans (k : Nat) (f : Bed → Bed) : (s.updBed k f).pans = s.pans := rfl
@[simp] theorem State.updBed_hinges (k : Nat) (f : Bed → Bed) : (s.updBed k f).hinges = s.hinges := rfl
@[simp] theorem State.updBed_knuckles (k : Nat) (f : Bed → Bed) : (s.updBed k f).knuckles = s.knuckles := rfl
@[simp] theorem State.updBed_memports (k : Nat) (f : Bed → Bed) : (s.updBed k f).memports = s.memports := rfl
@[simp] theorem State.updBed_engines (k : Nat) (f : Bed → Bed) : (s.updBed k f).engines = s.engines := rfl
@[simp] theorem State.updBed_pan (k : Nat) (f : Bed → Bed) (p : Nat) : (s.updBed k f).pan p = s.pan p := rfl
@[simp] theorem State.updBed_hinge (k : Nat) (f : Bed → Bed) (p : Nat) : (s.updBed k f).hinge p = s.hinge p := rfl
@[simp] theorem State.updBed_kn (k : Nat) (f : Bed → Bed) (p : Nat) : (s.updBed k f).kn p = s.kn p := rfl
@[simp] theorem State.updBed_mp (k : Nat) (f : Bed → Bed) (p : Nat) : (s.updBed k f).mp p = s.mp p := rfl
@[simp] theorem State.updBed_eng (k : Nat) (f : Bed → Bed) (p : Nat) : (s.updBed k f).eng p = s.eng p := rfl
@[simp] theorem State.updBed_rv (k : Nat) (f : Bed → Bed) (p : Nat) : (s.updBed k f).rv p = s.rv p := rfl
@[simp] theorem State.updBed_now (k : Nat) (f : Bed → Bed) : (s.updBed k f).now = s.now := rfl
@[simp] theorem State.updBed_alive (k : Nat) (f : Bed → Bed) : (s.updBed k f).alive = s.alive := rfl
@[simp] theorem State.updBed_me (k : Nat) (f : Bed → Bed) : (s.updBed k f).me = s.me := rfl
@[simp] theorem State.bed_setBed (k : Nat) (x : Bed) : (s.setBed k x).bed k = x := sget_sset_same _ _ _ _
theorem State.bed_setBed_ne {p k : Nat} (x : Bed) (h : p ≠ k) : (s.setBed k x).bed p = s.bed p := sget_sset_ne _ _ _ _ h
@[simp] theorem State.bed_updBed (k : Nat) (f : Bed → Bed) : (s.updBed k f).bed k = f (s.bed k) := sget_sset_same _ _ _ _
theorem State.bed_updBed_ne {p k : Nat} (f : Bed → Bed) (h : p ≠ k) : (s.updBed k f).bed p = s.bed p := sget_sset_ne _ _ _ _ h

/-! ### Hinge -/

@[simp] theorem State.setHinge_pending (k : Nat) (x : Hinge) : (s.setHinge k x).pending = s.pending := rfl
@[simp] theorem State.setHinge_freeIx (k : Nat) (x : Hinge) : (s.setHinge k x).freeIx = s.freeIx := rfl
@[simp] theorem State.setHinge_svc (k : Nat) (x : Hinge) : (s.setHinge k x).svc = s.svc := rfl
@[simp] theorem State.setHinge_regs (k : Nat) (x : Hinge) : (s.setHinge k x).regs = s.regs := rfl
@[simp] theorem State.setHinge_parity (k : Nat) (x : Hinge) : (s.setHinge k x).parity = s.parity := rfl
@[simp] theorem State.setHinge_mt (k : Nat) (x : Hinge) : (s.setHinge k x).mt = s.mt := rfl
@[simp] theorem State.setHinge_mode (k : Nat) (x : Hinge) : (s.setHinge k x).mode = s.mode := rfl
@[simp] theorem State.setHinge_err (k : Nat) (x : Hinge) : (s.setHinge k x).err = s.err := rfl
@[simp] theorem State.setHinge_hv (k : Nat) (x : Hinge) : (s.setHinge k x).hv = s.hv := rfl
@[simp] theorem State.setHinge_sl (k : Nat) (x : Hinge) : (s.setHinge k x).sl = s.sl := rfl
@[simp] theorem State.setHinge_ru (k : Nat) (x : Hinge) : (s.setHinge k x).ru = s.ru := rfl
@[simp] theorem State.setHinge_img (k : Nat) (x : Hinge) : (s.setHinge k x).img = s.img := rfl
@[simp] theorem State.setHinge_fab (k : Nat) (x : Hinge) : (s.setHinge k x).fab = s.fab := rfl
@[simp] theorem State.setHinge_pans (k : Nat) (x : Hinge) : (s.setHinge k x).pans = s.pans := rfl
@[simp] theorem State.setHinge_beds (k : Nat) (x : Hinge) : (s.setHinge k x).beds = s.beds := rfl
@[simp] theorem State.setHinge_knuckles (k : Nat) (x : Hinge) : (s.setHinge k x).knuckles = s.knuckles := rfl
@[simp] theorem State.setHinge_memports (k : Nat) (x : Hinge) : (s.setHinge k x).memports = s.memports := rfl
@[simp] theorem State.setHinge_engines (k : Nat) (x : Hinge) : (s.setHinge k x).engines = s.engines := rfl
@[simp] theorem State.setHinge_pan (k : Nat) (x : Hinge) (p : Nat) : (s.setHinge k x).pan p = s.pan p := rfl
@[simp] theorem State.setHinge_bed (k : Nat) (x : Hinge) (p : Nat) : (s.setHinge k x).bed p = s.bed p := rfl
@[simp] theorem State.setHinge_kn (k : Nat) (x : Hinge) (p : Nat) : (s.setHinge k x).kn p = s.kn p := rfl
@[simp] theorem State.setHinge_mp (k : Nat) (x : Hinge) (p : Nat) : (s.setHinge k x).mp p = s.mp p := rfl
@[simp] theorem State.setHinge_eng (k : Nat) (x : Hinge) (p : Nat) : (s.setHinge k x).eng p = s.eng p := rfl
@[simp] theorem State.setHinge_rv (k : Nat) (x : Hinge) (p : Nat) : (s.setHinge k x).rv p = s.rv p := rfl
@[simp] theorem State.setHinge_now (k : Nat) (x : Hinge) : (s.setHinge k x).now = s.now := rfl
@[simp] theorem State.setHinge_alive (k : Nat) (x : Hinge) : (s.setHinge k x).alive = s.alive := rfl
@[simp] theorem State.setHinge_me (k : Nat) (x : Hinge) : (s.setHinge k x).me = s.me := rfl
@[simp] theorem State.updHinge_pending (k : Nat) (f : Hinge → Hinge) : (s.updHinge k f).pending = s.pending := rfl
@[simp] theorem State.updHinge_freeIx (k : Nat) (f : Hinge → Hinge) : (s.updHinge k f).freeIx = s.freeIx := rfl
@[simp] theorem State.updHinge_svc (k : Nat) (f : Hinge → Hinge) : (s.updHinge k f).svc = s.svc := rfl
@[simp] theorem State.updHinge_regs (k : Nat) (f : Hinge → Hinge) : (s.updHinge k f).regs = s.regs := rfl
@[simp] theorem State.updHinge_parity (k : Nat) (f : Hinge → Hinge) : (s.updHinge k f).parity = s.parity := rfl
@[simp] theorem State.updHinge_mt (k : Nat) (f : Hinge → Hinge) : (s.updHinge k f).mt = s.mt := rfl
@[simp] theorem State.updHinge_mode (k : Nat) (f : Hinge → Hinge) : (s.updHinge k f).mode = s.mode := rfl
@[simp] theorem State.updHinge_err (k : Nat) (f : Hinge → Hinge) : (s.updHinge k f).err = s.err := rfl
@[simp] theorem State.updHinge_hv (k : Nat) (f : Hinge → Hinge) : (s.updHinge k f).hv = s.hv := rfl
@[simp] theorem State.updHinge_sl (k : Nat) (f : Hinge → Hinge) : (s.updHinge k f).sl = s.sl := rfl
@[simp] theorem State.updHinge_ru (k : Nat) (f : Hinge → Hinge) : (s.updHinge k f).ru = s.ru := rfl
@[simp] theorem State.updHinge_img (k : Nat) (f : Hinge → Hinge) : (s.updHinge k f).img = s.img := rfl
@[simp] theorem State.updHinge_fab (k : Nat) (f : Hinge → Hinge) : (s.updHinge k f).fab = s.fab := rfl
@[simp] theorem State.updHinge_pans (k : Nat) (f : Hinge → Hinge) : (s.updHinge k f).pans = s.pans := rfl
@[simp] theorem State.updHinge_beds (k : Nat) (f : Hinge → Hinge) : (s.updHinge k f).beds = s.beds := rfl
@[simp] theorem State.updHinge_knuckles (k : Nat) (f : Hinge → Hinge) : (s.updHinge k f).knuckles = s.knuckles := rfl
@[simp] theorem State.updHinge_memports (k : Nat) (f : Hinge → Hinge) : (s.updHinge k f).memports = s.memports := rfl
@[simp] theorem State.updHinge_engines (k : Nat) (f : Hinge → Hinge) : (s.updHinge k f).engines = s.engines := rfl
@[simp] theorem State.updHinge_pan (k : Nat) (f : Hinge → Hinge) (p : Nat) : (s.updHinge k f).pan p = s.pan p := rfl
@[simp] theorem State.updHinge_bed (k : Nat) (f : Hinge → Hinge) (p : Nat) : (s.updHinge k f).bed p = s.bed p := rfl
@[simp] theorem State.updHinge_kn (k : Nat) (f : Hinge → Hinge) (p : Nat) : (s.updHinge k f).kn p = s.kn p := rfl
@[simp] theorem State.updHinge_mp (k : Nat) (f : Hinge → Hinge) (p : Nat) : (s.updHinge k f).mp p = s.mp p := rfl
@[simp] theorem State.updHinge_eng (k : Nat) (f : Hinge → Hinge) (p : Nat) : (s.updHinge k f).eng p = s.eng p := rfl
@[simp] theorem State.updHinge_rv (k : Nat) (f : Hinge → Hinge) (p : Nat) : (s.updHinge k f).rv p = s.rv p := rfl
@[simp] theorem State.updHinge_now (k : Nat) (f : Hinge → Hinge) : (s.updHinge k f).now = s.now := rfl
@[simp] theorem State.updHinge_alive (k : Nat) (f : Hinge → Hinge) : (s.updHinge k f).alive = s.alive := rfl
@[simp] theorem State.updHinge_me (k : Nat) (f : Hinge → Hinge) : (s.updHinge k f).me = s.me := rfl
@[simp] theorem State.hinge_setHinge (k : Nat) (x : Hinge) : (s.setHinge k x).hinge k = x := sget_sset_same _ _ _ _
theorem State.hinge_setHinge_ne {p k : Nat} (x : Hinge) (h : p ≠ k) : (s.setHinge k x).hinge p = s.hinge p := sget_sset_ne _ _ _ _ h
@[simp] theorem State.hinge_updHinge (k : Nat) (f : Hinge → Hinge) : (s.updHinge k f).hinge k = f (s.hinge k) := sget_sset_same _ _ _ _
theorem State.hinge_updHinge_ne {p k : Nat} (f : Hinge → Hinge) (h : p ≠ k) : (s.updHinge k f).hinge p = s.hinge p := sget_sset_ne _ _ _ _ h

/-! ### Knuckle -/

@[simp] theorem State.setKn_pending (k : Nat) (x : Knuckle) : (s.setKn k x).pending = s.pending := rfl
@[simp] theorem State.setKn_freeIx (k : Nat) (x : Knuckle) : (s.setKn k x).freeIx = s.freeIx := rfl
@[simp] theorem State.setKn_svc (k : Nat) (x : Knuckle) : (s.setKn k x).svc = s.svc := rfl
@[simp] theorem State.setKn_regs (k : Nat) (x : Knuckle) : (s.setKn k x).regs = s.regs := rfl
@[simp] theorem State.setKn_parity (k : Nat) (x : Knuckle) : (s.setKn k x).parity = s.parity := rfl
@[simp] theorem State.setKn_mt (k : Nat) (x : Knuckle) : (s.setKn k x).mt = s.mt := rfl
@[simp] theorem State.setKn_mode (k : Nat) (x : Knuckle) : (s.setKn k x).mode = s.mode := rfl
@[simp] theorem State.setKn_err (k : Nat) (x : Knuckle) : (s.setKn k x).err = s.err := rfl
@[simp] theorem State.setKn_hv (k : Nat) (x : Knuckle) : (s.setKn k x).hv = s.hv := rfl
@[simp] theorem State.setKn_sl (k : Nat) (x : Knuckle) : (s.setKn k x).sl = s.sl := rfl
@[simp] theorem State.setKn_ru (k : Nat) (x : Knuckle) : (s.setKn k x).ru = s.ru := rfl
@[simp] theorem State.setKn_img (k : Nat) (x : Knuckle) : (s.setKn k x).img = s.img := rfl
@[simp] theorem State.setKn_fab (k : Nat) (x : Knuckle) : (s.setKn k x).fab = s.fab := rfl
@[simp] theorem State.setKn_pans (k : Nat) (x : Knuckle) : (s.setKn k x).pans = s.pans := rfl
@[simp] theorem State.setKn_beds (k : Nat) (x : Knuckle) : (s.setKn k x).beds = s.beds := rfl
@[simp] theorem State.setKn_hinges (k : Nat) (x : Knuckle) : (s.setKn k x).hinges = s.hinges := rfl
@[simp] theorem State.setKn_memports (k : Nat) (x : Knuckle) : (s.setKn k x).memports = s.memports := rfl
@[simp] theorem State.setKn_engines (k : Nat) (x : Knuckle) : (s.setKn k x).engines = s.engines := rfl
@[simp] theorem State.setKn_pan (k : Nat) (x : Knuckle) (p : Nat) : (s.setKn k x).pan p = s.pan p := rfl
@[simp] theorem State.setKn_bed (k : Nat) (x : Knuckle) (p : Nat) : (s.setKn k x).bed p = s.bed p := rfl
@[simp] theorem State.setKn_hinge (k : Nat) (x : Knuckle) (p : Nat) : (s.setKn k x).hinge p = s.hinge p := rfl
@[simp] theorem State.setKn_mp (k : Nat) (x : Knuckle) (p : Nat) : (s.setKn k x).mp p = s.mp p := rfl
@[simp] theorem State.setKn_eng (k : Nat) (x : Knuckle) (p : Nat) : (s.setKn k x).eng p = s.eng p := rfl
@[simp] theorem State.setKn_rv (k : Nat) (x : Knuckle) (p : Nat) : (s.setKn k x).rv p = s.rv p := rfl
@[simp] theorem State.setKn_now (k : Nat) (x : Knuckle) : (s.setKn k x).now = s.now := rfl
@[simp] theorem State.setKn_alive (k : Nat) (x : Knuckle) : (s.setKn k x).alive = s.alive := rfl
@[simp] theorem State.setKn_me (k : Nat) (x : Knuckle) : (s.setKn k x).me = s.me := rfl
@[simp] theorem State.updKn_pending (k : Nat) (f : Knuckle → Knuckle) : (s.updKn k f).pending = s.pending := rfl
@[simp] theorem State.updKn_freeIx (k : Nat) (f : Knuckle → Knuckle) : (s.updKn k f).freeIx = s.freeIx := rfl
@[simp] theorem State.updKn_svc (k : Nat) (f : Knuckle → Knuckle) : (s.updKn k f).svc = s.svc := rfl
@[simp] theorem State.updKn_regs (k : Nat) (f : Knuckle → Knuckle) : (s.updKn k f).regs = s.regs := rfl
@[simp] theorem State.updKn_parity (k : Nat) (f : Knuckle → Knuckle) : (s.updKn k f).parity = s.parity := rfl
@[simp] theorem State.updKn_mt (k : Nat) (f : Knuckle → Knuckle) : (s.updKn k f).mt = s.mt := rfl
@[simp] theorem State.updKn_mode (k : Nat) (f : Knuckle → Knuckle) : (s.updKn k f).mode = s.mode := rfl
@[simp] theorem State.updKn_err (k : Nat) (f : Knuckle → Knuckle) : (s.updKn k f).err = s.err := rfl
@[simp] theorem State.updKn_hv (k : Nat) (f : Knuckle → Knuckle) : (s.updKn k f).hv = s.hv := rfl
@[simp] theorem State.updKn_sl (k : Nat) (f : Knuckle → Knuckle) : (s.updKn k f).sl = s.sl := rfl
@[simp] theorem State.updKn_ru (k : Nat) (f : Knuckle → Knuckle) : (s.updKn k f).ru = s.ru := rfl
@[simp] theorem State.updKn_img (k : Nat) (f : Knuckle → Knuckle) : (s.updKn k f).img = s.img := rfl
@[simp] theorem State.updKn_fab (k : Nat) (f : Knuckle → Knuckle) : (s.updKn k f).fab = s.fab := rfl
@[simp] theorem State.updKn_pans (k : Nat) (f : Knuckle → Knuckle) : (s.updKn k f).pans = s.pans := rfl
@[simp] theorem State.updKn_beds (k : Nat) (f : Knuckle → Knuckle) : (s.updKn k f).beds = s.beds := rfl
@[simp] theorem State.updKn_hinges (k : Nat) (f : Knuckle → Knuckle) : (s.updKn k f).hinges = s.hinges := rfl
@[simp] theorem State.updKn_memports (k : Nat) (f : Knuckle → Knuckle) : (s.updKn k f).memports = s.memports := rfl
@[simp] theorem State.updKn_engines (k : Nat) (f : Knuckle → Knuckle) : (s.updKn k f).engines = s.engines := rfl
@[simp] theorem State.updKn_pan (k : Nat) (f : Knuckle → Knuckle) (p : Nat) : (s.updKn k f).pan p = s.pan p := rfl
@[simp] theorem State.updKn_bed (k : Nat) (f : Knuckle → Knuckle) (p : Nat) : (s.updKn k f).bed p = s.bed p := rfl
@[simp] theorem State.updKn_hinge (k : Nat) (f : Knuckle → Knuckle) (p : Nat) : (s.updKn k f).hinge p = s.hinge p := rfl
@[simp] theorem State.updKn_mp (k : Nat) (f : Knuckle → Knuckle) (p : Nat) : (s.updKn k f).mp p = s.mp p := rfl
@[simp] theorem State.updKn_eng (k : Nat) (f : Knuckle → Knuckle) (p : Nat) : (s.updKn k f).eng p = s.eng p := rfl
@[simp] theorem State.updKn_rv (k : Nat) (f : Knuckle → Knuckle) (p : Nat) : (s.updKn k f).rv p = s.rv p := rfl
@[simp] theorem State.updKn_now (k : Nat) (f : Knuckle → Knuckle) : (s.updKn k f).now = s.now := rfl
@[simp] theorem State.updKn_alive (k : Nat) (f : Knuckle → Knuckle) : (s.updKn k f).alive = s.alive := rfl
@[simp] theorem State.updKn_me (k : Nat) (f : Knuckle → Knuckle) : (s.updKn k f).me = s.me := rfl
@[simp] theorem State.kn_setKn (k : Nat) (x : Knuckle) : (s.setKn k x).kn k = x := sget_sset_same _ _ _ _
theorem State.kn_setKn_ne {p k : Nat} (x : Knuckle) (h : p ≠ k) : (s.setKn k x).kn p = s.kn p := sget_sset_ne _ _ _ _ h
@[simp] theorem State.kn_updKn (k : Nat) (f : Knuckle → Knuckle) : (s.updKn k f).kn k = f (s.kn k) := sget_sset_same _ _ _ _
theorem State.kn_updKn_ne {p k : Nat} (f : Knuckle → Knuckle) (h : p ≠ k) : (s.updKn k f).kn p = s.kn p := sget_sset_ne _ _ _ _ h

/-! ### MemPort -/

@[simp] theorem State.setMp_pending (k : Nat) (x : MemPort) : (s.setMp k x).pending = s.pending := rfl
@[simp] theorem State.setMp_freeIx (k : Nat) (x : MemPort) : (s.setMp k x).freeIx = s.freeIx := rfl
@[simp] theorem State.setMp_svc (k : Nat) (x : MemPort) : (s.setMp k x).svc = s.svc := rfl
@[simp] theorem State.setMp_regs (k : Nat) (x : MemPort) : (s.setMp k x).regs = s.regs := rfl
@[simp] theorem State.setMp_parity (k : Nat) (x : MemPort) : (s.setMp k x).parity = s.parity := rfl
@[simp] theorem State.setMp_mt (k : Nat) (x : MemPort) : (s.setMp k x).mt = s.mt := rfl
@[simp] theorem State.setMp_mode (k : Nat) (x : MemPort) : (s.setMp k x).mode = s.mode := rfl
@[simp] theorem State.setMp_err (k : Nat) (x : MemPort) : (s.setMp k x).err = s.err := rfl
@[simp] theorem State.setMp_hv (k : Nat) (x : MemPort) : (s.setMp k x).hv = s.hv := rfl
@[simp] theorem State.setMp_sl (k : Nat) (x : MemPort) : (s.setMp k x).sl = s.sl := rfl
@[simp] theorem State.setMp_ru (k : Nat) (x : MemPort) : (s.setMp k x).ru = s.ru := rfl
@[simp] theorem State.setMp_img (k : Nat) (x : MemPort) : (s.setMp k x).img = s.img := rfl
@[simp] theorem State.setMp_fab (k : Nat) (x : MemPort) : (s.setMp k x).fab = s.fab := rfl
@[simp] theorem State.setMp_pans (k : Nat) (x : MemPort) : (s.setMp k x).pans = s.pans := rfl
@[simp] theorem State.setMp_beds (k : Nat) (x : MemPort) : (s.setMp k x).beds = s.beds := rfl
@[simp] theorem State.setMp_hinges (k : Nat) (x : MemPort) : (s.setMp k x).hinges = s.hinges := rfl
@[simp] theorem State.setMp_knuckles (k : Nat) (x : MemPort) : (s.setMp k x).knuckles = s.knuckles := rfl
@[simp] theorem State.setMp_engines (k : Nat) (x : MemPort) : (s.setMp k x).engines = s.engines := rfl
@[simp] theorem State.setMp_pan (k : Nat) (x : MemPort) (p : Nat) : (s.setMp k x).pan p = s.pan p := rfl
@[simp] theorem State.setMp_bed (k : Nat) (x : MemPort) (p : Nat) : (s.setMp k x).bed p = s.bed p := rfl
@[simp] theorem State.setMp_hinge (k : Nat) (x : MemPort) (p : Nat) : (s.setMp k x).hinge p = s.hinge p := rfl
@[simp] theorem State.setMp_kn (k : Nat) (x : MemPort) (p : Nat) : (s.setMp k x).kn p = s.kn p := rfl
@[simp] theorem State.setMp_eng (k : Nat) (x : MemPort) (p : Nat) : (s.setMp k x).eng p = s.eng p := rfl
@[simp] theorem State.setMp_rv (k : Nat) (x : MemPort) (p : Nat) : (s.setMp k x).rv p = s.rv p := rfl
@[simp] theorem State.setMp_now (k : Nat) (x : MemPort) : (s.setMp k x).now = s.now := rfl
@[simp] theorem State.setMp_alive (k : Nat) (x : MemPort) : (s.setMp k x).alive = s.alive := rfl
@[simp] theorem State.setMp_me (k : Nat) (x : MemPort) : (s.setMp k x).me = s.me := rfl
@[simp] theorem State.updMp_pending (k : Nat) (f : MemPort → MemPort) : (s.updMp k f).pending = s.pending := rfl
@[simp] theorem State.updMp_freeIx (k : Nat) (f : MemPort → MemPort) : (s.updMp k f).freeIx = s.freeIx := rfl
@[simp] theorem State.updMp_svc (k : Nat) (f : MemPort → MemPort) : (s.updMp k f).svc = s.svc := rfl
@[simp] theorem State.updMp_regs (k : Nat) (f : MemPort → MemPort) : (s.updMp k f).regs = s.regs := rfl
@[simp] theorem State.updMp_parity (k : Nat) (f : MemPort → MemPort) : (s.updMp k f).parity = s.parity := rfl
@[simp] theorem State.updMp_mt (k : Nat) (f : MemPort → MemPort) : (s.updMp k f).mt = s.mt := rfl
@[simp] theorem State.updMp_mode (k : Nat) (f : MemPort → MemPort) : (s.updMp k f).mode = s.mode := rfl
@[simp] theorem State.updMp_err (k : Nat) (f : MemPort → MemPort) : (s.updMp k f).err = s.err := rfl
@[simp] theorem State.updMp_hv (k : Nat) (f : MemPort → MemPort) : (s.updMp k f).hv = s.hv := rfl
@[simp] theorem State.updMp_sl (k : Nat) (f : MemPort → MemPort) : (s.updMp k f).sl = s.sl := rfl
@[simp] theorem State.updMp_ru (k : Nat) (f : MemPort → MemPort) : (s.updMp k f).ru = s.ru := rfl
@[simp] theorem State.updMp_img (k : Nat) (f : MemPort → MemPort) : (s.updMp k f).img = s.img := rfl
@[simp] theorem State.updMp_fab (k : Nat) (f : MemPort → MemPort) : (s.updMp k f).fab = s.fab := rfl
@[simp] theorem State.updMp_pans (k : Nat) (f : MemPort → MemPort) : (s.updMp k f).pans = s.pans := rfl
@[simp] theorem State.updMp_beds (k : Nat) (f : MemPort → MemPort) : (s.updMp k f).beds = s.beds := rfl
@[simp] theorem State.updMp_hinges (k : Nat) (f : MemPort → MemPort) : (s.updMp k f).hinges = s.hinges := rfl
@[simp] theorem State.updMp_knuckles (k : Nat) (f : MemPort → MemPort) : (s.updMp k f).knuckles = s.knuckles := rfl
@[simp] theorem State.updMp_engines (k : Nat) (f : MemPort → MemPort) : (s.updMp k f).engines = s.engines := rfl
@[simp] theorem State.updMp_pan (k : Nat) (f : MemPort → MemPort) (p : Nat) : (s.updMp k f).pan p = s.pan p := rfl
@[simp] theorem State.updMp_bed (k : Nat) (f : MemPort → MemPort) (p : Nat) : (s.updMp k f).bed p = s.bed p := rfl
@[simp] theorem State.updMp_hinge (k : Nat) (f : MemPort → MemPort) (p : Nat) : (s.updMp k f).hinge p = s.hinge p := rfl
@[simp] theorem State.updMp_kn (k : Nat) (f : MemPort → MemPort) (p : Nat) : (s.updMp k f).kn p = s.kn p := rfl
@[simp] theorem State.updMp_eng (k : Nat) (f : MemPort → MemPort) (p : Nat) : (s.updMp k f).eng p = s.eng p := rfl
@[simp] theorem State.updMp_rv (k : Nat) (f : MemPort → MemPort) (p : Nat) : (s.updMp k f).rv p = s.rv p := rfl
@[simp] theorem State.updMp_now (k : Nat) (f : MemPort → MemPort) : (s.updMp k f).now = s.now := rfl
@[simp] theorem State.updMp_alive (k : Nat) (f : MemPort → MemPort) : (s.updMp k f).alive = s.alive := rfl
@[simp] theorem State.updMp_me (k : Nat) (f : MemPort → MemPort) : (s.updMp k f).me = s.me := rfl
@[simp] theorem State.mp_setMp (k : Nat) (x : MemPort) : (s.setMp k x).mp k = x := sget_sset_same _ _ _ _
theorem State.mp_setMp_ne {p k : Nat} (x : MemPort) (h : p ≠ k) : (s.setMp k x).mp p = s.mp p := sget_sset_ne _ _ _ _ h
@[simp] theorem State.mp_updMp (k : Nat) (f : MemPort → MemPort) : (s.updMp k f).mp k = f (s.mp k) := sget_sset_same _ _ _ _
theorem State.mp_updMp_ne {p k : Nat} (f : MemPort → MemPort) (h : p ≠ k) : (s.updMp k f).mp p = s.mp p := sget_sset_ne _ _ _ _ h

/-! ### Engine -/

@[simp] theorem State.setEng_pending (k : Nat) (x : Engine) : (s.setEng k x).pending = s.pending := rfl
@[simp] theorem State.setEng_freeIx (k : Nat) (x : Engine) : (s.setEng k x).freeIx = s.freeIx := rfl
@[simp] theorem State.setEng_svc (k : Nat) (x : Engine) : (s.setEng k x).svc = s.svc := rfl
@[simp] theorem State.setEng_regs (k : Nat) (x : Engine) : (s.setEng k x).regs = s.regs := rfl
@[simp] theorem State.setEng_parity (k : Nat) (x : Engine) : (s.setEng k x).parity = s.parity := rfl
@[simp] theorem State.setEng_mt (k : Nat) (x : Engine) : (s.setEng k x).mt = s.mt := rfl
@[simp] theorem State.setEng_mode (k : Nat) (x : Engine) : (s.setEng k x).mode = s.mode := rfl
@[simp] theorem State.setEng_err (k : Nat) (x : Engine) : (s.setEng k x).err = s.err := rfl
@[simp] theorem State.setEng_hv (k : Nat) (x : Engine) : (s.setEng k x).hv = s.hv := rfl
@[simp] theorem State.setEng_sl (k : Nat) (x : Engine) : (s.setEng k x).sl = s.sl := rfl
@[simp] theorem State.setEng_ru (k : Nat) (x : Engine) : (s.setEng k x).ru = s.ru := rfl
@[simp] theorem State.setEng_img (k : Nat) (x : Engine) : (s.setEng k x).img = s.img := rfl
@[simp] theorem State.setEng_fab (k : Nat) (x : Engine) : (s.setEng k x).fab = s.fab := rfl
@[simp] theorem State.setEng_pans (k : Nat) (x : Engine) : (s.setEng k x).pans = s.pans := rfl
@[simp] theorem State.setEng_beds (k : Nat) (x : Engine) : (s.setEng k x).beds = s.beds := rfl
@[simp] theorem State.setEng_hinges (k : Nat) (x : Engine) : (s.setEng k x).hinges = s.hinges := rfl
@[simp] theorem State.setEng_knuckles (k : Nat) (x : Engine) : (s.setEng k x).knuckles = s.knuckles := rfl
@[simp] theorem State.setEng_memports (k : Nat) (x : Engine) : (s.setEng k x).memports = s.memports := rfl
@[simp] theorem State.setEng_pan (k : Nat) (x : Engine) (p : Nat) : (s.setEng k x).pan p = s.pan p := rfl
@[simp] theorem State.setEng_bed (k : Nat) (x : Engine) (p : Nat) : (s.setEng k x).bed p = s.bed p := rfl
@[simp] theorem State.setEng_hinge (k : Nat) (x : Engine) (p : Nat) : (s.setEng k x).hinge p = s.hinge p := rfl
@[simp] theorem State.setEng_kn (k : Nat) (x : Engine) (p : Nat) : (s.setEng k x).kn p = s.kn p := rfl
@[simp] theorem State.setEng_mp (k : Nat) (x : Engine) (p : Nat) : (s.setEng k x).mp p = s.mp p := rfl
@[simp] theorem State.setEng_rv (k : Nat) (x : Engine) (p : Nat) : (s.setEng k x).rv p = s.rv p := rfl
@[simp] theorem State.setEng_now (k : Nat) (x : Engine) : (s.setEng k x).now = s.now := rfl
@[simp] theorem State.setEng_alive (k : Nat) (x : Engine) : (s.setEng k x).alive = s.alive := rfl
@[simp] theorem State.setEng_me (k : Nat) (x : Engine) : (s.setEng k x).me = s.me := rfl
@[simp] theorem State.updEng_pending (k : Nat) (f : Engine → Engine) : (s.updEng k f).pending = s.pending := rfl
@[simp] theorem State.updEng_freeIx (k : Nat) (f : Engine → Engine) : (s.updEng k f).freeIx = s.freeIx := rfl
@[simp] theorem State.updEng_svc (k : Nat) (f : Engine → Engine) : (s.updEng k f).svc = s.svc := rfl
@[simp] theorem State.updEng_regs (k : Nat) (f : Engine → Engine) : (s.updEng k f).regs = s.regs := rfl
@[simp] theorem State.updEng_parity (k : Nat) (f : Engine → Engine) : (s.updEng k f).parity = s.parity := rfl
@[simp] theorem State.updEng_mt (k : Nat) (f : Engine → Engine) : (s.updEng k f).mt = s.mt := rfl
@[simp] theorem State.updEng_mode (k : Nat) (f : Engine → Engine) : (s.updEng k f).mode = s.mode := rfl
@[simp] theorem State.updEng_err (k : Nat) (f : Engine → Engine) : (s.updEng k f).err = s.err := rfl
@[simp] theorem State.updEng_hv (k : Nat) (f : Engine → Engine) : (s.updEng k f).hv = s.hv := rfl
@[simp] theorem State.updEng_sl (k : Nat) (f : Engine → Engine) : (s.updEng k f).sl = s.sl := rfl
@[simp] theorem State.updEng_ru (k : Nat) (f : Engine → Engine) : (s.updEng k f).ru = s.ru := rfl
@[simp] theorem State.updEng_img (k : Nat) (f : Engine → Engine) : (s.updEng k f).img = s.img := rfl
@[simp] theorem State.updEng_fab (k : Nat) (f : Engine → Engine) : (s.updEng k f).fab = s.fab := rfl
@[simp] theorem State.updEng_pans (k : Nat) (f : Engine → Engine) : (s.updEng k f).pans = s.pans := rfl
@[simp] theorem State.updEng_beds (k : Nat) (f : Engine → Engine) : (s.updEng k f).beds = s.beds := rfl
@[simp] theorem State.updEng_hinges (k : Nat) (f : Engine → Engine) : (s.updEng k f).hinges = s.hinges := rfl
@[simp] theorem State.updEng_knuckles (k : Nat) (f : Engine → Engine) : (s.updEng k f).knuckles = s.knuckles := rfl
@[simp] theorem State.updEng_memports (k : Nat) (f : Engine → Engine) : (s.updEng k f).memports = s.memports := rfl
@[simp] theorem State.updEng_pan (k : Nat) (f : Engine → Engine) (p : Nat) : (s.updEng k f).pan p = s.pan p := rfl
@[simp] theorem State.updEng_bed (k : Nat) (f : Engine → Engine) (p : Nat) : (s.updEng k f).bed p = s.bed p := rfl
@[simp] theorem State.updEng_hinge (k : Nat) (f : Engine → Engine) (p : Nat) : (s.updEng k f).hinge p = s.hinge p := rfl
@[simp] theorem State.updEng_kn (k : Nat) (f : Engine → Engine) (p : Nat) : (s.updEng k f).kn p = s.kn p := rfl
@[simp] theorem State.updEng_mp (k : Nat) (f : Engine → Engine) (p : Nat) : (s.updEng k f).mp p = s.mp p := rfl
@[simp] theorem State.updEng_rv (k : Nat) (f : Engine → Engine) (p : Nat) : (s.updEng k f).rv p = s.rv p := rfl
@[simp] theorem State.updEng_now (k : Nat) (f : Engine → Engine) : (s.updEng k f).now = s.now := rfl
@[simp] theorem State.updEng_alive (k : Nat) (f : Engine → Engine) : (s.updEng k f).alive = s.alive := rfl
@[simp] theorem State.updEng_me (k : Nat) (f : Engine → Engine) : (s.updEng k f).me = s.me := rfl
@[simp] theorem State.eng_setEng (k : Nat) (x : Engine) : (s.setEng k x).eng k = x := sget_sset_same _ _ _ _
theorem State.eng_setEng_ne {p k : Nat} (x : Engine) (h : p ≠ k) : (s.setEng k x).eng p = s.eng p := sget_sset_ne _ _ _ _ h
@[simp] theorem State.eng_updEng (k : Nat) (f : Engine → Engine) : (s.updEng k f).eng k = f (s.eng k) := sget_sset_same _ _ _ _
theorem State.eng_updEng_ne {p k : Nat} (f : Engine → Engine) (h : p ≠ k) : (s.updEng k f).eng p = s.eng p := sget_sset_ne _ _ _ _ h

/-! ### Stored register values -/

@[simp] theorem State.setReg_pending (o v : Nat) : (s.setReg o v).pending = s.pending := rfl
@[simp] theorem State.setReg_freeIx (o v : Nat) : (s.setReg o v).freeIx = s.freeIx := rfl
@[simp] theorem State.setReg_svc (o v : Nat) : (s.setReg o v).svc = s.svc := rfl
@[simp] theorem State.setReg_mt (o v : Nat) : (s.setReg o v).mt = s.mt := rfl
@[simp] theorem State.setReg_mode (o v : Nat) : (s.setReg o v).mode = s.mode := rfl
@[simp] theorem State.setReg_err (o v : Nat) : (s.setReg o v).err = s.err := rfl
@[simp] theorem State.setReg_hv (o v : Nat) : (s.setReg o v).hv = s.hv := rfl
@[simp] theorem State.setReg_sl (o v : Nat) : (s.setReg o v).sl = s.sl := rfl
@[simp] theorem State.setReg_ru (o v : Nat) : (s.setReg o v).ru = s.ru := rfl
@[simp] theorem State.setReg_img (o v : Nat) : (s.setReg o v).img = s.img := rfl
@[simp] theorem State.setReg_fab (o v : Nat) : (s.setReg o v).fab = s.fab := rfl
@[simp] theorem State.setReg_pans (o v : Nat) : (s.setReg o v).pans = s.pans := rfl
@[simp] theorem State.setReg_beds (o v : Nat) : (s.setReg o v).beds = s.beds := rfl
@[simp] theorem State.setReg_hinges (o v : Nat) : (s.setReg o v).hinges = s.hinges := rfl
@[simp] theorem State.setReg_knuckles (o v : Nat) : (s.setReg o v).knuckles = s.knuckles := rfl
@[simp] theorem State.setReg_memports (o v : Nat) : (s.setReg o v).memports = s.memports := rfl
@[simp] theorem State.setReg_engines (o v : Nat) : (s.setReg o v).engines = s.engines := rfl
@[simp] theorem State.setReg_pan (o v : Nat) (p : Nat) : (s.setReg o v).pan p = s.pan p := rfl
@[simp] theorem State.setReg_bed (o v : Nat) (p : Nat) : (s.setReg o v).bed p = s.bed p := rfl
@[simp] theorem State.setReg_hinge (o v : Nat) (p : Nat) : (s.setReg o v).hinge p = s.hinge p := rfl
@[simp] theorem State.setReg_kn (o v : Nat) (p : Nat) : (s.setReg o v).kn p = s.kn p := rfl
@[simp] theorem State.setReg_mp (o v : Nat) (p : Nat) : (s.setReg o v).mp p = s.mp p := rfl
@[simp] theorem State.setReg_eng (o v : Nat) (p : Nat) : (s.setReg o v).eng p = s.eng p := rfl
@[simp] theorem State.setReg_now (o v : Nat) : (s.setReg o v).now = s.now := rfl
@[simp] theorem State.setReg_alive (o v : Nat) : (s.setReg o v).alive = s.alive := rfl
@[simp] theorem State.setReg_me (o v : Nat) : (s.setReg o v).me = s.me := rfl
@[simp] theorem State.setRf_pending (o hi lo x : Nat) : (s.setRf o hi lo x).pending = s.pending := rfl
@[simp] theorem State.setRf_freeIx (o hi lo x : Nat) : (s.setRf o hi lo x).freeIx = s.freeIx := rfl
@[simp] theorem State.setRf_svc (o hi lo x : Nat) : (s.setRf o hi lo x).svc = s.svc := rfl
@[simp] theorem State.setRf_mt (o hi lo x : Nat) : (s.setRf o hi lo x).mt = s.mt := rfl
@[simp] theorem State.setRf_mode (o hi lo x : Nat) : (s.setRf o hi lo x).mode = s.mode := rfl
@[simp] theorem State.setRf_err (o hi lo x : Nat) : (s.setRf o hi lo x).err = s.err := rfl
@[simp] theorem State.setRf_hv (o hi lo x : Nat) : (s.setRf o hi lo x).hv = s.hv := rfl
@[simp] theorem State.setRf_sl (o hi lo x : Nat) : (s.setRf o hi lo x).sl = s.sl := rfl
@[simp] theorem State.setRf_ru (o hi lo x : Nat) : (s.setRf o hi lo x).ru = s.ru := rfl
@[simp] theorem State.setRf_img (o hi lo x : Nat) : (s.setRf o hi lo x).img = s.img := rfl
@[simp] theorem State.setRf_fab (o hi lo x : Nat) : (s.setRf o hi lo x).fab = s.fab := rfl
@[simp] theorem State.setRf_pans (o hi lo x : Nat) : (s.setRf o hi lo x).pans = s.pans := rfl
@[simp] theorem State.setRf_beds (o hi lo x : Nat) : (s.setRf o hi lo x).beds = s.beds := rfl
@[simp] theorem State.setRf_hinges (o hi lo x : Nat) : (s.setRf o hi lo x).hinges = s.hinges := rfl
@[simp] theorem State.setRf_knuckles (o hi lo x : Nat) : (s.setRf o hi lo x).knuckles = s.knuckles := rfl
@[simp] theorem State.setRf_memports (o hi lo x : Nat) : (s.setRf o hi lo x).memports = s.memports := rfl
@[simp] theorem State.setRf_engines (o hi lo x : Nat) : (s.setRf o hi lo x).engines = s.engines := rfl
@[simp] theorem State.setRf_pan (o hi lo x : Nat) (p : Nat) : (s.setRf o hi lo x).pan p = s.pan p := rfl
@[simp] theorem State.setRf_bed (o hi lo x : Nat) (p : Nat) : (s.setRf o hi lo x).bed p = s.bed p := rfl
@[simp] theorem State.setRf_hinge (o hi lo x : Nat) (p : Nat) : (s.setRf o hi lo x).hinge p = s.hinge p := rfl
@[simp] theorem State.setRf_kn (o hi lo x : Nat) (p : Nat) : (s.setRf o hi lo x).kn p = s.kn p := rfl
@[simp] theorem State.setRf_mp (o hi lo x : Nat) (p : Nat) : (s.setRf o hi lo x).mp p = s.mp p := rfl
@[simp] theorem State.setRf_eng (o hi lo x : Nat) (p : Nat) : (s.setRf o hi lo x).eng p = s.eng p := rfl
@[simp] theorem State.setRf_now (o hi lo x : Nat) : (s.setRf o hi lo x).now = s.now := rfl
@[simp] theorem State.setRf_alive (o hi lo x : Nat) : (s.setRf o hi lo x).alive = s.alive := rfl
@[simp] theorem State.setRf_me (o hi lo x : Nat) : (s.setRf o hi lo x).me = s.me := rfl

/-- The stored bits after a write are what was written, and agree with their parity bit (R464). -/
@[simp] theorem State.raw_setReg (o v : Nat) : (s.setReg o v).raw o = v % 2 ^ 64 := by
  simp [State.raw, State.setReg]
@[simp] theorem State.parityOk_setReg (o v : Nat) : (s.setReg o v).parityOk o = true := by
  simp [State.parityOk, State.raw, State.setReg]

/-- A write of one register leaves the stored bits and the parity of every other as they were. -/
theorem State.raw_setReg_ne {o p : Nat} (v : Nat) (h : p ≠ o) : (s.setReg o v).raw p = s.raw p := by
  simp [State.raw, State.setReg, sget_sset_ne _ _ _ _ h]
theorem State.parityOk_setReg_ne {o p : Nat} (v : Nat) (h : p ≠ o) : (s.setReg o v).parityOk p = s.parityOk p := by
  simp [State.parityOk, State.raw, State.setReg, sget_sset_ne _ _ _ _ h]

/-- A register reads what was written to it. -/
@[simp] theorem State.rv_setReg (o v : Nat) : (s.setReg o v).rv o = v % 2 ^ 64 := by
  simp [State.rv]

/-- A write of one register leaves every other as it was. -/
theorem State.rv_setReg_ne {o p : Nat} (v : Nat) (h : p ≠ o) : (s.setReg o v).rv p = s.rv p := by
  simp [State.rv, State.raw_setReg_ne s v h, State.parityOk_setReg_ne s v h]

/-! ### Counters -/

@[simp] theorem State.count_pending (u e n : Nat) : (s.count u e n).pending = s.pending := by unfold State.count; dsimp only; split <;> rfl
@[simp] theorem State.count_freeIx (u e n : Nat) : (s.count u e n).freeIx = s.freeIx := by unfold State.count; dsimp only; split <;> rfl
@[simp] theorem State.count_svc (u e n : Nat) : (s.count u e n).svc = s.svc := by unfold State.count; dsimp only; split <;> rfl
@[simp] theorem State.count_regs (u e n : Nat) : (s.count u e n).regs = s.regs := by unfold State.count; dsimp only; split <;> rfl
@[simp] theorem State.count_parity (u e n : Nat) : (s.count u e n).parity = s.parity := by unfold State.count; dsimp only; split <;> rfl
@[simp] theorem State.count_mt (u e n : Nat) : (s.count u e n).mt = s.mt := by unfold State.count; dsimp only; split <;> rfl
@[simp] theorem State.count_mode (u e n : Nat) : (s.count u e n).mode = s.mode := by unfold State.count; dsimp only; split <;> rfl
@[simp] theorem State.count_err (u e n : Nat) : (s.count u e n).err = s.err := by unfold State.count; dsimp only; split <;> rfl
@[simp] theorem State.count_sl (u e n : Nat) : (s.count u e n).sl = s.sl := by unfold State.count; dsimp only; split <;> rfl
@[simp] theorem State.count_ru (u e n : Nat) : (s.count u e n).ru = s.ru := by unfold State.count; dsimp only; split <;> rfl
@[simp] theorem State.count_img (u e n : Nat) : (s.count u e n).img = s.img := by unfold State.count; dsimp only; split <;> rfl
@[simp] theorem State.count_fab (u e n : Nat) : (s.count u e n).fab = s.fab := by unfold State.count; dsimp only; split <;> rfl
@[simp] theorem State.count_pans (u e n : Nat) : (s.count u e n).pans = s.pans := by unfold State.count; dsimp only; split <;> rfl
@[simp] theorem State.count_beds (u e n : Nat) : (s.count u e n).beds = s.beds := by unfold State.count; dsimp only; split <;> rfl
@[simp] theorem State.count_hinges (u e n : Nat) : (s.count u e n).hinges = s.hinges := by unfold State.count; dsimp only; split <;> rfl
@[simp] theorem State.count_knuckles (u e n : Nat) : (s.count u e n).knuckles = s.knuckles := by unfold State.count; dsimp only; split <;> rfl
@[simp] theorem State.count_memports (u e n : Nat) : (s.count u e n).memports = s.memports := by unfold State.count; dsimp only; split <;> rfl
@[simp] theorem State.count_engines (u e n : Nat) : (s.count u e n).engines = s.engines := by unfold State.count; dsimp only; split <;> rfl
@[simp] theorem State.count_pan (u e n : Nat) (p : Nat) : (s.count u e n).pan p = s.pan p := by unfold State.count; dsimp only; split <;> rfl
@[simp] theorem State.count_bed (u e n : Nat) (p : Nat) : (s.count u e n).bed p = s.bed p := by unfold State.count; dsimp only; split <;> rfl
@[simp] theorem State.count_hinge (u e n : Nat) (p : Nat) : (s.count u e n).hinge p = s.hinge p := by unfold State.count; dsimp only; split <;> rfl
@[simp] theorem State.count_kn (u e n : Nat) (p : Nat) : (s.count u e n).kn p = s.kn p := by unfold State.count; dsimp only; split <;> rfl
@[simp] theorem State.count_mp (u e n : Nat) (p : Nat) : (s.count u e n).mp p = s.mp p := by unfold State.count; dsimp only; split <;> rfl
@[simp] theorem State.count_eng (u e n : Nat) (p : Nat) : (s.count u e n).eng p = s.eng p := by unfold State.count; dsimp only; split <;> rfl
@[simp] theorem State.count_rv (u e n : Nat) (p : Nat) : (s.count u e n).rv p = s.rv p := by unfold State.count; dsimp only; split <;> rfl
@[simp] theorem State.count_now (u e n : Nat) : (s.count u e n).now = s.now := by unfold State.count; dsimp only; split <;> rfl
@[simp] theorem State.count_alive (u e n : Nat) : (s.count u e n).alive = s.alive := by unfold State.count; dsimp only; split <;> rfl
@[simp] theorem State.count_me (u e n : Nat) : (s.count u e n).me = s.me := by unfold State.count; dsimp only; split <;> rfl

/-- A counter read after it has counted: the sum modulo 2^48. -/
theorem State.count_cnt (u e n : Nat) :
    sget (s.count u e n).hv.cnt (u * 512 + e) 0 = if sget s.hv.cnt (u * 512 + e) 0 + n < 2 ^ 48 then sget s.hv.cnt (u * 512 + e) 0 + n
      else (sget s.hv.cnt (u * 512 + e) 0 + n) % 2 ^ 48 := by
  unfold State.count
  dsimp only
  split <;> simp

/-- Counting leaves every other counter as it was. -/
theorem State.count_cnt_ne {u e k : Nat} (n : Nat) (h : k ≠ u * 512 + e) :
    sget (s.count u e n).hv.cnt k 0 = sget s.hv.cnt k 0 := by
  unfold State.count
  dsimp only
  split <;> simp [sget_sset_ne _ _ _ _ h]

end Sys2Proof.Machine
end

