-- ==== Sys2Proof/Laws/Held.lean ====
section
/-! SUPPORT. What every shared operation keeps: the queue, the straps, and that KEY_SET agrees with the key registers written
(R22, R481). One lemma for each operation. -/

set_option linter.unusedSimpArgs false
set_option linter.unusedVariables false

namespace Sys2Proof.Machine

/-- What no operation but a reset, a strap sample or a key write changes. -/
structure Held where
  pending : List Instr
  devid : Nat
  head : Bool
  keyOk : Bool
  deriving DecidableEq

/-- KEY_SET says that all four key registers have been written (R481). -/
def State.keyOk (s : State) : Bool := s.img.keySet == (s.img.keyWritten == 15)

/-- The part of a state that only resets, strap samples and key writes change. -/
def State.held (s : State) : Held := ⟨s.pending, s.mode.devid, s.mode.head, s.img.keySet == (s.img.keyWritten == 15)⟩

@[simp] theorem held_mk (a b c d e f g h i j k l m n o p q r t u) :
    State.held ⟨a, b, c, d, e, f, g, h, i, j, k, l, m, n, o, p, q, r, t, u⟩ =
      ⟨a, g.devid, g.head, l.keySet == (l.keyWritten == 15)⟩ := Eq.trans rfl rfl
@[simp] theorem held_eta (s : State) :
    (⟨s.pending, s.mode.devid, s.mode.head, s.img.keySet == (s.img.keyWritten == 15)⟩ : Held) = s.held := Eq.trans rfl rfl
@[simp] theorem held_ite (c : Prop) [Decidable c] (a b : State) : (if c then a else b).held = if c then a.held else b.held := by split <;> rfl
@[simp] theorem held_ite2 {α : Type} (c : Prop) [Decidable c] (a b : α × State) : (if c then a else b).2.held = if c then a.2.held else b.2.held := by split <;> rfl
@[simp] theorem held_foldl {α : Type} (l : List α) (g : State → α → State) (s : State) (h : ∀ t a, (g t a).held = t.held) :
    (l.foldl g s).held = s.held := by
  induction l generalizing s with
  | nil => rfl
  | cons a l ih => simp [ih, h]
@[simp] theorem held_foldl2 {α β : Type} (l : List α) (g : β × State → α → β × State) (s : β × State) (h : ∀ t a, (g t a).2.held = t.2.held) :
    (l.foldl g s).2.held = s.2.held := by
  induction l generalizing s with
  | nil => rfl
  | cons a l ih => simp [ih, h]
@[simp] theorem held_foldl1 {α β : Type} (l : List α) (g : State × β → α → State × β) (s : State × β) (h : ∀ t a, (g t a).1.held = t.1.held) :
    (l.foldl g s).1.held = s.1.held := by
  induction l generalizing s with
  | nil => rfl
  | cons a l ih => simp [ih, h]
@[simp] theorem forUpTo_held (n : Nat) (f : Nat → State → State) (s : State) (h : ∀ k t, (f k t).held = t.held) :
    (forUpTo n f s).held = s.held := held_foldl _ _ _ (fun t a => h a t)

/-- What an instruction's end keeps. -/
def Done.keeps (d : Done) (h : Held) : Prop :=
  match d with
  | .next t _ => t.held = h
  | .goto t _ _ => t.held = h
  | .branch _ _ => True
  | .raise t _ _ => t.held = h
  | .wait t => t.held = h

@[simp] theorem State.setBed_held (s : State) (b) (x) : (State.setBed s b x).held = s.held := by
  simp only [State.setBed, ↓held_mk, ↓held_eta, held_eta, held_ite, held_ite2, ite_self, held_foldl, held_foldl1, held_foldl2, forUpTo_held]

@[simp] theorem State.restExits_held (s : State) : (State.restExits s).held = s.held := by
  simp [State.restExits]

@[simp] theorem State.updBed_held (s : State) (b) (f) : (State.updBed s b f).held = s.held := by
  simp only [State.updBed, ↓held_mk, ↓held_eta, held_eta, held_ite, held_ite2, ite_self, held_foldl, held_foldl1, held_foldl2, forUpTo_held, State.setBed_held]

@[simp] theorem State.setBadBase_held (s : State) (v) : (State.setBadBase s v).held = s.held := by
  simp only [State.setBadBase, ↓held_mk, ↓held_eta, held_eta, held_ite, held_ite2, ite_self, held_foldl, held_foldl1, held_foldl2, forUpTo_held]

@[simp] theorem State.checkRing_held (s : State) : (State.checkRing s).held = s.held := by
  simp only [State.checkRing, ↓held_mk, ↓held_eta, held_eta, held_ite, held_ite2, ite_self, held_foldl, held_foldl1, held_foldl2, forUpTo_held, State.setBadBase_held]

@[simp] theorem State.setPan_held (s : State) (p) (x) : (State.setPan s p x).held = s.held := by
  simp only [State.setPan, ↓held_mk, ↓held_eta, held_eta, held_ite, held_ite2, ite_self, held_foldl, held_foldl1, held_foldl2, forUpTo_held]

@[simp] theorem State.updPan_held (s : State) (p) (f) : (State.updPan s p f).held = s.held := by
  simp only [State.updPan, ↓held_mk, ↓held_eta, held_eta, held_ite, held_ite2, ite_self, held_foldl, held_foldl1, held_foldl2, forUpTo_held, State.setPan_held]

@[simp] theorem State.combFlush_held (s : State) (p) : (State.combFlush s p).held = s.held := by
  simp only [State.combFlush, ↓held_mk, ↓held_eta, held_eta, held_ite, held_ite2, ite_self, held_foldl, held_foldl1, held_foldl2, forUpTo_held, State.updPan_held]

@[simp] theorem State.setDataEn_held (s : State) (v) : (State.setDataEn s v).held = s.held := by
  simp [State.setDataEn]

@[simp] theorem State.setEng_held (s : State) (e) (x) : (State.setEng s e x).held = s.held := by
  simp only [State.setEng, ↓held_mk, ↓held_eta, held_eta, held_ite, held_ite2, ite_self, held_foldl, held_foldl1, held_foldl2, forUpTo_held]

@[simp] theorem State.updEng_held (s : State) (e) (f) : (State.updEng s e f).held = s.held := by
  simp only [State.updEng, ↓held_mk, ↓held_eta, held_eta, held_ite, held_ite2, ite_self, held_foldl, held_foldl1, held_foldl2, forUpTo_held, State.setEng_held]

@[simp] theorem State.coreEdge_held (s : State) (bit) : (State.coreEdge s bit).held = s.held := by
  simp [State.coreEdge]

@[simp] theorem State.count_held (s : State) (u) (e) (n) : (State.count s u e n).held = s.held := by
  simp only [State.count, ↓held_mk, ↓held_eta, held_eta, held_ite, held_ite2, ite_self, held_foldl, held_foldl1, held_foldl2, forUpTo_held]

@[simp] theorem State.setKn_held (s : State) (l) (x) : (State.setKn s l x).held = s.held := by
  simp only [State.setKn, ↓held_mk, ↓held_eta, held_eta, held_ite, held_ite2, ite_self, held_foldl, held_foldl1, held_foldl2, forUpTo_held]

@[simp] theorem State.setArb_held (s : State) (a) (x) : (State.setArb s a x).held = s.held := by
  simp only [State.setArb, ↓held_mk, ↓held_eta, held_eta, held_ite, held_ite2, ite_self, held_foldl, held_foldl1, held_foldl2, forUpTo_held]

@[simp] theorem State.award_held (s : State) (a) (l) (w) : (State.award s a l w).held = s.held := by
  unfold State.award
  dsimp only
  repeat' split
  all_goals first | rfl | (simp only [↓held_mk, ↓held_eta, held_eta, held_ite, held_ite2, ite_self, held_foldl, held_foldl1, held_foldl2, forUpTo_held, State.setArb_held, State.count_held]; done) | (simp_all only [↓held_mk, ↓held_eta, held_eta, held_ite, held_ite2, ite_self, held_foldl, held_foldl1, held_foldl2, forUpTo_held, State.setArb_held, State.count_held]; done)

@[simp] theorem State.grant1_held (s : State) (a) (num) (group) (stamp) : (State.grant1 s a num group stamp).held = s.held := by
  simp only [State.grant1, ↓held_mk, ↓held_eta, held_eta, held_ite, held_ite2, ite_self, held_foldl, held_foldl1, held_foldl2, forUpTo_held, State.award_held]

@[simp] theorem State.kwrite_held (s : State) (l) (e) : (State.kwrite s l e).held = s.held := by
  simp only [State.kwrite, ↓held_mk, ↓held_eta, held_eta, held_ite, held_ite2, ite_self, held_foldl, held_foldl1, held_foldl2, forUpTo_held, State.setKn_held, State.grant1_held]

@[simp] theorem State.pushMgmt_held (s : State) (m) : (State.pushMgmt s m).2.held = s.held := by
  simp only [State.pushMgmt, ↓held_mk, ↓held_eta, held_eta, held_ite, held_ite2, ite_self, held_foldl, held_foldl1, held_foldl2, forUpTo_held, State.kwrite_held]

@[simp] theorem State.vecMsg_held (s : State) (v) : (State.vecMsg s v).2.held = s.held := by
  unfold State.vecMsg
  repeat' split
  all_goals first | rfl | (simp only [↓held_mk, ↓held_eta, held_eta, held_ite, held_ite2, ite_self, held_foldl, held_foldl1, held_foldl2, forUpTo_held, State.pushMgmt_held, State.count_held]; done) | (simp_all only [↓held_mk, ↓held_eta, held_eta, held_ite, held_ite2, ite_self, held_foldl, held_foldl1, held_foldl2, forUpTo_held, State.pushMgmt_held, State.count_held]; done)

@[simp] theorem State.raiseVecs_held (s : State) (vs) : (State.raiseVecs s vs).2.held = s.held := by
  simp [State.raiseVecs]

@[simp] theorem State.updTrk_held (s : State) (p) (k) (f) : (State.updTrk s p k f).held = s.held := by
  simp only [State.updTrk, ↓held_mk, ↓held_eta, held_eta, held_ite, held_ite2, ite_self, held_foldl, held_foldl1, held_foldl2, forUpTo_held, State.updPan_held]

@[simp] theorem State.wrote_held (s : State) (p) (k) (inWay) : (State.wrote s p k inWay).held = s.held := by
  simp only [State.wrote, ↓held_mk, ↓held_eta, held_eta, held_ite, held_ite2, ite_self, held_foldl, held_foldl1, held_foldl2, forUpTo_held, State.updTrk_held]

@[simp] theorem State.logCore_held (s : State) (i) : (State.logCore s i).2.held = s.held := by
  simp only [State.logCore, ↓held_mk, ↓held_eta, held_eta, held_ite, held_ite2, ite_self, held_foldl, held_foldl1, held_foldl2, forUpTo_held, State.coreEdge_held, State.raiseVecs_held, State.count_held]

@[simp] theorem State.logRaw_held (s : State) (i) : (State.logRaw s i).held = s.held := by
  simp only [State.logRaw, ↓held_mk, ↓held_eta, held_eta, held_ite, held_ite2, ite_self, held_foldl, held_foldl1, held_foldl2, forUpTo_held, State.logCore_held]

@[simp] theorem State.modeRec_held (s : State) (m) : (State.modeRec s m).held = s.held := by
  simp only [State.modeRec, ↓held_mk, ↓held_eta, held_eta, held_ite, held_ite2, ite_self, held_foldl, held_foldl1, held_foldl2, forUpTo_held, State.logRaw_held]

@[simp] theorem State.raiseBg_held (s : State) (p) (typ) : (State.raiseBg s p typ).held = s.held := by
  simp only [State.raiseBg, ↓held_mk, ↓held_eta, held_eta, held_ite, held_ite2, ite_self, held_foldl, held_foldl1, held_foldl2, forUpTo_held, State.setPan_held, State.count_held]

@[simp] theorem State.startFlush_held (s : State) : (State.startFlush s).held = s.held := by
  simp [State.startFlush]

@[simp] theorem State.setSramDw_held (s : State) (e) (a) (v) : (State.setSramDw s e a v).held = s.held := by
  simp only [State.setSramDw, ↓held_mk, ↓held_eta, held_eta, held_ite, held_ite2, ite_self, held_foldl, held_foldl1, held_foldl2, forUpTo_held, State.updEng_held]

@[simp] theorem State.clearUe_held (s : State) (e) (a) : (State.clearUe s e a).held = s.held := by
  simp only [State.clearUe, ↓held_mk, ↓held_eta, held_eta, held_ite, held_ite2, ite_self, held_foldl, held_foldl1, held_foldl2, forUpTo_held, State.updEng_held]

@[simp] theorem State.enterMode_held (s : State) (m) : (State.enterMode s m).held = s.held := by
  simp [State.enterMode]

@[simp] theorem State.fatalHold_held (s : State) : (State.fatalHold s).held = s.held := by
  simp only [State.fatalHold, ↓held_mk, ↓held_eta, held_eta, held_ite, held_ite2, ite_self, held_foldl, held_foldl1, held_foldl2, forUpTo_held, State.enterMode_held, State.startFlush_held]

@[simp] theorem State.logErr_held (s : State) (i) : (State.logErr s i).held = s.held := by
  simp only [State.logErr, ↓held_mk, ↓held_eta, held_eta, held_ite, held_ite2, ite_self, held_foldl, held_foldl1, held_foldl2, forUpTo_held, State.fatalHold_held, State.logRaw_held]

@[simp] theorem State.logD_held (s : State) (unit) (cls) (code) (detail) : (State.logD s unit cls code detail).held = s.held := by
  simp only [State.logD, ↓held_mk, ↓held_eta, held_eta, held_ite, held_ite2, ite_self, held_foldl, held_foldl1, held_foldl2, forUpTo_held, State.logErr_held]

@[simp] theorem State.sramWrite_held (s : State) (e) (a) (size) (v) : (State.sramWrite s e a size v).held = s.held := by
  simp only [State.sramWrite, ↓held_mk, ↓held_eta, held_eta, held_ite, held_ite2, ite_self, held_foldl, held_foldl1, held_foldl2, forUpTo_held, State.logD_held, State.setSramDw_held, State.clearUe_held]

@[simp] theorem State.drainOne_held (s : State) (e) : (State.drainOne s e).held = s.held := by
  unfold State.drainOne
  repeat' split
  all_goals first | rfl | (simp only [↓held_mk, ↓held_eta, held_eta, held_ite, held_ite2, ite_self, held_foldl, held_foldl1, held_foldl2, forUpTo_held, State.updEng_held, State.sramWrite_held]; done) | (simp_all only [↓held_mk, ↓held_eta, held_eta, held_ite, held_ite2, ite_self, held_foldl, held_foldl1, held_foldl2, forUpTo_held, State.updEng_held, State.sramWrite_held]; done)

@[simp] theorem State.drainN_held (s : State) (e) (n) : (State.drainN s e n).held = s.held := by
  simp [State.drainN]

@[simp] theorem State.drain_held (s : State) (e) : (State.drain s e).held = s.held := by
  simp only [State.drain, ↓held_mk, ↓held_eta, held_eta, held_ite, held_ite2, ite_self, held_foldl, held_foldl1, held_foldl2, forUpTo_held, State.drainN_held]

@[simp] theorem State.lkRec_held (s : State) (l) (cls) (hinge) (kn) (detail) : (State.lkRec s l cls hinge kn detail).held = s.held := by
  unfold State.lkRec
  repeat' split
  all_goals first | rfl | (simp only [↓held_mk, ↓held_eta, held_eta, held_ite, held_ite2, ite_self, held_foldl, held_foldl1, held_foldl2, forUpTo_held, State.logD_held]; done) | (simp_all only [↓held_mk, ↓held_eta, held_eta, held_ite, held_ite2, ite_self, held_foldl, held_foldl1, held_foldl2, forUpTo_held, State.logD_held]; done)

@[simp] theorem State.updKn_held (s : State) (l) (f) : (State.updKn s l f).held = s.held := by
  simp only [State.updKn, ↓held_mk, ↓held_eta, held_eta, held_ite, held_ite2, ite_self, held_foldl, held_foldl1, held_foldl2, forUpTo_held, State.setKn_held]

@[simp] theorem State.closePartials_held (s : State) (port) : (State.closePartials s port).held = s.held := by
  simp [State.closePartials]

@[simp] theorem State.undeliv_held (s : State) (from_) : (State.undeliv s from_).held = s.held := by
  unfold State.undeliv
  repeat' split
  all_goals first | rfl | (simp only [↓held_mk, ↓held_eta, held_eta, held_ite, held_ite2, ite_self, held_foldl, held_foldl1, held_foldl2, forUpTo_held, State.updKn_held, State.setKn_held, State.logD_held, State.count_held]; done) | (simp_all only [↓held_mk, ↓held_eta, held_eta, held_ite, held_ite2, ite_self, held_foldl, held_foldl1, held_foldl2, forUpTo_held, State.updKn_held, State.setKn_held, State.logD_held, State.count_held]; done)

@[simp] theorem State.toQueue_held (s : State) (port : Nat) (pan : Nat) (vc : Nat) (b : BBody) (stamp : BitVec 16) : (State.toQueue s port pan vc b stamp).held = s.held := by
  first
  | rfl
  | (simp [State.toQueue]; done)
  | (unfold State.toQueue; repeat' split
     all_goals first | rfl | (simp [*]; done))
  | (unfold State.toQueue; dsimp only; repeat' split
     all_goals first | rfl | (simp [*]; done) | (simp_all; done))

@[simp] theorem State.setQueue_held (s : State) (b) (n) (q) : (State.setQueue s b n q).held = s.held := by
  simp only [State.setQueue, ↓held_mk, ↓held_eta, held_eta, held_ite, held_ite2, ite_self, held_foldl, held_foldl1, held_foldl2, forUpTo_held, State.updBed_held]

@[simp] theorem State.ansPut_held (s : State) (port : Nat) (a : Ans) (stamp : BitVec 16) : (State.ansPut s port a stamp).held = s.held := by
  first
  | rfl
  | (simp [State.ansPut]; done)
  | (unfold State.ansPut; repeat' split
     all_goals first | rfl | (simp [*]; done))
  | (unfold State.ansPut; dsimp only; repeat' split
     all_goals first | rfl | (simp [*]; done) | (simp_all; done))

@[simp] theorem State.kput_held (s : State) (l) (b) (re) (from_) (esc) (pan) (stamp) : (State.kput s l b re from_ esc pan stamp).held = s.held := by
  simp only [State.kput, ↓held_mk, ↓held_eta, held_eta, held_ite, held_ite2, ite_self, held_foldl, held_foldl1, held_foldl2, forUpTo_held, State.kwrite_held]

@[simp] theorem State.ksendRaw_held (s : State) (b) (pan) : (State.ksendRaw s b pan).held = s.held := by
  unfold State.ksendRaw
  repeat' split
  all_goals first | rfl | (simp only [↓held_mk, ↓held_eta, held_eta, held_ite, held_ite2, ite_self, held_foldl, held_foldl1, held_foldl2, forUpTo_held, State.undeliv_held, State.kput_held]; done) | (simp_all only [↓held_mk, ↓held_eta, held_eta, held_ite, held_ite2, ite_self, held_foldl, held_foldl1, held_foldl2, forUpTo_held, State.undeliv_held, State.kput_held]; done)

@[simp] theorem State.xbarOut_held (s : State) (n) : (State.xbarOut s n).held = s.held := by
  simp only [State.xbarOut, ↓held_mk, ↓held_eta, held_eta, held_ite, held_ite2, ite_self, held_foldl, held_foldl1, held_foldl2, forUpTo_held, State.count_held]

@[simp] theorem State.noteHere_held (s : State) (port n stamp) : (s.noteHere port n stamp).held = s.held := by
  unfold State.noteHere
  split
  case h_2 => exact forUpTo_held _ _ _ (fun p t => State.toQueue_held ..)
  case h_3 => exact forUpTo_held _ _ _ (fun p t => State.toQueue_held ..)
  all_goals simp

@[simp] theorem State.notice_held (s : State) (d : Nat) (agent : BitVec 12) (b : NoteBody) (pan : Option Nat) : (State.notice s d agent b pan).held = s.held := by
  first
  | rfl
  | (simp [State.notice]; done)
  | (unfold State.notice; repeat' split
     all_goals first | rfl | (simp [*]; done))
  | (unfold State.notice; dsimp only; repeat' split
     all_goals first | rfl | (simp [*]; done) | (simp_all; done))

@[simp] theorem State.wdone_held (s : State) (p) (src) (tag) : (State.wdone s p src tag).held = s.held := by
  simp only [State.wdone, ↓held_mk, ↓held_eta, held_eta, held_ite, held_ite2, ite_self, held_foldl, held_foldl1, held_foldl2, forUpTo_held, State.notice_held]

@[simp] theorem State.setHinge_held (s : State) (p) (x) : (State.setHinge s p x).held = s.held := by
  simp only [State.setHinge, ↓held_mk, ↓held_eta, held_eta, held_ite, held_ite2, ite_self, held_foldl, held_foldl1, held_foldl2, forUpTo_held]

@[simp] theorem State.toPort_held (s : State) (m) (src) (stamp) : (State.toPort s m src stamp).held = s.held := by
  unfold State.toPort
  dsimp only
  repeat' split
  all_goals first | rfl | (simp only [↓held_mk, ↓held_eta, held_eta, held_ite, held_ite2, ite_self, held_foldl, held_foldl1, held_foldl2, forUpTo_held, State.notice_held, State.setHinge_held, State.count_held]; done) | (simp_all only [↓held_mk, ↓held_eta, held_eta, held_ite, held_ite2, ite_self, held_foldl, held_foldl1, held_foldl2, forUpTo_held, State.notice_held, State.setHinge_held, State.count_held]; done)

@[simp] theorem State.portSays_held (s : State) (m) : (State.portSays s m).held = s.held := by
  simp only [State.portSays, ↓held_mk, ↓held_eta, held_eta, held_ite, held_ite2, ite_self, held_foldl, held_foldl1, held_foldl2, forUpTo_held, State.toPort_held]

@[simp] theorem State.onUndeliverable_held (s : State) (b : KBody) (from_ : Option Nat) : (State.onUndeliverable s b from_).held = s.held := by
  first
  | rfl
  | (simp [State.onUndeliverable]; done)
  | (unfold State.onUndeliverable; repeat' split
     all_goals first | rfl | (simp [*]; done))
  | (unfold State.onUndeliverable; dsimp only; repeat' split
     all_goals first | rfl | (simp [*]; done) | (simp_all; done))

@[simp] theorem State.updHinge_held (s : State) (p) (f) : (State.updHinge s p f).held = s.held := by
  simp only [State.updHinge, ↓held_mk, ↓held_eta, held_eta, held_ite, held_ite2, ite_self, held_foldl, held_foldl1, held_foldl2, forUpTo_held, State.setHinge_held]

@[simp] theorem State.oweK_held (s : State) (l) (ch) (n) : (State.oweK s l ch n).held = s.held := by
  simp only [State.oweK, ↓held_mk, ↓held_eta, held_eta, held_ite, held_ite2, ite_self, held_foldl, held_foldl1, held_foldl2, forUpTo_held, State.updKn_held]

@[simp] theorem State.oweSrc_held (s : State) (src : Nat) (half : Bool) (ch : Nat) (n : Nat) : (State.oweSrc s src half ch n).held = s.held := by
  first
  | rfl
  | (simp [State.oweSrc]; done)
  | (unfold State.oweSrc; repeat' split
     all_goals first | rfl | (simp [*]; done))
  | (unfold State.oweSrc; dsimp only; repeat' split
     all_goals first | rfl | (simp [*]; done) | (simp_all; done))

@[simp] theorem State.dropLink_held (s : State) (l) : (State.dropLink s l).held = s.held := by
  simp [State.dropLink]

@[simp] theorem State.noUnits_held (s : State) (src : Nat) : (State.noUnits s src).held = s.held := by
  first
  | rfl
  | (simp [State.noUnits]; done)
  | (unfold State.noUnits; repeat' split
     all_goals first | rfl | (simp [*]; done))
  | (unfold State.noUnits; dsimp only; repeat' split
     all_goals first | rfl | (simp [*]; done) | (simp_all; done))

@[simp] theorem State.klReset_held (s : State) (l : Nat) (cause : Nat) : (State.klReset s l cause).held = s.held := by
  first
  | rfl
  | (simp [State.klReset]; done)
  | (unfold State.klReset; repeat' split
     all_goals first | rfl | (simp [*]; done))
  | (unfold State.klReset; dsimp only; repeat' split
     all_goals first | rfl | (simp [*]; done) | (simp_all; done))

@[simp] theorem State.setReg_held (s : State) (o) (v) : (State.setReg s o v).held = s.held := by
  simp only [State.setReg, ↓held_mk, ↓held_eta, held_eta, held_ite, held_ite2, ite_self, held_foldl, held_foldl1, held_foldl2, forUpTo_held]

@[simp] theorem State.setRf_held (s : State) (o) (hi) (lo) (x) : (State.setRf s o hi lo x).held = s.held := by
  simp only [State.setRf, ↓held_mk, ↓held_eta, held_eta, held_ite, held_ite2, ite_self, held_foldl, held_foldl1, held_foldl2, forUpTo_held, State.setReg_held]

@[simp] theorem State.hingeRec_held (s : State) (p) (code) (agent) (detail) : (State.hingeRec s p code agent detail).held = s.held := by
  simp only [State.hingeRec, ↓held_mk, ↓held_eta, held_eta, held_ite, held_ite2, ite_self, held_foldl, held_foldl1, held_foldl2, forUpTo_held, State.logErr_held]

@[simp] theorem State.setColl_held (s : State) (k) (c) : (State.setColl s k c).held = s.held := by
  simp only [State.setColl, ↓held_mk, ↓held_eta, held_eta, held_ite, held_ite2, ite_self, held_foldl, held_foldl1, held_foldl2, forUpTo_held]

@[simp] theorem State.collDone_held (s : State) (k) : (State.collDone s k).held = s.held := by
  unfold State.collDone
  repeat' split
  all_goals first | rfl | (simp only [↓held_mk, ↓held_eta, held_eta, held_ite, held_ite2, ite_self, held_foldl, held_foldl1, held_foldl2, forUpTo_held, State.logD_held, State.setColl_held, State.notice_held]; done) | (simp_all only [↓held_mk, ↓held_eta, held_eta, held_ite, held_ite2, ite_self, held_foldl, held_foldl1, held_foldl2, forUpTo_held, State.logD_held, State.setColl_held, State.notice_held]; done)

@[simp] theorem State.collGone_held (s : State) (a) : (s.collGone a).held = s.held := by
  unfold State.collGone
  refine held_foldl _ _ _ (fun t e => ?_)
  split
  · rfl
  · split
    · simp only [↓held_mk, ↓held_eta, held_eta, held_ite, held_ite2, ite_self, held_foldl, held_foldl1, held_foldl2, forUpTo_held, State.setColl_held, State.collDone_held]
    · rfl

@[simp] theorem State.broadcast_held (s : State) (agent) (b) : (State.broadcast s agent b).held = s.held := by
  simp [State.broadcast]

@[simp] theorem State.lostMarks_held (s : State) (p a) : (s.lostMarks p a).held = s.held := by
  unfold State.lostMarks
  refine held_foldl _ _ _ (fun t m => ?_)
  split
  · split
    · simp only [↓held_mk, ↓held_eta, held_eta, held_ite, held_ite2, ite_self, held_foldl, held_foldl1, held_foldl2, forUpTo_held, State.notice_held]
    · rfl
  · rfl

@[simp] theorem State.makeGone_held (s : State) (p) (cause) (a) : (State.makeGone s p cause a).held = s.held := by
  simp only [State.makeGone, ↓held_mk, ↓held_eta, held_eta, held_ite, held_ite2, ite_self, held_foldl, held_foldl1, held_foldl2, forUpTo_held, State.hingeRec_held, State.setHinge_held, State.count_held, State.collGone_held, State.broadcast_held, State.lostMarks_held]

@[simp] theorem State.adoptMode_held (s : State) (p : Nat) : (State.adoptMode s p).held = s.held := by
  first
  | rfl
  | (simp [State.adoptMode]; done)
  | (unfold State.adoptMode; repeat' split
     all_goals first | rfl | (simp [*]; done))
  | (unfold State.adoptMode; dsimp only; repeat' split
     all_goals first | rfl | (simp [*]; done) | (simp_all; done))

@[simp] theorem State.portReset_held (s : State) (p) (cause) : (State.portReset s p cause).held = s.held := by
  simp [State.portReset]

@[simp] theorem State.linkReset_held (s : State) (l) (cause) : (State.linkReset s l cause).held = s.held := by
  unfold State.linkReset
  repeat' split
  all_goals first | rfl | (simp only [↓held_mk, ↓held_eta, held_eta, held_ite, held_ite2, ite_self, held_foldl, held_foldl1, held_foldl2, forUpTo_held, State.klReset_held, State.portReset_held]; done) | (simp_all only [↓held_mk, ↓held_eta, held_eta, held_ite, held_ite2, ite_self, held_foldl, held_foldl1, held_foldl2, forUpTo_held, State.klReset_held, State.portReset_held]; done)

@[simp] theorem State.overflow_held (s : State) (l) (ch) : (State.overflow s l ch).held = s.held := by
  simp only [State.overflow, ↓held_mk, ↓held_eta, held_eta, held_ite, held_ite2, ite_self, held_foldl, held_foldl1, held_foldl2, forUpTo_held, State.lkRec_held, State.linkReset_held]

@[simp] theorem State.busAccess_held (s : State) (w) : (State.busAccess s w).held = s.held := by
  unfold State.busAccess
  repeat' split
  all_goals first | rfl | (simp only [↓held_mk, ↓held_eta, held_eta, held_ite, held_ite2, ite_self, held_foldl, held_foldl1, held_foldl2, forUpTo_held, State.grant1_held, State.count_held]; done) | (simp_all only [↓held_mk, ↓held_eta, held_eta, held_ite, held_ite2, ite_self, held_foldl, held_foldl1, held_foldl2, forUpTo_held, State.grant1_held, State.count_held]; done)

@[simp] theorem State.putBlk_held (s : State) (opc) (c) : (State.putBlk s opc c).held = s.held := by
  simp [State.putBlk]

@[simp] theorem State.cmdAccept_held (s : State) : (State.cmdAccept s).held = s.held := by
  simp only [State.cmdAccept, ↓held_mk, ↓held_eta, held_eta, held_ite, held_ite2, ite_self, held_foldl, held_foldl1, held_foldl2, forUpTo_held, State.count_held]

@[simp] theorem State.authEnd_held (s : State) : (State.authEnd s).held = s.held := by
  simp only [State.authEnd, ↓held_mk, ↓held_eta, held_eta, held_ite, held_ite2, ite_self, held_foldl, held_foldl1, held_foldl2, forUpTo_held, State.logD_held]

@[simp] theorem State.cmdRetireBed_held (s : State) (b) : (State.cmdRetireBed s b).held = s.held := by
  simp [State.cmdRetireBed]

@[simp] theorem State.lineRec_held (s : State) (p) (psi) (tag) (cls) (code) (agent) (detail) : (State.lineRec s p psi tag cls code agent detail).held = s.held := by
  simp only [State.lineRec, ↓held_mk, ↓held_eta, held_eta, held_ite, held_ite2, ite_self, held_foldl, held_foldl1, held_foldl2, forUpTo_held, State.logErr_held]

@[simp] theorem State.poisonRec_held (s : State) (p) (psi) (tag) (code) (src) (agent) (detail) : (State.poisonRec s p psi tag code src agent detail).held = s.held := by
  simp only [State.poisonRec, ↓held_mk, ↓held_eta, held_eta, held_ite, held_ite2, ite_self, held_foldl, held_foldl1, held_foldl2, forUpTo_held, State.count_held, State.lineRec_held]

@[simp] theorem State.ksend_held (s : State) (b) (pan) : (State.ksend s b pan).held = s.held := by
  unfold State.ksend
  repeat' split
  all_goals first | rfl | (simp only [↓held_mk, ↓held_eta, held_eta, held_ite, held_ite2, ite_self, held_foldl, held_foldl1, held_foldl2, forUpTo_held, State.undeliv_held, State.onUndeliverable_held, State.kput_held, State.portSays_held]; done) | (simp_all only [↓held_mk, ↓held_eta, held_eta, held_ite, held_ite2, ite_self, held_foldl, held_foldl1, held_foldl2, forUpTo_held, State.undeliv_held, State.onUndeliverable_held, State.kput_held, State.portSays_held]; done)

@[simp] theorem State.toAgent_held (s : State) (m) (pan) : (State.toAgent s m pan).held = s.held := by
  simp only [State.toAgent, ↓held_mk, ↓held_eta, held_eta, held_ite, held_ite2, ite_self, held_foldl, held_foldl1, held_foldl2, forUpTo_held, State.ksend_held, State.toPort_held, State.xbarOut_held]

@[simp] theorem State.say_held (s : State) (p) (m) : (State.say s p m).held = s.held := by
  simp only [State.say, ↓held_mk, ↓held_eta, held_eta, held_ite, held_ite2, ite_self, held_foldl, held_foldl1, held_foldl2, forUpTo_held, State.toAgent_held]

@[simp] theorem State.sendSnp_held (s : State) (p) (k) (op) (a) (spa) : (State.sendSnp s p k op a spa).held = s.held := by
  simp only [State.sendSnp, ↓held_mk, ↓held_eta, held_eta, held_ite, held_ite2, ite_self, held_foldl, held_foldl1, held_foldl2, forUpTo_held, State.say_held, State.count_held]

@[simp] theorem State.issue_held (s : State) (p) (k) (psi) (tag) (op) (a) (owner) : (State.issue s p k psi tag op a owner).2.held = s.held := by
  simp only [State.issue, ↓held_mk, ↓held_eta, held_eta, held_ite, held_ite2, ite_self, held_foldl, held_foldl1, held_foldl2, forUpTo_held, State.sendSnp_held, State.count_held]

@[simp] theorem State.invEach_held (s : State) (p) (k) (psi) (tag) (l) : (State.invEach s p k psi tag l).2.held = s.held := by
  simp [State.invEach]

@[simp] theorem State.schedLog_held (s : State) (k unit off) : (s.schedLog k unit off).held = s.held := by
  unfold State.schedLog
  cases k <;> simp only [↓held_mk, ↓held_eta, held_eta, held_ite, held_ite2, ite_self, held_foldl, held_foldl1, held_foldl2, forUpTo_held, State.logD_held, State.count_held]

@[simp] theorem State.evalAt_held (s : State) (at_) (unit) (off) : (State.evalAt s at_ unit off).2.held = s.held := by
  simp only [State.evalAt, ↓held_mk, ↓held_eta, held_eta, held_ite, held_ite2, ite_self, held_foldl, held_foldl1, held_foldl2, forUpTo_held, State.schedLog_held]

theorem State.again_held (s : State) (pend unit off due refuse) (hd : ∀ b t, (due b t).held = t.held)
    (hr : ∀ t, (refuse t).held = t.held) : (s.again pend unit off due refuse).held = s.held := by
  unfold State.again
  split
  · rfl
  · dsimp only
    split <;> simp only [hd, hr, ↓held_mk, ↓held_eta, held_eta, held_ite, held_ite2, ite_self, held_foldl, held_foldl1, held_foldl2, forUpTo_held, State.evalAt_held]

@[simp] theorem State.invAll_held (s : State) (p) (k) (t) (e) : (State.invAll s p k t e).held = s.held := by
  simp only [State.invAll, ↓held_mk, ↓held_eta, held_eta, held_ite, held_ite2, ite_self, held_foldl, held_foldl1, held_foldl2, forUpTo_held, State.invEach_held, State.updTrk_held]

@[simp] theorem State.useMem_held (s : State) (p) (k) (t) (line) (psn) (port) : (State.useMem s p k t line psn port).held = s.held := by
  simp only [State.useMem, ↓held_mk, ↓held_eta, held_eta, held_ite, held_ite2, ite_self, held_foldl, held_foldl1, held_foldl2, forUpTo_held, State.poisonRec_held, State.invAll_held, State.updTrk_held]

@[simp] theorem State.cleanReport_held (s : State) (p) : (State.cleanReport s p).held = s.held := by
  simp [State.cleanReport]

@[simp] theorem State.endTrk_held (s : State) (p) (k) : (State.endTrk s p k).held = s.held := by
  simp only [State.endTrk, ↓held_mk, ↓held_eta, held_eta, held_ite, held_ite2, ite_self, held_foldl, held_foldl1, held_foldl2, forUpTo_held, State.cleanReport_held, State.updPan_held, State.count_held]

@[simp] theorem State.mdChange_held (s : State) (p) (psi) (f) : (State.mdChange s p psi f).held = s.held := by
  unfold State.mdChange
  extract_lets
  repeat' split
  all_goals first | rfl | (simp only [↓held_mk, ↓held_eta, held_eta, held_ite, held_ite2, ite_self, held_foldl, held_foldl1, held_foldl2, forUpTo_held, State.setPan_held]; done) | (simp_all only [↓held_mk, ↓held_eta, held_eta, held_ite, held_ite2, ite_self, held_foldl, held_foldl1, held_foldl2, forUpTo_held, State.setPan_held]; done)

@[simp] theorem State.putWay_held (s : State) (p) (psi) (w) (e) : (State.putWay s p psi w e).held = s.held := by
  simp only [State.putWay, ↓held_mk, ↓held_eta, held_eta, held_ite, held_ite2, ite_self, held_foldl, held_foldl1, held_foldl2, forUpTo_held, State.mdChange_held]

@[simp] theorem State.free_held (s : State) : (State.free s).2.held = s.held := by
  simp only [State.free, ↓held_mk, ↓held_eta, held_eta, held_ite, held_ite2, ite_self, held_foldl, held_foldl1, held_foldl2, forUpTo_held]

@[simp] theorem State.writeEntry_held (s : State) (p) (t) (lost) : (State.writeEntry s p t lost).held = s.held := by
  unfold State.writeEntry
  repeat' split
  all_goals first | rfl | (simp only [↓held_mk, ↓held_eta, held_eta, held_ite, held_ite2, ite_self, held_foldl, held_foldl1, held_foldl2, forUpTo_held, State.putWay_held, State.updPan_held, State.count_held]; done) | (simp_all only [↓held_mk, ↓held_eta, held_eta, held_ite, held_ite2, ite_self, held_foldl, held_foldl1, held_foldl2, forUpTo_held, State.putWay_held, State.updPan_held, State.count_held]; done)

@[simp] theorem State.faultReport_held (s : State) (p) (t) : (State.faultReport s p t).held = s.held := by
  simp only [State.faultReport, ↓held_mk, ↓held_eta, held_eta, held_ite, held_ite2, ite_self, held_foldl, held_foldl1, held_foldl2, forUpTo_held, State.count_held, State.poisonRec_held, State.notice_held]

@[simp] theorem State.endNotices_held (s : State) (p) (t) : (State.endNotices s p t).held = s.held := by
  unfold State.endNotices
  dsimp only
  repeat' split
  all_goals simp

@[simp] theorem State.wbHold_held (s : State) (p) (k) : (State.wbHold s p k).held = s.held := by
  simp only [State.wbHold, ↓held_mk, ↓held_eta, held_eta, held_ite, held_ite2, ite_self, held_foldl, held_foldl1, held_foldl2, forUpTo_held, State.updTrk_held]

@[simp] theorem State.wbStall_held (s : State) (p) (k) : (State.wbStall s p k).held = s.held := by
  unfold State.wbStall
  repeat' split
  all_goals first | rfl | (simp only [↓held_mk, ↓held_eta, held_eta, held_ite, held_ite2, ite_self, held_foldl, held_foldl1, held_foldl2, forUpTo_held, State.wbHold_held, State.updTrk_held, State.count_held]; done) | (simp_all only [↓held_mk, ↓held_eta, held_eta, held_ite, held_ite2, ite_self, held_foldl, held_foldl1, held_foldl2, forUpTo_held, State.wbHold_held, State.updTrk_held, State.count_held]; done)

@[simp] theorem State.stackUsed_held (s : State) (b) : (State.stackUsed s b).held = s.held := by
  simp only [State.stackUsed, ↓held_mk, ↓held_eta, held_eta, held_ite, held_ite2, ite_self, held_foldl, held_foldl1, held_foldl2, forUpTo_held, State.updBed_held]

@[simp] theorem State.writeLine_held (s : State) (p) (psi) (sl) (d) : (State.writeLine s p psi sl d).held = s.held := by
  simp only [State.writeLine, ↓held_mk, ↓held_eta, held_eta, held_ite, held_ite2, ite_self, held_foldl, held_foldl1, held_foldl2, forUpTo_held, State.updPan_held, State.stackUsed_held]

theorem State.writeBack_held (s : State) (p t) (u : State) (h : s.writeBack p t = some u) : u.held = s.held := by
  unfold State.writeBack at h
  repeat' split at h
  all_goals first
    | (cases h; done)
    | (cases h; simp; done)
    | (cases h; split <;> simp; done)
    | (rw [Option.map_eq_some_iff] at h; obtain ⟨y, -, rfl⟩ := h; simp; done)

@[simp] theorem State.wake_held (s : State) (b) : (State.wake s b).held = s.held := by
  simp only [State.wake, ↓held_mk, ↓held_eta, held_eta, held_ite, held_ite2, ite_self, held_foldl, held_foldl1, held_foldl2, forUpTo_held, State.setBed_held]

@[simp] theorem State.stFinish_held (s : State) (p k) : (s.stFinish p k).held = s.held := by
  unfold State.stFinish
  split
  · rfl
  · dsimp only
    split
    · rfl
    · split
      · split <;> simp
      · next h =>
        have h0 := State.writeBack_held _ _ _ _ h
        split <;> simp [h0]

@[simp] theorem State.stDetached_held (s : State) (p) (k) : (State.stDetached s p k).held = s.held := by
  unfold State.stDetached
  repeat' split
  all_goals first | rfl | (simp only [↓held_mk, ↓held_eta, held_eta, held_ite, held_ite2, ite_self, held_foldl, held_foldl1, held_foldl2, forUpTo_held, State.wdone_held, State.endTrk_held]; done) | (simp_all only [↓held_mk, ↓held_eta, held_eta, held_ite, held_ite2, ite_self, held_foldl, held_foldl1, held_foldl2, forUpTo_held, State.wdone_held, State.endTrk_held]; done)

@[simp] theorem State.atomFlags_held (s : State) (p) (fl) : (State.atomFlags s p fl).held = s.held := by
  simp only [State.atomFlags, ↓held_mk, ↓held_eta, held_eta, held_ite, held_ite2, ite_self, held_foldl, held_foldl1, held_foldl2, forUpTo_held, State.updPan_held]

@[simp] theorem State.compute_held (s : State) (p : Nat) (t : Trk) : (State.compute s p t).held = s.held := by
  first
  | rfl
  | (simp [State.compute]; done)
  | (unfold State.compute; repeat' split
     all_goals first | rfl | (simp [*]; done))
  | (unfold State.compute; dsimp only; repeat' split
     all_goals first | rfl | (simp [*]; done) | (simp_all; done))

@[simp] theorem State.issueAtomics_held (s : State) (p : Nat) (n : Nat) : (State.issueAtomics s p n).held = s.held := by
  induction n generalizing s with
  | zero => rfl
  | succ k ih =>
    unfold State.issueAtomics
    dsimp only
    repeat' split
    all_goals first | rfl | (simp [ih]; done)

@[simp] theorem State.stAtomic_held (s : State) (p : Nat) (k : Nat) : (State.stAtomic s p k).held = s.held := by
  first
  | rfl
  | (simp [State.stAtomic]; done)
  | (unfold State.stAtomic; repeat' split
     all_goals first | rfl | (simp [*]; done))
  | (unfold State.stAtomic; dsimp only; repeat' split
     all_goals first | rfl | (simp [*]; done) | (simp_all; done))

@[simp] theorem State.dropV_held (s : State) (p) (t) : (State.dropV s p t).held = s.held := by
  unfold State.dropV
  repeat' split
  all_goals first | rfl | (simp only [↓held_mk, ↓held_eta, held_eta, held_ite, held_ite2, ite_self, held_foldl, held_foldl1, held_foldl2, forUpTo_held, State.putWay_held]; done) | (simp_all only [↓held_mk, ↓held_eta, held_eta, held_ite, held_ite2, ite_self, held_foldl, held_foldl1, held_foldl2, forUpTo_held, State.putWay_held]; done)

@[simp] theorem State.writeData_held (s : State) (p) (k) (t) (d) (dirty) : (State.writeData s p k t d dirty).held = s.held := by
  unfold State.writeData
  repeat' split
  all_goals first | rfl | (simp only [↓held_mk, ↓held_eta, held_eta, held_ite, held_ite2, ite_self, held_foldl, held_foldl1, held_foldl2, forUpTo_held, State.setPan_held, State.dropV_held, State.wbStall_held, State.writeLine_held, State.updPan_held, State.wrote_held, State.count_held, State.wake_held]; done) | (simp_all only [↓held_mk, ↓held_eta, held_eta, held_ite, held_ite2, ite_self, held_foldl, held_foldl1, held_foldl2, forUpTo_held, State.setPan_held, State.dropV_held, State.wbStall_held, State.writeLine_held, State.updPan_held, State.wrote_held, State.count_held, State.wake_held]; done)

@[simp] theorem State.combWake_held (s : State) (p) (psi) (tag) : (State.combWake s p psi tag).held = s.held := by
  unfold State.combWake
  repeat' split
  all_goals first | rfl | (simp only [↓held_mk, ↓held_eta, held_eta, held_ite, held_ite2, ite_self, held_foldl, held_foldl1, held_foldl2, forUpTo_held, State.wake_held]; done) | (simp_all only [↓held_mk, ↓held_eta, held_eta, held_ite, held_ite2, ite_self, held_foldl, held_foldl1, held_foldl2, forUpTo_held, State.wake_held]; done)

@[simp] theorem State.cancelModes_held (s : State) : (State.cancelModes s).held = s.held := by
  unfold State.cancelModes
  dsimp only
  repeat' split
  all_goals simp

@[simp] theorem State.containment_held (s : State) : (State.containment s).held = s.held := by
  simp only [State.containment, ↓held_mk, ↓held_eta, held_eta, held_ite, held_ite2, ite_self, held_foldl, held_foldl1, held_foldl2, forUpTo_held, State.enterMode_held, State.cancelModes_held]

@[simp] theorem State.loseSet_held (s : State) (p) (psi) (code) (detail) : (State.loseSet s p psi code detail).held = s.held := by
  simp only [State.loseSet, ↓held_mk, ↓held_eta, held_eta, held_ite, held_ite2, ite_self, held_foldl, held_foldl1, held_foldl2, forUpTo_held, State.setPan_held, State.containment_held, State.logD_held]

@[simp] theorem State.recordCe_held (s : State) (unit) (b) (c) (l) (key) : (State.recordCe s unit b c l key).held = s.held := by
  simp only [State.recordCe, ↓held_mk, ↓held_eta, held_eta, held_ite, held_ite2, ite_self, held_foldl, held_foldl1, held_foldl2, forUpTo_held, State.updBed_held, State.logD_held]

@[simp] theorem State.setBkt_held (s : State) (b) (j) (v) : (State.setBkt s b j v).held = s.held := by
  simp only [State.setBkt, ↓held_mk, ↓held_eta, held_eta, held_ite, held_ite2, ite_self, held_foldl, held_foldl1, held_foldl2, forUpTo_held, State.setRf_held]

@[simp] theorem State.markErased_held (s : State) (b) (c) (l) (cause) : (State.markErased s b c l cause).held = s.held := by
  simp only [State.markErased, ↓held_mk, ↓held_eta, held_eta, held_ite, held_ite2, ite_self, held_foldl, held_foldl1, held_foldl2, forUpTo_held, State.setRf_held, State.setBkt_held, State.logD_held]

@[simp] theorem State.spreadLayer_held (s : State) (b) (l) : (State.spreadLayer s b l).held = s.held := by
  simp [State.spreadLayer]

@[simp] theorem State.eraseLayer_held (s : State) (b) (c) (l) (cause) : (State.eraseLayer s b c l cause).held = s.held := by
  simp only [State.eraseLayer, ↓held_mk, ↓held_eta, held_eta, held_ite, held_ite2, ite_self, held_foldl, held_foldl1, held_foldl2, forUpTo_held, State.markErased_held, State.spreadLayer_held]

@[simp] theorem State.bucketCount_held (s : State) (b) (c) (l) (key) : (State.bucketCount s b c l key).held = s.held := by
  simp only [State.bucketCount, ↓held_mk, ↓held_eta, held_eta, held_ite, held_ite2, ite_self, held_foldl, held_foldl1, held_foldl2, forUpTo_held, State.eraseLayer_held, State.setBkt_held, State.updBed_held, State.count_held]

@[simp] theorem State.exhaust_held (s : State) (b) (c) (e) : (State.exhaust s b c e).held = s.held := by
  simp only [State.exhaust, ↓held_mk, ↓held_eta, held_eta, held_ite, held_ite2, ite_self, held_foldl, held_foldl1, held_foldl2, forUpTo_held, State.updBed_held, State.logD_held]

@[simp] theorem State.exhaustCount_held (s : State) (b) (c) : (State.exhaustCount s b c).held = s.held := by
  unfold State.exhaustCount
  repeat' split
  all_goals first | rfl | (simp only [↓held_mk, ↓held_eta, held_eta, held_ite, held_ite2, ite_self, held_foldl, held_foldl1, held_foldl2, forUpTo_held, State.exhaust_held, State.setBkt_held]; done) | (simp_all only [↓held_mk, ↓held_eta, held_eta, held_ite, held_ite2, ite_self, held_foldl, held_foldl1, held_foldl2, forUpTo_held, State.exhaust_held, State.setBkt_held]; done)

@[simp] theorem State.noteBlock_held (s : State) (unit p key o) : (s.noteBlock unit p key o).held = s.held := by
  unfold State.noteBlock
  extract_lets b c
  split
  · simp only [↓held_mk, ↓held_eta, held_eta, held_ite, held_ite2, ite_self, held_foldl, held_foldl1, held_foldl2, forUpTo_held, State.recordCe_held, State.bucketCount_held, State.count_held, State.exhaustCount_held]
  · split
    · simp only [↓held_mk, ↓held_eta, held_eta, held_ite, held_ite2, ite_self, held_foldl, held_foldl1, held_foldl2, forUpTo_held, State.recordCe_held, State.bucketCount_held, State.count_held, State.exhaustCount_held]
    · split
      · simp only [↓held_mk, ↓held_eta, held_eta, held_ite, held_ite2, ite_self, held_foldl, held_foldl1, held_foldl2, forUpTo_held, State.recordCe_held, State.bucketCount_held, State.count_held, State.exhaustCount_held]
      · rfl

@[simp] theorem State.readBlock_held (s : State) (p) (key) (err) : (State.readBlock s p key err).2.held = s.held := by
  simp only [State.readBlock, ↓held_mk, ↓held_eta, held_eta, held_ite, held_ite2, ite_self, held_foldl, held_foldl1, held_foldl2, forUpTo_held, State.noteBlock_held, State.stackUsed_held, State.updPan_held]

@[simp] theorem State.mdLook_held (s : State) (p) (psi) : (State.mdLook s p psi).2.held = s.held := by
  unfold State.mdLook
  dsimp only
  repeat' split
  all_goals simp

@[simp] theorem State.combSpill_held (s : State) (p) (e) (cause) : (State.combSpill s p e cause).held = s.held := by
  unfold State.combSpill
  repeat' split
  all_goals first | rfl | (simp only [↓held_mk, ↓held_eta, held_eta, held_ite, held_ite2, ite_self, held_foldl, held_foldl1, held_foldl2, forUpTo_held, State.setPan_held, State.count_held]; done) | (simp_all only [↓held_mk, ↓held_eta, held_eta, held_ite, held_ite2, ite_self, held_foldl, held_foldl1, held_foldl2, forUpTo_held, State.setPan_held, State.count_held]; done)

@[simp] theorem State.combBack_held (s : State) (p) (e) (cause) : (State.combBack s p e cause).held = s.held := by
  unfold State.combBack
  dsimp only
  repeat' split
  all_goals first | rfl | (simp only [↓held_mk, ↓held_eta, held_eta, held_ite, held_ite2, ite_self, held_foldl, held_foldl1, held_foldl2, forUpTo_held, State.writeLine_held, State.count_held, State.updPan_held, State.mdLook_held, State.combSpill_held]; done) | (simp_all only [↓held_mk, ↓held_eta, held_eta, held_ite, held_ite2, ite_self, held_foldl, held_foldl1, held_foldl2, forUpTo_held, State.writeLine_held, State.count_held, State.updPan_held, State.mdLook_held, State.combSpill_held]; done)

@[simp] theorem State.writeAtomic_held (s : State) (p k t d) : (s.writeAtomic p k t d).held = s.held := by
  unfold State.writeAtomic
  extract_lets x c inWay
  split
  · simp only [↓held_mk, ↓held_eta, held_eta, held_ite, held_ite2, ite_self, held_foldl, held_foldl1, held_foldl2, forUpTo_held, State.combWake_held, State.wbStall_held, State.combBack_held, State.writeData_held, State.setPan_held, State.dropV_held, State.wrote_held, State.count_held]
  · split
    · simp only [↓held_mk, ↓held_eta, held_eta, held_ite, held_ite2, ite_self, held_foldl, held_foldl1, held_foldl2, forUpTo_held, State.combWake_held, State.wbStall_held, State.combBack_held, State.writeData_held, State.setPan_held, State.dropV_held, State.wrote_held, State.count_held]
    · split
      · simp only [↓held_mk, ↓held_eta, held_eta, held_ite, held_ite2, ite_self, held_foldl, held_foldl1, held_foldl2, forUpTo_held, State.combWake_held, State.wbStall_held, State.combBack_held, State.writeData_held, State.setPan_held, State.dropV_held, State.wrote_held, State.count_held]
      · split
        · simp only [↓held_mk, ↓held_eta, held_eta, held_ite, held_ite2, ite_self, held_foldl, held_foldl1, held_foldl2, forUpTo_held, State.combWake_held, State.wbStall_held, State.combBack_held, State.writeData_held, State.setPan_held, State.dropV_held, State.wrote_held, State.count_held]
        · split
          · rfl
          · extract_lets s1 y
            have h1 : s1.held = s.held := by simp only [s1, ↓held_mk, ↓held_eta, held_eta, held_ite, held_ite2, ite_self, held_foldl, held_foldl1, held_foldl2, forUpTo_held, State.combWake_held, State.wbStall_held, State.combBack_held, State.writeData_held, State.setPan_held, State.dropV_held, State.wrote_held, State.count_held]
            clear_value s1
            split <;> simp only [h1, ↓held_mk, ↓held_eta, held_eta, held_ite, held_ite2, ite_self, held_foldl, held_foldl1, held_foldl2, forUpTo_held, State.combWake_held, State.wbStall_held, State.combBack_held, State.writeData_held, State.setPan_held, State.dropV_held, State.wrote_held, State.count_held]

@[simp] theorem State.stWrite_held (s : State) (p) (k) : (State.stWrite s p k).held = s.held := by
  unfold State.stWrite
  repeat' split
  all_goals first | rfl | (simp only [↓held_mk, ↓held_eta, held_eta, held_ite, held_ite2, ite_self, held_foldl, held_foldl1, held_foldl2, forUpTo_held, State.writeData_held, State.writeAtomic_held, State.count_held, State.wrote_held]; done) | (simp_all only [↓held_mk, ↓held_eta, held_eta, held_ite, held_ite2, ite_self, held_foldl, held_foldl1, held_foldl2, forUpTo_held, State.writeData_held, State.writeAtomic_held, State.count_held, State.wrote_held]; done)

@[simp] theorem State.grantReply_held (s : State) (p) (k) (t) : (State.grantReply s p k t).held = s.held := by
  simp only [State.grantReply, ↓held_mk, ↓held_eta, held_eta, held_ite, held_ite2, ite_self, held_foldl, held_foldl1, held_foldl2, forUpTo_held, State.updTrk_held, State.say_held, State.count_held]

@[simp] theorem State.answered_held (s : State) (p) (k) : (State.answered s p k).held = s.held := by
  simp only [State.answered, ↓held_mk, ↓held_eta, held_eta, held_ite, held_ite2, ite_self, held_foldl, held_foldl1, held_foldl2, forUpTo_held, State.updTrk_held]

@[simp] theorem State.stRespond_held (s : State) (p) (k) : (State.stRespond s p k).held = s.held := by
  unfold State.stRespond
  repeat' split
  all_goals first | rfl | (simp only [↓held_mk, ↓held_eta, held_eta, held_ite, held_ite2, ite_self, held_foldl, held_foldl1, held_foldl2, forUpTo_held, State.grantReply_held, State.say_held, State.answered_held]; done) | (simp_all only [↓held_mk, ↓held_eta, held_eta, held_ite, held_ite2, ite_self, held_foldl, held_foldl1, held_foldl2, forUpTo_held, State.grantReply_held, State.say_held, State.answered_held]; done)

@[simp] theorem State.raiseFg_held (s : State) (p) (e) : (State.raiseFg s p e).2.held = s.held := by
  simp only [State.raiseFg, ↓held_mk, ↓held_eta, held_eta, held_ite, held_ite2, ite_self, held_foldl, held_foldl1, held_foldl2, forUpTo_held, State.setPan_held, State.count_held]

@[simp] theorem State.stGroup_held (s : State) (p) (k) (v) : (State.stGroup s p k v).held = s.held := by
  unfold State.stGroup
  dsimp only
  repeat' split
  all_goals first | rfl | (simp only [↓held_mk, ↓held_eta, held_eta, held_ite, held_ite2, ite_self, held_foldl, held_foldl1, held_foldl2, forUpTo_held, State.updTrk_held, State.count_held, State.raiseFg_held]; done) | (simp_all only [↓held_mk, ↓held_eta, held_eta, held_ite, held_ite2, ite_self, held_foldl, held_foldl1, held_foldl2, forUpTo_held, State.updTrk_held, State.count_held, State.raiseFg_held]; done)

@[simp] theorem State.stLost_held (s : State) (p) (k) : (State.stLost s p k).held = s.held := by
  unfold State.stLost
  repeat' split
  all_goals first | rfl | (simp only [↓held_mk, ↓held_eta, held_eta, held_ite, held_ite2, ite_self, held_foldl, held_foldl1, held_foldl2, forUpTo_held, State.updTrk_held]; done) | (simp_all only [↓held_mk, ↓held_eta, held_eta, held_ite, held_ite2, ite_self, held_foldl, held_foldl1, held_foldl2, forUpTo_held, State.updTrk_held]; done)

@[simp] theorem State.stComb_held (s : State) (p) (k) : (State.stComb s p k).held = s.held := by
  unfold State.stComb
  repeat' split
  all_goals first | rfl | (simp only [↓held_mk, ↓held_eta, held_eta, held_ite, held_ite2, ite_self, held_foldl, held_foldl1, held_foldl2, forUpTo_held, State.combWake_held, State.wbHold_held, State.combBack_held, State.updTrk_held]; done) | (simp_all only [↓held_mk, ↓held_eta, held_eta, held_ite, held_ite2, ite_self, held_foldl, held_foldl1, held_foldl2, forUpTo_held, State.combWake_held, State.wbHold_held, State.combBack_held, State.updTrk_held]; done)

@[simp] theorem State.grant2_held (s : State) (a) (num) (group) (stamp) : (State.grant2 s a num group stamp).held = s.held := by
  simp only [State.grant2, ↓held_mk, ↓held_eta, held_eta, held_ite, held_ite2, ite_self, held_foldl, held_foldl1, held_foldl2, forUpTo_held, State.grant1_held]

@[simp] theorem State.setMp_held (s : State) (m) (x) : (State.setMp s m x).held = s.held := by
  simp only [State.setMp, ↓held_mk, ↓held_eta, held_eta, held_ite, held_ite2, ite_self, held_foldl, held_foldl1, held_foldl2, forUpTo_held]

@[simp] theorem State.updMp_held (s : State) (m) (f) : (State.updMp s m f).held = s.held := by
  simp only [State.updMp, ↓held_mk, ↓held_eta, held_eta, held_ite, held_ite2, ite_self, held_foldl, held_foldl1, held_foldl2, forUpTo_held, State.setMp_held]

@[simp] theorem State.memReq_held (s : State) (p : Nat) (k : Nat) (kind : Nat) (psi : Nat) (tag : Nat) (stamp : BitVec 16) (anc : Bool) (poison : Bool) : (State.memReq s p k kind psi tag stamp anc poison).held = s.held := by
  first
  | rfl
  | (simp [State.memReq]; done)
  | (unfold State.memReq; repeat' split
     all_goals first | rfl | (simp [*]; done))
  | (unfold State.memReq; dsimp only; repeat' split
     all_goals first | rfl | (simp [*]; done) | (simp_all; done))

@[simp] theorem State.freeLine_held (s : State) : (State.freeLine s).2.held = s.held := by
  simp only [State.freeLine, ↓held_mk, ↓held_eta, held_eta, held_ite, held_ite2, ite_self, held_foldl, held_foldl1, held_foldl2, forUpTo_held]

@[simp] theorem State.reqFail_held (s : State) (m) (half) (write) (cause) : (State.reqFail s m half write cause).held = s.held := by
  simp only [State.reqFail, ↓held_mk, ↓held_eta, held_eta, held_ite, held_ite2, ite_self, held_foldl, held_foldl1, held_foldl2, forUpTo_held, State.count_held, State.logD_held]

@[simp] theorem State.memRead_held (s : State) (p : Nat) (k : Nat) (t : Trk) : (State.memRead s p k t).held = s.held := by
  first
  | rfl
  | (simp [State.memRead]; done)
  | (unfold State.memRead; repeat' split
     all_goals first | rfl | (simp [*]; done))
  | (unfold State.memRead; dsimp only; repeat' split
     all_goals first | rfl | (simp [*]; done) | (simp_all; done))

@[simp] theorem State.takeSpec_held (s : State) (p : Nat) (k : Nat) : (State.takeSpec s p k).held = s.held := by
  first
  | rfl
  | (simp [State.takeSpec]; done)
  | (unfold State.takeSpec; repeat' split
     all_goals first | rfl | (simp [*]; done))
  | (unfold State.takeSpec; dsimp only; repeat' split
     all_goals first | rfl | (simp [*]; done) | (simp_all; done))

@[simp] theorem State.askMem_held (s : State) (p : Nat) (k : Nat) (t : Trk) : (State.askMem s p k t).held = s.held := by
  first
  | rfl
  | (simp [State.askMem]; done)
  | (unfold State.askMem; repeat' split
     all_goals first | rfl | (simp [*]; done))
  | (unfold State.askMem; dsimp only; repeat' split
     all_goals first | rfl | (simp [*]; done) | (simp_all; done))

@[simp] theorem State.updMemReq_held (s : State) (f) (g) : (State.updMemReq s f g).held = s.held := by
  unfold State.updMemReq
  repeat' split
  all_goals first | rfl | (simp only [↓held_mk, ↓held_eta, held_eta, held_ite, held_ite2, ite_self, held_foldl, held_foldl1, held_foldl2, forUpTo_held, State.updMp_held]; done) | (simp_all only [↓held_mk, ↓held_eta, held_eta, held_ite, held_ite2, ite_self, held_foldl, held_foldl1, held_foldl2, forUpTo_held, State.updMp_held]; done)

@[simp] theorem State.dropSpec_held (s : State) (p) (k) : (State.dropSpec s p k).held = s.held := by
  unfold State.dropSpec
  repeat' split
  all_goals first | rfl | (simp only [↓held_mk, ↓held_eta, held_eta, held_ite, held_ite2, ite_self, held_foldl, held_foldl1, held_foldl2, forUpTo_held, State.updMemReq_held, State.updTrk_held, State.count_held]; done) | (simp_all only [↓held_mk, ↓held_eta, held_eta, held_ite, held_ite2, ite_self, held_foldl, held_foldl1, held_foldl2, forUpTo_held, State.updMemReq_held, State.updTrk_held, State.count_held]; done)

@[simp] theorem State.poisonOld_held (s : State) (p) (k) (t) (d) (held) : (State.poisonOld s p k t d held).held = s.held := by
  simp only [State.poisonOld, ↓held_mk, ↓held_eta, held_eta, held_ite, held_ite2, ite_self, held_foldl, held_foldl1, held_foldl2, forUpTo_held, State.dropSpec_held, State.updTrk_held, State.invAll_held, State.poisonRec_held]

@[simp] theorem State.gotOld_held (s : State) (p) (k) (d) (dirty) : (State.gotOld s p k d dirty).held = s.held := by
  simp only [State.gotOld, ↓held_mk, ↓held_eta, held_eta, held_ite, held_ite2, ite_self, held_foldl, held_foldl1, held_foldl2, forUpTo_held, State.dropSpec_held, State.updTrk_held]

@[simp] theorem State.atomFails_held (s : State) (p : Nat) (k : Nat) (t : Trk) : (State.atomFails s p k t).held = s.held := by
  first
  | rfl
  | (simp [State.atomFails]; done)
  | (unfold State.atomFails; repeat' split
     all_goals first | rfl | (simp [*]; done))
  | (unfold State.atomFails; dsimp only; repeat' split
     all_goals first | rfl | (simp [*]; done) | (simp_all; done))

@[simp] theorem State.stData_held (s : State) (p : Nat) (k : Nat) : (State.stData s p k).held = s.held := by
  first
  | rfl
  | (simp [State.stData]; done)
  | (unfold State.stData; repeat' split
     all_goals first | rfl | (simp [*]; done))
  | (unfold State.stData; dsimp only; repeat' split
     all_goals first | rfl | (simp [*]; done) | (simp_all; done))

@[simp] theorem State.freeVictim_held (s : State) (p) (k) (psi) (v) (dirty) : (State.freeVictim s p k psi v dirty).held = s.held := by
  unfold State.freeVictim
  repeat' split
  all_goals first | rfl | (simp only [↓held_mk, ↓held_eta, held_eta, held_ite, held_ite2, ite_self, held_foldl, held_foldl1, held_foldl2, forUpTo_held, State.wdone_held, State.putWay_held, State.updTrk_held, State.count_held]; done) | (simp_all only [↓held_mk, ↓held_eta, held_eta, held_ite, held_ite2, ite_self, held_foldl, held_foldl1, held_foldl2, forUpTo_held, State.wdone_held, State.putWay_held, State.updTrk_held, State.count_held]; done)

@[simp] theorem State.spill_held (s : State) (p) (k) (psi) (v) (d) (poison) : (State.spill s p k psi v d poison).held = s.held := by
  unfold State.spill
  repeat' split
  all_goals first | rfl | (simp only [↓held_mk, ↓held_eta, held_eta, held_ite, held_ite2, ite_self, held_foldl, held_foldl1, held_foldl2, forUpTo_held, State.setPan_held, State.count_held, State.freeVictim_held, State.wbStall_held]; done) | (simp_all only [↓held_mk, ↓held_eta, held_eta, held_ite, held_ite2, ite_self, held_foldl, held_foldl1, held_foldl2, forUpTo_held, State.setPan_held, State.count_held, State.freeVictim_held, State.wbStall_held]; done)

@[simp] theorem State.stVict_held (s : State) (p) (k) : (State.stVict s p k).held = s.held := by
  unfold State.stVict
  repeat' split
  all_goals first | rfl | (simp only [↓held_mk, ↓held_eta, held_eta, held_ite, held_ite2, ite_self, held_foldl, held_foldl1, held_foldl2, forUpTo_held, State.freeVictim_held, State.updTrk_held, State.wake_held, State.freeLine_held, State.spill_held]; done) | (simp_all only [↓held_mk, ↓held_eta, held_eta, held_ite, held_ite2, ite_self, held_foldl, held_foldl1, held_foldl2, forUpTo_held, State.freeVictim_held, State.updTrk_held, State.wake_held, State.freeLine_held, State.spill_held]; done)

@[simp] theorem State.invSharers_held (s : State) (p) (k) (psi) (tag) (e) (skip) (excl) : (State.invSharers s p k psi tag e skip excl).2.held = s.held := by
  simp only [State.invSharers, ↓held_mk, ↓held_eta, held_eta, held_ite, held_ite2, ite_self, held_foldl, held_foldl1, held_foldl2, forUpTo_held, State.invEach_held]

@[simp] theorem State.flushWay_held (s : State) (p) (psi) (w) (e) (err) : (State.flushWay s p psi w e err).2.held = s.held := by
  unfold State.flushWay
  dsimp only
  repeat' split
  all_goals simp

@[simp] theorem State.flushOwned_held (s : State) (p) (k) (t) (w) (e) (d) (psn) : (State.flushOwned s p k t w e d psn).held = s.held := by
  unfold State.flushOwned
  repeat' split
  all_goals first | rfl | (simp only [↓held_mk, ↓held_eta, held_eta, held_ite, held_ite2, ite_self, held_foldl, held_foldl1, held_foldl2, forUpTo_held, State.wdone_held, State.endTrk_held, State.setPan_held, State.putWay_held, State.wbHold_held]; done) | (simp_all only [↓held_mk, ↓held_eta, held_eta, held_ite, held_ite2, ite_self, held_foldl, held_foldl1, held_foldl2, forUpTo_held, State.wdone_held, State.endTrk_held, State.setPan_held, State.putWay_held, State.wbHold_held]; done)

@[simp] theorem State.cleanWay_held (s : State) (p) (psi) (w) (e) : (State.cleanWay s p psi w e).held = s.held := by
  simp only [State.cleanWay, ↓held_mk, ↓held_eta, held_eta, held_ite, held_ite2, ite_self, held_foldl, held_foldl1, held_foldl2, forUpTo_held, State.poisonRec_held, State.putWay_held]

@[simp] theorem State.stLine_held (s : State) (p k) : (s.stLine p k).held = s.held := by
  unfold State.stLine
  split
  · rfl
  · next t _ =>
    split
    · rfl
    · next w _ =>
      extract_lets e
      split
      · simp only [↓held_mk, ↓held_eta, held_eta, held_ite, held_ite2, ite_self, held_foldl, held_foldl1, held_foldl2, forUpTo_held, State.updTrk_held, State.invSharers_held, State.wbHold_held, State.flushWay_held, State.flushOwned_held, State.cleanWay_held, State.endTrk_held]
      · split
        · split
          · simp only [↓held_mk, ↓held_eta, held_eta, held_ite, held_ite2, ite_self, held_foldl, held_foldl1, held_foldl2, forUpTo_held, State.updTrk_held, State.invSharers_held, State.wbHold_held, State.flushWay_held, State.flushOwned_held, State.cleanWay_held, State.endTrk_held]
          · rfl
        · have hf := State.flushWay_held s p t.psi w e 0
          split
          · next h => rw [h] at hf; rw [State.wbHold_held]; exact hf
          · next h => rw [h] at hf; simp only [↓held_mk, ↓held_eta, held_eta, held_ite, held_ite2, ite_self, held_foldl, held_foldl1, held_foldl2, forUpTo_held, State.updTrk_held, State.invSharers_held, State.wbHold_held, State.flushWay_held, State.flushOwned_held, State.cleanWay_held, State.endTrk_held]; exact hf
          · next h => rw [h] at hf; simp only [↓held_mk, ↓held_eta, held_eta, held_ite, held_ite2, ite_self, held_foldl, held_foldl1, held_foldl2, forUpTo_held, State.updTrk_held, State.invSharers_held, State.wbHold_held, State.flushWay_held, State.flushOwned_held, State.cleanWay_held, State.endTrk_held]; exact hf

@[simp] theorem State.progress_held (s : State) (p) (k) : (State.progress s p k).held = s.held := by
  simp only [State.progress, ↓held_mk, ↓held_eta, held_eta, held_ite, held_ite2, ite_self, held_foldl, held_foldl1, held_foldl2, forUpTo_held, State.stFinish_held, State.stDetached_held, State.stAtomic_held, State.stWrite_held, State.stRespond_held, State.stGroup_held, State.stLost_held, State.stComb_held, State.stData_held, State.stVict_held, State.stLine_held]

@[simp] theorem State.deliver_held (s : State) (p k line psn port) : (s.deliver p k line psn port).held = s.held := by
  unfold State.deliver
  split
  · rfl
  · split
    · rfl
    · split <;> simp only [↓held_mk, ↓held_eta, held_eta, held_ite, held_ite2, ite_self, held_foldl, held_foldl1, held_foldl2, forUpTo_held, State.useMem_held, State.progress_held, State.updTrk_held]

@[simp] theorem State.dropMemReq_held (s : State) (f) : (State.dropMemReq s f).held = s.held := by
  unfold State.dropMemReq
  repeat' split
  all_goals first | rfl | (simp only [↓held_mk, ↓held_eta, held_eta, held_ite, held_ite2, ite_self, held_foldl, held_foldl1, held_foldl2, forUpTo_held, State.updMp_held]; done) | (simp_all only [↓held_mk, ↓held_eta, held_eta, held_ite, held_ite2, ite_self, held_foldl, held_foldl1, held_foldl2, forUpTo_held, State.updMp_held]; done)

@[simp] theorem State.readDone_held (s : State) (m) (r) (mine) : (State.readDone s m r mine).held = s.held := by
  simp only [State.readDone, ↓held_mk, ↓held_eta, held_eta, held_ite, held_ite2, ite_self, held_foldl, held_foldl1, held_foldl2, forUpTo_held, State.dropMemReq_held, State.count_held]

@[simp] theorem State.mpGot_held (s : State) (m) (n) : (State.mpGot s m n).held = s.held := by
  simp only [State.mpGot, ↓held_mk, ↓held_eta, held_eta, held_ite, held_ite2, ite_self, held_foldl, held_foldl1, held_foldl2, forUpTo_held, State.updMp_held, State.count_held]

@[simp] theorem State.mpSent_held (s : State) (m) (n) : (State.mpSent s m n).held = s.held := by
  simp only [State.mpSent, ↓held_mk, ↓held_eta, held_eta, held_ite, held_ite2, ite_self, held_foldl, held_foldl1, held_foldl2, forUpTo_held, State.updMp_held, State.count_held]

@[simp] theorem State.atomDone_held (s : State) (p) (k) (m) (half) (t) (line) (st) : (State.atomDone s p k m half t line st).held = s.held := by
  unfold State.atomDone
  dsimp only
  repeat' split
  all_goals simp

@[simp] theorem State.wakeStage_held (s : State) : (State.wakeStage s).held = s.held := by
  simp [State.wakeStage]

@[simp] theorem State.wakeWb_held (s : State) (p) (psi) (tag) : (State.wakeWb s p psi tag).held = s.held := by
  simp [State.wakeWb]

@[simp] theorem State.prefetches_held (s : State) (p tag c l) : (s.prefetches p tag c l).held = s.held := by
  unfold State.prefetches
  simp only [↓held_mk, ↓held_eta, held_eta, held_ite, held_ite2, ite_self, held_foldl, held_foldl1, held_foldl2, forUpTo_held, State.updPan_held]

@[simp] theorem State.invOwner_held (s : State) (p) (k) (psi) (tag) (o) (op) (needData) : (State.invOwner s p k psi tag o op needData).2.held = s.held := by
  simp only [State.invOwner, ↓held_mk, ↓held_eta, held_eta, held_ite, held_ite2, ite_self, held_foldl, held_foldl1, held_foldl2, forUpTo_held, State.issue_held, State.poisonRec_held, State.count_held]

@[simp] theorem State.startVictim_held (s : State) (p) (k) (psi) (w) (e) : (State.startVictim s p k psi w e).held = s.held := by
  simp only [State.startVictim, ↓held_mk, ↓held_eta, held_eta, held_ite, held_ite2, ite_self, held_foldl, held_foldl1, held_foldl2, forUpTo_held, State.updTrk_held, State.count_held, State.stGroup_held, State.invOwner_held, State.invSharers_held]

@[simp] theorem State.takeWay_held (s : State) (p) (k) (t) (pk) : (State.takeWay s p k t pk).held = s.held := by
  unfold State.takeWay
  repeat' split
  all_goals first | rfl | (simp only [↓held_mk, ↓held_eta, held_eta, held_ite, held_ite2, ite_self, held_foldl, held_foldl1, held_foldl2, forUpTo_held, State.mdChange_held, State.startVictim_held, State.updTrk_held]; done) | (simp_all only [↓held_mk, ↓held_eta, held_eta, held_ite, held_ite2, ite_self, held_foldl, held_foldl1, held_foldl2, forUpTo_held, State.mdChange_held, State.startVictim_held, State.updTrk_held]; done)

@[simp] theorem State.allocate_held (s : State) (p) (k) (t) : (State.allocate s p k t).held = s.held := by
  simp only [State.allocate, ↓held_mk, ↓held_eta, held_eta, held_ite, held_ite2, ite_self, held_foldl, held_foldl1, held_foldl2, forUpTo_held, State.takeWay_held, State.endTrk_held, State.updTrk_held, State.count_held]

@[simp] theorem State.agentPoison_held (s : State) (p) (t) (opc) : (State.agentPoison s p t opc).held = s.held := by
  simp only [State.agentPoison, ↓held_mk, ↓held_eta, held_eta, held_ite, held_ite2, ite_self, held_foldl, held_foldl1, held_foldl2, forUpTo_held, State.poisonRec_held]

@[simp] theorem State.discardWb_held (s : State) (p) (psi) (tag) (ust) (r) : (State.discardWb s p psi tag ust r).held = s.held := by
  simp only [State.discardWb, ↓held_mk, ↓held_eta, held_eta, held_ite, held_ite2, ite_self, held_foldl, held_foldl1, held_foldl2, forUpTo_held, State.lineRec_held, State.wdone_held]

@[simp] theorem State.applyAbsent_held (s : State) (p) (t) : (State.applyAbsent s p t).held = s.held := by
  unfold State.applyAbsent
  repeat' split
  all_goals first | rfl | (simp only [↓held_mk, ↓held_eta, held_eta, held_ite, held_ite2, ite_self, held_foldl, held_foldl1, held_foldl2, forUpTo_held, State.faultReport_held, State.count_held, State.progress_held, State.allocate_held, State.agentPoison_held, State.updTrk_held, State.discardWb_held, State.endTrk_held]; done) | (simp_all only [↓held_mk, ↓held_eta, held_eta, held_ite, held_ite2, ite_self, held_foldl, held_foldl1, held_foldl2, forUpTo_held, State.faultReport_held, State.count_held, State.progress_held, State.allocate_held, State.agentPoison_held, State.updTrk_held, State.discardWb_held, State.endTrk_held]; done)

@[simp] theorem State.prefetchAsk_held (s : State) (p) (t) : (State.prefetchAsk s p t).2.held = s.held := by
  simp only [State.prefetchAsk, ↓held_mk, ↓held_eta, held_eta, held_ite, held_ite2, ite_self, held_foldl, held_foldl1, held_foldl2, forUpTo_held, State.updPan_held]

@[simp] theorem State.learn_held (s : State) (p) (t) (w) (missed) : (State.learn s p t w missed).held = s.held := by
  simp only [State.learn, ↓held_mk, ↓held_eta, held_eta, held_ite, held_ite2, ite_self, held_foldl, held_foldl1, held_foldl2, forUpTo_held, State.updPan_held, State.count_held]

@[simp] theorem State.applySnoops_held (s : State) (p) (t) (e) : (State.applySnoops s p t e).held = s.held := by
  simp only [State.applySnoops, ↓held_mk, ↓held_eta, held_eta, held_ite, held_ite2, ite_self, held_foldl, held_foldl1, held_foldl2, forUpTo_held, State.updTrk_held, State.invSharers_held, State.invOwner_held]

@[simp] theorem State.demandHit_held (s : State) (p) (psi) (w) (e) (noData) : (State.demandHit s p psi w e noData).held = s.held := by
  simp only [State.demandHit, ↓held_mk, ↓held_eta, held_eta, held_ite, held_ite2, ite_self, held_foldl, held_foldl1, held_foldl2, forUpTo_held, State.putWay_held, State.count_held]

@[simp] theorem State.applyPresent_held (s : State) (p) (t) (w) (e) : (State.applyPresent s p t w e).held = s.held := by
  unfold State.applyPresent
  dsimp only
  repeat' split
  all_goals simp

@[simp] theorem State.applyTrk_held (s : State) (p) (k) (missed) : (State.applyTrk s p k missed).2.held = s.held := by
  unfold State.applyTrk
  repeat' split
  all_goals first | rfl | (simp only [↓held_mk, ↓held_eta, held_eta, held_ite, held_ite2, ite_self, held_foldl, held_foldl1, held_foldl2, forUpTo_held, State.applyAbsent_held, State.prefetchAsk_held, State.learn_held, State.applyPresent_held]; done) | (simp_all only [↓held_mk, ↓held_eta, held_eta, held_ite, held_ite2, ite_self, held_foldl, held_foldl1, held_foldl2, forUpTo_held, State.applyAbsent_held, State.prefetchAsk_held, State.learn_held, State.applyPresent_held]; done)

@[simp] theorem State.apply_held (s : State) (p) (k) (missed) : (State.apply s p k missed).held = s.held := by
  unfold State.apply
  repeat' split
  all_goals first | rfl | (simp only [↓held_mk, ↓held_eta, held_eta, held_ite, held_ite2, ite_self, held_foldl, held_foldl1, held_foldl2, forUpTo_held, State.prefetches_held, State.applyTrk_held, State.updTrk_held]; done) | (simp_all only [↓held_mk, ↓held_eta, held_eta, held_ite, held_ite2, ite_self, held_foldl, held_foldl1, held_foldl2, forUpTo_held, State.prefetches_held, State.applyTrk_held, State.updTrk_held]; done)

theorem State.mdcRoom_held (s : State) (p psi) (r : Nat × State) (h : s.mdcRoom p psi = .ok r) : r.2.held = s.held := by
  unfold State.mdcRoom at h
  dsimp only at h
  split at h
  · cases h; rfl
  · split at h
    · cases h
    · split at h
      · split at h
        · cases h; simp only [↓held_mk, ↓held_eta, held_eta, held_ite, held_ite2, ite_self, held_foldl, held_foldl1, held_foldl2, forUpTo_held, State.setPan_held]
        · cases h
      · cases h; rfl

@[simp] theorem State.mdAccess_held (s : State) (p k first) : (s.mdAccess p k first).2.held = s.held := by
  unfold State.mdAccess
  split
  · rfl
  · next t _ =>
    dsimp only
    generalize hs : s.count p 0x10D _ = s1
    have h1 : s1.held = s.held := by rw [← hs, State.count_held]
    clear hs
    split
    · simp only [↓held_mk, ↓held_eta, held_eta, held_ite, held_ite2, ite_self, held_foldl, held_foldl1, held_foldl2, forUpTo_held, State.memRead_held, State.wake_held, State.updPan_held, State.updTrk_held, State.setPan_held, State.count_held]
    · split
      · simp only [h1, ↓held_mk, ↓held_eta, held_eta, held_ite, held_ite2, ite_self, held_foldl, held_foldl1, held_foldl2, forUpTo_held, State.memRead_held, State.wake_held, State.updPan_held, State.updTrk_held, State.setPan_held, State.count_held]
      · split
        · split
          · simp only [h1, ↓held_mk, ↓held_eta, held_eta, held_ite, held_ite2, ite_self, held_foldl, held_foldl1, held_foldl2, forUpTo_held, State.memRead_held, State.wake_held, State.updPan_held, State.updTrk_held, State.setPan_held, State.count_held]
          · next h =>
            have := State.mdcRoom_held _ _ _ _ h
            simp only [State.setPan_held] at this
            simp only [this, h1, ↓held_mk, ↓held_eta, held_eta, held_ite, held_ite2, ite_self, held_foldl, held_foldl1, held_foldl2, forUpTo_held, State.memRead_held, State.wake_held, State.updPan_held, State.updTrk_held, State.setPan_held, State.count_held]
        · split
          · simp only [h1, ↓held_mk, ↓held_eta, held_eta, held_ite, held_ite2, ite_self, held_foldl, held_foldl1, held_foldl2, forUpTo_held, State.memRead_held, State.wake_held, State.updPan_held, State.updTrk_held, State.setPan_held, State.count_held]
          · next h =>
            have := State.mdcRoom_held _ _ _ _ h
            simp only at this
            split <;> simp only [this, h1, ↓held_mk, ↓held_eta, held_eta, held_ite, held_ite2, ite_self, held_foldl, held_foldl1, held_foldl2, forUpTo_held, State.memRead_held, State.wake_held, State.updPan_held, State.updTrk_held, State.setPan_held, State.count_held]

@[simp] theorem State.lostReply_held (s : State) (p) (t) : (State.lostReply s p t).held = s.held := by
  unfold State.lostReply
  repeat' split
  all_goals first | rfl | (simp only [↓held_mk, ↓held_eta, held_eta, held_ite, held_ite2, ite_self, held_foldl, held_foldl1, held_foldl2, forUpTo_held, State.dropSpec_held, State.endTrk_held, State.say_held, State.wdone_held]; done) | (simp_all only [↓held_mk, ↓held_eta, held_eta, held_ite, held_ite2, ite_self, held_foldl, held_foldl1, held_foldl2, forUpTo_held, State.dropSpec_held, State.endTrk_held, State.say_held, State.wdone_held]; done)

@[simp] theorem State.lostEnd_held (s : State) (p) (t) : (State.lostEnd s p t).held = s.held := by
  simp only [State.lostEnd, ↓held_mk, ↓held_eta, held_eta, held_ite, held_ite2, ite_self, held_foldl, held_foldl1, held_foldl2, forUpTo_held, State.lostReply_held, State.faultReport_held, State.endTrk_held, State.updTrk_held]

@[simp] theorem State.start_held (s : State) (p k) : (s.start p k).held = s.held := by
  unfold State.start
  split
  · rfl
  · extract_lets s1 r
    have h1 : s1.held = s.held := by simp only [s1, ↓held_mk, ↓held_eta, held_eta, held_ite, held_ite2, ite_self, held_foldl, held_foldl1, held_foldl2, forUpTo_held, State.apply_held, State.mdAccess_held, State.lostEnd_held, State.updTrk_held, State.count_held]
    clear_value s1
    split
    · simp only [h1, ↓held_mk, ↓held_eta, held_eta, held_ite, held_ite2, ite_self, held_foldl, held_foldl1, held_foldl2, forUpTo_held, State.apply_held, State.mdAccess_held, State.lostEnd_held, State.updTrk_held, State.count_held]
    · have hr : r.2.held = s.held := by simp only [r, h1, ↓held_mk, ↓held_eta, held_eta, held_ite, held_ite2, ite_self, held_foldl, held_foldl1, held_foldl2, forUpTo_held, State.apply_held, State.mdAccess_held, State.lostEnd_held, State.updTrk_held, State.count_held]
      clear_value r
      split <;> simp only [hr, ↓held_mk, ↓held_eta, held_eta, held_ite, held_ite2, ite_self, held_foldl, held_foldl1, held_foldl2, forUpTo_held, State.apply_held, State.mdAccess_held, State.lostEnd_held, State.updTrk_held, State.count_held]

@[simp] theorem State.addTrk_held (s : State) (p) (t) : (State.addTrk s p t).held = s.held := by
  simp only [State.addTrk, ↓held_mk, ↓held_eta, held_eta, held_ite, held_ite2, ite_self, held_foldl, held_foldl1, held_foldl2, forUpTo_held, State.updPan_held]

theorem State.faultTrk_held (s : State) (p psi tag cause) (t : State) (h : s.faultTrk p psi tag cause = some t) :
    t.held = s.held := by
  unfold State.faultTrk at h
  dsimp only at h
  split at h
  · cases h; simp only [↓held_mk, ↓held_eta, held_eta, held_ite, held_ite2, ite_self, held_foldl, held_foldl1, held_foldl2, forUpTo_held, State.start_held, State.addTrk_held, State.faultReport_held]
  · split at h
    · cases h
    · cases h
      split <;> simp only [↓held_mk, ↓held_eta, held_eta, held_ite, held_ite2, ite_self, held_foldl, held_foldl1, held_foldl2, forUpTo_held, State.start_held, State.addTrk_held, State.faultReport_held]

@[simp] theorem State.wrAgain_held (s : State) (m) (r) : (State.wrAgain s m r).held = s.held := by
  simp only [State.wrAgain, ↓held_mk, ↓held_eta, held_eta, held_ite, held_ite2, ite_self, held_foldl, held_foldl1, held_foldl2, forUpTo_held, State.updPan_held, State.updMemReq_held, State.count_held]

@[simp] theorem State.dropDump_held (s : State) : (State.dropDump s).held = s.held := by
  first
  | rfl
  | (simp [State.dropDump]; done)
  | (unfold State.dropDump; repeat' split
     all_goals first | rfl | (simp [*]; done))
  | (unfold State.dropDump; dsimp only; repeat' split
     all_goals first | rfl | (simp [*]; done) | (simp_all; done))

@[simp] theorem State.dumpEnd_held (s : State) : (State.dumpEnd s).held = s.held := by
  first
  | rfl
  | (simp [State.dumpEnd]; done)
  | (unfold State.dumpEnd; repeat' split
     all_goals first | rfl | (simp [*]; done))
  | (unfold State.dumpEnd; dsimp only; repeat' split
     all_goals first | rfl | (simp [*]; done) | (simp_all; done))

theorem State.slot_held (s : State) (a l n) (t : State) (h : s.slot a l n = some t) : t.held = s.held := by
  unfold State.slot at h
  repeat' split at h
  all_goals first | cases h; simp only [↓held_mk, ↓held_eta, held_eta, held_ite, held_ite2, ite_self, held_foldl, held_foldl1, held_foldl2, forUpTo_held, State.award_held] | cases h

@[simp] theorem State.dumpAbandon_held (s : State) (m : Nat) : (State.dumpAbandon s m).held = s.held := by
  first
  | rfl
  | (simp [State.dumpAbandon]; done)
  | (unfold State.dumpAbandon; repeat' split
     all_goals first | rfl | (simp [*]; done))
  | (unfold State.dumpAbandon; dsimp only; repeat' split
     all_goals first | rfl | (simp [*]; done) | (simp_all; done))

@[simp] theorem State.reqFails_held (s : State) (m r cause) : (s.reqFails m r cause).held = s.held := by
  unfold State.reqFails
  split
  · split
    · simp
    · split
      · next h => simp [State.faultTrk_held _ _ _ _ _ _ h]
      · rfl
  · dsimp only
    split <;> simp
  · split <;> simp
  · dsimp only
    split <;> simp

@[simp] theorem State.failPort_held (s : State) (m : Nat) : (State.failPort s m).held = s.held := by
  first
  | rfl
  | (simp [State.failPort]; done)
  | (unfold State.failPort; repeat' split
     all_goals first | rfl | (simp [*]; done))
  | (unfold State.failPort; dsimp only; repeat' split
     all_goals first | rfl | (simp [*]; done) | (simp_all; done))

@[simp] theorem State.cmdRetireMp_held (s : State) (m) : (State.cmdRetireMp s m).held = s.held := by
  simp [State.cmdRetireMp]

@[simp] theorem State.latBreak_held (s : State) (n) (cause) : (State.latBreak s n cause).held = s.held := by
  simp only [State.latBreak, ↓held_mk, ↓held_eta, held_eta, held_ite, held_ite2, ite_self, held_foldl, held_foldl1, held_foldl2, forUpTo_held, State.count_held, State.logD_held]

@[simp] theorem State.cmdLatch_held (s : State) (n) : (State.cmdLatch s n).held = s.held := by
  simp only [State.cmdLatch, ↓held_mk, ↓held_eta, held_eta, held_ite, held_ite2, ite_self, held_foldl, held_foldl1, held_foldl2, forUpTo_held, State.latBreak_held, State.authEnd_held]

@[simp] theorem State.sound_held (s : State) (e) (lo) (n) : (State.sound s e lo n).held = s.held := by
  simp only [State.sound, ↓held_mk, ↓held_eta, held_eta, held_ite, held_ite2, ite_self, held_foldl, held_foldl1, held_foldl2, forUpTo_held, State.updEng_held]

@[simp] theorem State.putCoreCode_held (s : State) (b) (len) : (State.putCoreCode s b len).held = s.held := by
  simp only [State.putCoreCode, ↓held_mk, ↓held_eta, held_eta, held_ite, held_ite2, ite_self, held_foldl, held_foldl1, held_foldl2, forUpTo_held, State.sound_held]

@[simp] theorem State.thermTrip_held (s : State) (b) (stack) (skew) (reading) : (State.thermTrip s b stack skew reading).held = s.held := by
  simp [State.thermTrip]

@[simp] theorem State.cleared_held (s : State) (m) : (State.cleared s m).held = s.held := by
  unfold State.cleared
  repeat' split
  all_goals first | rfl | (simp only [↓held_mk, ↓held_eta, held_eta, held_ite, held_ite2, ite_self, held_foldl, held_foldl1, held_foldl2, forUpTo_held, State.setBed_held]; done) | (simp_all only [↓held_mk, ↓held_eta, held_eta, held_ite, held_ite2, ite_self, held_foldl, held_foldl1, held_foldl2, forUpTo_held, State.setBed_held]; done)

@[simp] theorem State.coreStart_held (s : State) (c) : (State.coreStart s c).held = s.held := by
  simp only [State.coreStart, ↓held_mk, ↓held_eta, held_eta, held_ite, held_ite2, ite_self, held_foldl, held_foldl1, held_foldl2, forUpTo_held, State.setEng_held]

@[simp] theorem State.latBreakOf_held (s : State) (w) : (State.latBreakOf s w).held = s.held := by
  simp [State.latBreakOf]

@[simp] theorem State.coreReset_held (s : State) (c) (cause) : (State.coreReset s c cause).held = s.held := by
  simp only [State.coreReset, ↓held_mk, ↓held_eta, held_eta, held_ite, held_ite2, ite_self, held_foldl, held_foldl1, held_foldl2, forUpTo_held, State.coreStart_held, State.latBreakOf_held, State.logD_held]

@[simp] theorem State.fwCore_held (s : State) (c) : (State.fwCore s c).held = s.held := by
  simp only [State.fwCore, ↓held_mk, ↓held_eta, held_eta, held_ite, held_ite2, ite_self, held_foldl, held_foldl1, held_foldl2, forUpTo_held, State.coreStart_held, State.coreReset_held, State.updEng_held]

@[simp] theorem State.putPanCode_held (s : State) (b) (len) : (State.putPanCode s b len).held = s.held := by
  simp [State.putPanCode]

@[simp] theorem State.panStart_held (s : State) (p) : (State.panStart s p).held = s.held := by
  simp only [State.panStart, ↓held_mk, ↓held_eta, held_eta, held_ite, held_ite2, ite_self, held_foldl, held_foldl1, held_foldl2, forUpTo_held, State.updEng_held]

@[simp] theorem State.fwInstall_held (s : State) (pan) (off) (len) : (State.fwInstall s pan off len).held = s.held := by
  simp [State.fwInstall]

@[simp] theorem State.cmdFirmware_held (s : State) (pan) (off) (len) : (State.cmdFirmware s pan off len).held = s.held := by
  simp only [State.cmdFirmware, ↓held_mk, ↓held_eta, held_eta, held_ite, held_ite2, ite_self, held_foldl, held_foldl1, held_foldl2, forUpTo_held, State.fwInstall_held, State.authEnd_held]

@[simp] theorem State.updSl_held (s : State) (f) : (State.updSl s f).held = s.held := by
  simp only [State.updSl, ↓held_mk, ↓held_eta, held_eta, held_ite, held_ite2, ite_self, held_foldl, held_foldl1, held_foldl2, forUpTo_held]

@[simp] theorem State.slOverride_held (s : State) (on) : (State.slOverride s on).held = s.held := by
  simp only [State.slOverride, ↓held_mk, ↓held_eta, held_eta, held_ite, held_ite2, ite_self, held_foldl, held_foldl1, held_foldl2, forUpTo_held, State.updSl_held, State.logD_held]

@[simp] theorem State.cmdSluice_held (s : State) (on) : (State.cmdSluice s on).held = s.held := by
  simp only [State.cmdSluice, ↓held_mk, ↓held_eta, held_eta, held_ite, held_ite2, ite_self, held_foldl, held_foldl1, held_foldl2, forUpTo_held, State.slOverride_held, State.authEnd_held]

@[simp] theorem State.raisePoisonClear_held (s : State) (a) : (State.raisePoisonClear s a).held = s.held := by
  simp only [State.raisePoisonClear, ↓held_mk, ↓held_eta, held_eta, held_ite, held_ite2, ite_self, held_foldl, held_foldl1, held_foldl2, forUpTo_held, State.raiseFg_held]

@[simp] theorem State.putKey_held (s : State) (k) : (State.putKey s k).held = s.held := by
  unfold State.putKey
  repeat' split
  all_goals first | rfl | (simp only [↓held_mk, ↓held_eta, held_eta, held_ite, held_ite2, ite_self, held_foldl, held_foldl1, held_foldl2, forUpTo_held, State.setReg_held]; done) | (simp_all only [↓held_mk, ↓held_eta, held_eta, held_ite, held_ite2, ite_self, held_foldl, held_foldl1, held_foldl2, forUpTo_held, State.setReg_held]; done)

@[simp] theorem State.freshCounters_held (s : State) : (State.freshCounters s).held = s.held := by
  simp only [State.freshCounters, ↓held_mk, ↓held_eta, held_eta, held_ite, held_ite2, ite_self, held_foldl, held_foldl1, held_foldl2, forUpTo_held]

@[simp] theorem State.keyDone_held (s : State) (k) : (s.keyDone k).held = s.held := by
  cases k with
  | none => exact State.authEnd_held _
  | some k =>
    exact (State.authEnd_held _).trans ((State.logD_held _ _ _ _ _).trans
      ((State.freshCounters_held _).trans (State.putKey_held _ _)))

@[simp] theorem State.cmdKey_held (s : State) (wrapped) : (s.cmdKey wrapped).held = s.held := by
  unfold State.cmdKey
  exact State.keyDone_held _ _

@[simp] theorem State.applyLean_held (s : State) : (State.applyLean s).held = s.held := by
  simp only [State.applyLean, ↓held_mk, ↓held_eta, held_eta, held_ite, held_ite2, ite_self, held_foldl, held_foldl1, held_foldl2, forUpTo_held, State.enterMode_held]

@[simp] theorem State.enterService_held (s : State) : (State.enterService s).held = s.held := by
  simp only [State.enterService, ↓held_mk, ↓held_eta, held_eta, held_ite, held_ite2, ite_self, held_foldl, held_foldl1, held_foldl2, forUpTo_held, State.enterMode_held]

@[simp] theorem State.testToProve_held (s : State) : (State.testToProve s).held = s.held := by
  simp [State.testToProve]

@[simp] theorem State.modeRefuse_held (s : State) (m) : (State.modeRefuse s m).held = s.held := by
  simp only [State.modeRefuse, ↓held_mk, ↓held_eta, held_eta, held_ite, held_ite2, ite_self, held_foldl, held_foldl1, held_foldl2, forUpTo_held, State.logD_held]

@[simp] theorem State.modeCommand_held (s : State) (m) : (State.modeCommand s m).held = s.held := by
  unfold State.modeCommand
  dsimp only
  repeat' split
  all_goals simp

@[simp] theorem State.cmdNow_held (s : State) (m) : (State.cmdNow s m).held = s.held := by
  simp only [State.cmdNow, ↓held_mk, ↓held_eta, held_eta, held_ite, held_ite2, ite_self, held_foldl, held_foldl1, held_foldl2, forUpTo_held, State.modeCommand_held]

@[simp] theorem State.modeCmd_held (s : State) (m) (at_) : (State.modeCmd s m at_).held = s.held := by
  unfold State.modeCmd
  dsimp only
  repeat' split
  all_goals first | rfl | (simp only [↓held_mk, ↓held_eta, held_eta, held_ite, held_ite2, ite_self, held_foldl, held_foldl1, held_foldl2, forUpTo_held, State.evalAt_held, State.cmdNow_held]; done) | (simp_all only [↓held_mk, ↓held_eta, held_eta, held_ite, held_ite2, ite_self, held_foldl, held_foldl1, held_foldl2, forUpTo_held, State.evalAt_held, State.cmdNow_held]; done)

@[simp] theorem State.cmdMode_held (s : State) (a0) (a1) : (State.cmdMode s a0 a1).held = s.held := by
  unfold State.cmdMode
  repeat' split
  all_goals first | rfl | (simp only [↓held_mk, ↓held_eta, held_eta, held_ite, held_ite2, ite_self, held_foldl, held_foldl1, held_foldl2, forUpTo_held, State.modeCmd_held, State.authEnd_held]; done) | (simp_all only [↓held_mk, ↓held_eta, held_eta, held_ite, held_ite2, ite_self, held_foldl, held_foldl1, held_foldl2, forUpTo_held, State.modeCmd_held, State.authEnd_held]; done)

@[simp] theorem State.cmdReset_held (s : State) : (State.cmdReset s).held = s.held := by
  simp only [State.cmdReset, ↓held_mk, ↓held_eta, held_eta, held_ite, held_ite2, ite_self, held_foldl, held_foldl1, held_foldl2, forUpTo_held, State.authEnd_held]

@[simp] theorem State.cmdLoad_held (s : State) (total) : (State.cmdLoad s total).held = s.held := by
  simp only [State.cmdLoad, ↓held_mk, ↓held_eta, held_eta, held_ite, held_ite2, ite_self, held_foldl, held_foldl1, held_foldl2, forUpTo_held, State.authEnd_held, State.enterMode_held]

@[simp] theorem State.cmdRun_held (s : State) : (s.cmdRun).held = s.held := by
  unfold State.cmdRun
  dsimp only
  split <;> simp only [↓held_mk, ↓held_eta, held_eta, held_ite, held_ite2, ite_self, held_foldl, held_foldl1, held_foldl2, forUpTo_held, State.authEnd_held, State.cmdRetireBed_held, State.cmdRetireMp_held, State.cmdLatch_held, State.cmdFirmware_held, State.cmdSluice_held, State.raisePoisonClear_held, State.cmdKey_held, State.cmdMode_held, State.cmdReset_held, State.cmdLoad_held]

@[simp] theorem State.cmdRefuse_held (s : State) (r) : (State.cmdRefuse s r).held = s.held := by
  simp only [State.cmdRefuse, ↓held_mk, ↓held_eta, held_eta, held_ite, held_ite2, ite_self, held_foldl, held_foldl1, held_foldl2, forUpTo_held, State.count_held, State.logD_held]

@[simp] theorem State.submit_held (s : State) : (State.submit s).held = s.held := by
  unfold State.submit
  repeat' split
  all_goals first | rfl | (simp only [↓held_mk, ↓held_eta, held_eta, held_ite, held_ite2, ite_self, held_foldl, held_foldl1, held_foldl2, forUpTo_held, State.cmdAccept_held, State.cmdRun_held, State.cmdRefuse_held]; done) | (simp_all only [↓held_mk, ↓held_eta, held_eta, held_ite, held_ite2, ite_self, held_foldl, held_foldl1, held_foldl2, forUpTo_held, State.cmdAccept_held, State.cmdRun_held, State.cmdRefuse_held]; done)

@[simp] theorem State.submitBlk_held (s : State) (opc) (c) : (State.submitBlk s opc c).held = s.held := by
  simp only [State.submitBlk, ↓held_mk, ↓held_eta, held_eta, held_ite, held_ite2, ite_self, held_foldl, held_foldl1, held_foldl2, forUpTo_held, State.putBlk_held, State.busAccess_held, State.submit_held]

@[simp] theorem State.sendKn_held (s : State) (l) (e) : (State.sendKn s l e).held = s.held := by
  simp only [State.sendKn, ↓held_mk, ↓held_eta, held_eta, held_ite, held_ite2, ite_self, held_foldl, held_foldl1, held_foldl2, forUpTo_held, State.setKn_held, State.count_held]

@[simp] theorem State.pumpKn_held (s : State) (l skip n) : (s.pumpKn l skip n).held = s.held := by
  induction n generalizing s skip with
  | zero => simp only [State.pumpKn]
  | succ k ih =>
    unfold State.pumpKn
    dsimp only
    repeat' split
    all_goals first | rfl | simp only [ih, ↓held_mk, ↓held_eta, held_eta, held_ite, held_ite2, ite_self, held_foldl, held_foldl1, held_foldl2, forUpTo_held, State.award_held, State.sendKn_held]

@[simp] theorem State.knStalls_held (s : State) (l) : (State.knStalls s l).held = s.held := by
  simp [State.knStalls]

@[simp] theorem State.pumpWrite_held (s : State) (l n) : (s.pumpWrite l n).held = s.held := by
  induction n generalizing s with
  | zero => rfl
  | succ k ih =>
    unfold State.pumpWrite
    dsimp only
    repeat' split
    all_goals first | rfl | (rw [ih]; simp; done)

@[simp] theorem State.sendKnuckle_held (s : State) (l) : (State.sendKnuckle s l).held = s.held := by
  simp only [State.sendKnuckle, ↓held_mk, ↓held_eta, held_eta, held_ite, held_ite2, ite_self, held_foldl, held_foldl1, held_foldl2, forUpTo_held, State.pumpKn_held, State.knStalls_held, State.pumpWrite_held, State.updKn_held]

@[simp] theorem State.hingeStalls_held (s : State) (p) : (State.hingeStalls s p).held = s.held := by
  simp [State.hingeStalls]

@[simp] theorem State.payHinge_held (s : State) (p) : (State.payHinge s p).held = s.held := by
  simp only [State.payHinge, ↓held_mk, ↓held_eta, held_eta, held_ite, held_ite2, ite_self, held_foldl, held_foldl1, held_foldl2, forUpTo_held, State.updHinge_held]

@[simp] theorem State.outArrived_held (s : State) (l) (m) (stamp) : (State.outArrived s l m stamp).held = s.held := by
  unfold State.outArrived
  repeat' split
  all_goals first | rfl | (simp only [↓held_mk, ↓held_eta, held_eta, held_ite, held_ite2, ite_self, held_foldl, held_foldl1, held_foldl2, forUpTo_held, State.toPort_held]; done) | (simp_all only [↓held_mk, ↓held_eta, held_eta, held_ite, held_ite2, ite_self, held_foldl, held_foldl1, held_foldl2, forUpTo_held, State.toPort_held]; done)

theorem State.kDeliver_held (s : State) (l e) (t : State) (h : s.kDeliver l e = some t) : t.held = s.held := by
  unfold State.kDeliver at h
  repeat' split at h
  all_goals first | (cases h; done) | (cases h; simp; done)

@[simp] theorem State.drainRx_held (s : State) (l) : (s.drainRx l).held = s.held := by
  unfold State.drainRx
  split
  · rfl
  · dsimp only
    rw [State.updKn_held]
    refine held_foldl1 _ _ _ (fun t e => ?_)
    split
    · rfl
    · split
      · next h => rw [State.oweK_held]; exact State.kDeliver_held _ _ _ _ h
      · rfl

@[simp] theorem State.markRefd_held (s : State) (c) : (State.markRefd s c).held = s.held := by
  unfold State.markRefd
  repeat' split
  all_goals first | rfl | (simp only [↓held_mk, ↓held_eta, held_eta, held_ite, held_ite2, ite_self, held_foldl, held_foldl1, held_foldl2, forUpTo_held, State.updKn_held, State.updHinge_held]; done) | (simp_all only [↓held_mk, ↓held_eta, held_eta, held_ite, held_ite2, ite_self, held_foldl, held_foldl1, held_foldl2, forUpTo_held, State.updKn_held, State.updHinge_held]; done)

@[simp] theorem State.refusals_held (s : State) (b) : (State.refusals s b).held = s.held := by
  simp [State.refusals]

@[simp] theorem State.forwarded_held (s : State) (p) (o) : (State.forwarded s p o).held = s.held := by
  simp only [State.forwarded, ↓held_mk, ↓held_eta, held_eta, held_ite, held_ite2, ite_self, held_foldl, held_foldl1, held_foldl2, forUpTo_held, State.portSays_held, State.updHinge_held]

@[simp] theorem State.candGone_held (s : State) (c) : (State.candGone s c).held = s.held := by
  unfold State.candGone
  repeat' split
  all_goals first | rfl | (simp only [↓held_mk, ↓held_eta, held_eta, held_ite, held_ite2, ite_self, held_foldl, held_foldl1, held_foldl2, forUpTo_held, State.updKn_held, State.oweK_held, State.drainRx_held, State.updHinge_held, State.forwarded_held]; done) | (simp_all only [↓held_mk, ↓held_eta, held_eta, held_ite, held_ite2, ite_self, held_foldl, held_foldl1, held_foldl2, forUpTo_held, State.updKn_held, State.oweK_held, State.drainRx_held, State.updHinge_held, State.forwarded_held]; done)

@[simp] theorem State.finishMsg_held (s : State) (b) (n) (body) : (State.finishMsg s b n body).held = s.held := by
  simp only [State.finishMsg, ↓held_mk, ↓held_eta, held_eta, held_ite, held_ite2, ite_self, held_foldl, held_foldl1, held_foldl2, forUpTo_held, State.setBed_held]

@[simp] theorem State.xbarIn_held (s : State) (n) : (State.xbarIn s n).held = s.held := by
  simp only [State.xbarIn, ↓held_mk, ↓held_eta, held_eta, held_ite, held_ite2, ite_self, held_foldl, held_foldl1, held_foldl2, forUpTo_held, State.count_held]

theorem State.brinePut_held (s : State) (p port vc body stamp) (t : State) (h : s.brinePut p port vc body stamp = some t) :
    t.held = s.held := by
  unfold State.brinePut at h
  dsimp only at h
  repeat' split at h
  all_goals first | (cases h; simp only [↓held_mk, ↓held_eta, held_eta, held_ite, held_ite2, ite_self, held_foldl, held_foldl1, held_foldl2, forUpTo_held, State.setQueue_held, State.finishMsg_held, State.count_held, State.xbarIn_held]; done) | (cases h; done)

theorem State.nextIn_held (s : State) (b) (x) (h : s.nextIn b = some x) : x.2.held = s.held := by
  unfold State.nextIn at h
  dsimp only at h
  repeat' split at h
  all_goals first
    | (cases h; done)
    | (cases h; rfl)
    | (rw [Option.map_eq_some_iff] at h; obtain ⟨c, -, rfl⟩ := h; simp; done)

@[simp] theorem State.ingress_held (s : State) (b n) : (s.ingress b n).held = s.held := by
  induction n generalizing s with
  | zero => rfl
  | succ k ih =>
    unfold State.ingress
    split
    · rfl
    · next x hx =>
      split
      · rfl
      · next hb => rw [ih, State.candGone_held, State.brinePut_held _ _ _ _ _ _ _ hb, State.nextIn_held _ _ _ hx]

@[simp] theorem State.ingressAll_held (s : State) : (State.ingressAll s).held = s.held := by
  simp [State.ingressAll]

theorem State.transmit_held (s : State) (p m) (t : State) (h : s.transmit p m = some t) : t.held = s.held := by
  unfold State.transmit at h
  dsimp only at h
  split at h
  · cases h
  · cases h; simp only [↓held_mk, ↓held_eta, held_eta, held_ite, held_ite2, ite_self, held_foldl, held_foldl1, held_foldl2, forUpTo_held, State.setHinge_held, State.count_held]

@[simp] theorem State.sendSlot_held (s : State) (p e asks w) : (s.sendSlot p e asks w).held = s.held := by
  unfold State.sendSlot
  extract_lets s1
  have h1 : s1.held = s.held := by simp only [s1, ↓held_mk, ↓held_eta, held_eta, held_ite, held_ite2, ite_self, held_foldl, held_foldl1, held_foldl2, forUpTo_held, State.updHinge_held, State.award_held]
  clear_value s1
  split
  · rfl
  · next h => rw [State.transmit_held _ _ _ _ h, State.updHinge_held, h1]

@[simp] theorem State.pumpPort_held (s : State) (p n) : (s.pumpPort p n).held = s.held := by
  induction n generalizing s with
  | zero => simp only [State.pumpPort]
  | succ k ih =>
    unfold State.pumpPort
    dsimp only
    repeat' split
    all_goals first | rfl | simp only [ih, ↓held_mk, ↓held_eta, held_eta, held_ite, held_ite2, ite_self, held_foldl, held_foldl1, held_foldl2, forUpTo_held, State.award_held, State.sendSlot_held]

@[simp] theorem State.sendHinge_held (s : State) (p) : (s.sendHinge p).held = s.held := by
  unfold State.sendHinge
  dsimp only
  rw [State.pumpPort_held, State.updHinge_held]

@[simp] theorem State.unitsWith_held (s t : State) (src half ch n) : (s.unitsWith t src half ch n).held = t.held := by
  unfold State.unitsWith
  split <;> simp

@[simp] theorem State.release_held (s : State) (p) : (s.release p).held = s.held := by
  unfold State.release
  refine held_foldl _ _ _ (fun t o => ?_)
  split
  · split <;> simp
  · rfl

@[simp] theorem State.mpIssue_held (s : State) (m : Nat) (r : MReq) : (State.mpIssue s m r).held = s.held := by
  first
  | rfl
  | (simp [State.mpIssue]; done)
  | (unfold State.mpIssue; repeat' split
     all_goals first | rfl | (simp [*]; done))
  | (unfold State.mpIssue; dsimp only; repeat' split
     all_goals first | rfl | (simp [*]; done) | (simp_all; done))

@[simp] theorem State.pumpMp_held (s : State) (m : Nat) (n : Nat) : (State.pumpMp s m n).held = s.held := by
  induction n generalizing s with
  | zero => rfl
  | succ k ih =>
    unfold State.pumpMp
    dsimp only
    repeat' split
    all_goals first | rfl | (simp [ih]; done)

@[simp] theorem State.pump_held (s : State) : (State.pump s).held = s.held := by
  simp [State.pump]

@[simp] theorem State.ueRecord_held (s : State) (e) (a) : (State.ueRecord s e a).held = s.held := by
  simp only [State.ueRecord, ↓held_mk, ↓held_eta, held_eta, held_ite, held_ite2, ite_self, held_foldl, held_foldl1, held_foldl2, forUpTo_held, State.logD_held]

@[simp] theorem State.enter_held (s : State) (p) (k) (src) (r) (rsv) (sramBad) (cut) (psi) (tag) (go) : (State.enter s p k src r rsv sramBad cut psi tag go).held = s.held := by
  simp only [State.enter, ↓held_mk, ↓held_eta, held_eta, held_ite, held_ite2, ite_self, held_foldl, held_foldl1, held_foldl2, forUpTo_held, State.start_held, State.addTrk_held, State.count_held]

@[simp] theorem State.nackReq_held (s : State) (p) (r) (rsn) (retry) : (State.nackReq s p r rsn retry).held = s.held := by
  simp only [State.nackReq, ↓held_mk, ↓held_eta, held_eta, held_ite, held_ite2, ite_self, held_foldl, held_foldl1, held_foldl2, forUpTo_held, State.count_held, State.say_held]

@[simp] theorem State.popQueue_held (s : State) (b) (n) : (State.popQueue s b n).held = s.held := by
  simp only [State.popQueue, ↓held_mk, ↓held_eta, held_eta, held_ite, held_ite2, ite_self, held_foldl, held_foldl1, held_foldl2, forUpTo_held, State.updBed_held]

@[simp] theorem State.combDrain_held (s : State) (p) : (State.combDrain s p).held = s.held := by
  simp [State.combDrain]

@[simp] theorem State.readyFor_held (s : State) (p) (r) : (State.readyFor s p r).held = s.held := by
  simp only [State.readyFor, ↓held_mk, ↓held_eta, held_eta, held_ite, held_ite2, ite_self, held_foldl, held_foldl1, held_foldl2, forUpTo_held, State.combDrain_held]

@[simp] theorem State.admitReq_held (s : State) (p) (q) (n) (r) (bad) : (State.admitReq s p q n r bad).held = s.held := by
  unfold State.admitReq
  dsimp only
  repeat' split
  all_goals first | rfl | (simp only [↓held_mk, ↓held_eta, held_eta, held_ite, held_ite2, ite_self, held_foldl, held_foldl1, held_foldl2, forUpTo_held, State.enter_held, State.wake_held, State.nackReq_held, State.count_held, State.updPan_held, State.popQueue_held, State.readyFor_held]; done) | (simp_all only [↓held_mk, ↓held_eta, held_eta, held_ite, held_ite2, ite_self, held_foldl, held_foldl1, held_foldl2, forUpTo_held, State.enter_held, State.wake_held, State.nackReq_held, State.count_held, State.updPan_held, State.popQueue_held, State.readyFor_held]; done)

@[simp] theorem State.absorbWb_held (s : State) (p) (u) (victim) (tag) (r) (bad) : (State.absorbWb s p u victim tag r bad).held = s.held := by
  simp only [State.absorbWb, ↓held_mk, ↓held_eta, held_eta, held_ite, held_ite2, ite_self, held_foldl, held_foldl1, held_foldl2, forUpTo_held, State.progress_held, State.poisonRec_held, State.updTrk_held, State.count_held]

theorem State.meetWb_held (s : State) (p u psi tag r bad) (t : State) (h : s.meetWb p u psi tag r bad = some t) :
    t.held = s.held := by
  unfold State.meetWb at h
  dsimp only at h
  repeat' split at h
  all_goals first | (cases h; simp only [↓held_mk, ↓held_eta, held_eta, held_ite, held_ite2, ite_self, held_foldl, held_foldl1, held_foldl2, forUpTo_held, State.updTrk_held, State.count_held, State.progress_held, State.discardWb_held, State.absorbWb_held]; done) | (cases h; done)

theorem State.admitWb_held (s : State) (p q n r bad) (t : State) (h : s.admitWb p q n r bad = some t) : t.held = s.held := by
  unfold State.admitWb at h
  extract_lets b l psi tag s0 x at h
  have h0 : s0.held = s.held := by simp only [s0, ↓held_mk, ↓held_eta, held_eta, held_ite, held_ite2, ite_self, held_foldl, held_foldl1, held_foldl2, forUpTo_held, State.enter_held, State.popQueue_held, State.wdone_held, State.updPan_held]
  clear_value s0
  split at h
  · cases h; simp only [h0, ↓held_mk, ↓held_eta, held_eta, held_ite, held_ite2, ite_self, held_foldl, held_foldl1, held_foldl2, forUpTo_held, State.enter_held, State.popQueue_held, State.wdone_held, State.updPan_held]
  · split at h
    · rw [State.meetWb_held _ _ _ _ _ _ _ _ h, State.popQueue_held, h0]
    · rw [Option.map_eq_some_iff] at h
      obtain ⟨y, -, rfl⟩ := h
      simp only [h0, ↓held_mk, ↓held_eta, held_eta, held_ite, held_ite2, ite_self, held_foldl, held_foldl1, held_foldl2, forUpTo_held, State.enter_held, State.popQueue_held, State.wdone_held, State.updPan_held]

@[simp] theorem State.admitCut_held (s : State) (p) (q) (n) (m) (r) : (State.admitCut s p q n m r).held = s.held := by
  unfold State.admitCut
  dsimp only
  repeat' split
  all_goals first | rfl | (simp only [↓held_mk, ↓held_eta, held_eta, held_ite, held_ite2, ite_self, held_foldl, held_foldl1, held_foldl2, forUpTo_held, State.enter_held, State.setQueue_held, State.updPan_held, State.popQueue_held, State.readyFor_held]; done) | (simp_all only [↓held_mk, ↓held_eta, held_eta, held_ite, held_ite2, ite_self, held_foldl, held_foldl1, held_foldl2, forUpTo_held, State.enter_held, State.setQueue_held, State.updPan_held, State.popQueue_held, State.readyFor_held]; done)

@[simp] theorem State.waitReq_held (s : State) (p) (q) (r) : (State.waitReq s p q r).held = s.held := by
  simp only [State.waitReq, ↓held_mk, ↓held_eta, held_eta, held_ite, held_ite2, ite_self, held_foldl, held_foldl1, held_foldl2, forUpTo_held, State.wake_held, State.readyFor_held]

@[simp] theorem State.cutEnd_held (s : State) (p) (k) (r) (bad) : (State.cutEnd s p k r bad).held = s.held := by
  unfold State.cutEnd
  repeat' split
  all_goals first | rfl | (simp only [↓held_mk, ↓held_eta, held_eta, held_ite, held_ite2, ite_self, held_foldl, held_foldl1, held_foldl2, forUpTo_held, State.apply_held, State.lostEnd_held, State.updTrk_held]; done) | (simp_all only [↓held_mk, ↓held_eta, held_eta, held_ite, held_ite2, ite_self, held_foldl, held_foldl1, held_foldl2, forUpTo_held, State.apply_held, State.lostEnd_held, State.updTrk_held]; done)

@[simp] theorem State.cutAbort_held (s : State) (p) (k) : (State.cutAbort s p k).held = s.held := by
  unfold State.cutAbort
  repeat' split
  all_goals first | rfl | (simp only [↓held_mk, ↓held_eta, held_eta, held_ite, held_ite2, ite_self, held_foldl, held_foldl1, held_foldl2, forUpTo_held, State.updTrk_held, State.updPan_held, State.dropSpec_held]; done) | (simp_all only [↓held_mk, ↓held_eta, held_eta, held_ite, held_ite2, ite_self, held_foldl, held_foldl1, held_foldl2, forUpTo_held, State.updTrk_held, State.updPan_held, State.dropSpec_held]; done)

@[simp] theorem State.discardMsg_held (s : State) (p) (b) (n) (m) : (State.discardMsg s p b n m).held = s.held := by
  unfold State.discardMsg
  repeat' split
  all_goals first | rfl | (simp only [↓held_mk, ↓held_eta, held_eta, held_ite, held_ite2, ite_self, held_foldl, held_foldl1, held_foldl2, forUpTo_held, State.logD_held, State.count_held, State.popQueue_held, State.cutAbort_held]; done) | (simp_all only [↓held_mk, ↓held_eta, held_eta, held_ite, held_ite2, ite_self, held_foldl, held_foldl1, held_foldl2, forUpTo_held, State.logD_held, State.count_held, State.popQueue_held, State.cutAbort_held]; done)

@[simp] theorem State.underrun_held (s : State) (b) (n) : (State.underrun s b n).held = s.held := by
  simp only [State.underrun, ↓held_mk, ↓held_eta, held_eta, held_ite, held_ite2, ite_self, held_foldl, held_foldl1, held_foldl2, forUpTo_held, State.setQueue_held, State.count_held, State.logD_held]

@[simp] theorem State.takeReq_held (s : State) (p q opc) : (s.takeReq p q opc).held = s.held := by
  unfold State.takeReq
  extract_lets b n
  split
  · rfl
  · split
    · simp only [↓held_mk, ↓held_eta, held_eta, held_ite, held_ite2, ite_self, held_foldl, held_foldl1, held_foldl2, forUpTo_held, State.admitReq_held, State.admitCut_held, State.waitReq_held, State.cutEnd_held, State.popQueue_held, State.discardMsg_held, State.underrun_held]
    · next m _ _ =>
      split
      · simp only [↓held_mk, ↓held_eta, held_eta, held_ite, held_ite2, ite_self, held_foldl, held_foldl1, held_foldl2, forUpTo_held, State.admitReq_held, State.admitCut_held, State.waitReq_held, State.cutEnd_held, State.popQueue_held, State.discardMsg_held, State.underrun_held]
      · split
        · rfl
        · next r _ =>
          split
          · rfl
          · split
            · split <;> simp only [↓held_mk, ↓held_eta, held_eta, held_ite, held_ite2, ite_self, held_foldl, held_foldl1, held_foldl2, forUpTo_held, State.admitReq_held, State.admitCut_held, State.waitReq_held, State.cutEnd_held, State.popQueue_held, State.discardMsg_held, State.underrun_held]
            · split
              · split
                · rfl
                · simp only [↓held_mk, ↓held_eta, held_eta, held_ite, held_ite2, ite_self, held_foldl, held_foldl1, held_foldl2, forUpTo_held, State.admitReq_held, State.admitCut_held, State.waitReq_held, State.cutEnd_held, State.popQueue_held, State.discardMsg_held, State.underrun_held]
              · next t hs =>
                have h2 : t.held = s.held := by
                  split at hs
                  · exact State.slot_held _ _ _ _ _ hs
                  · cases hs
                split
                · simp only [h2, ↓held_mk, ↓held_eta, held_eta, held_ite, held_ite2, ite_self, held_foldl, held_foldl1, held_foldl2, forUpTo_held, State.admitReq_held, State.admitCut_held, State.waitReq_held, State.cutEnd_held, State.popQueue_held, State.discardMsg_held, State.underrun_held]
                · split
                  · cases hw : State.admitWb t p q n r m.bad with
                    | none => exact h2
                    | some u => exact (State.admitWb_held _ _ _ _ _ _ _ hw).trans h2
                  · simp only [h2, ↓held_mk, ↓held_eta, held_eta, held_ite, held_ite2, ite_self, held_foldl, held_foldl1, held_foldl2, forUpTo_held, State.admitReq_held, State.admitCut_held, State.waitReq_held, State.cutEnd_held, State.popQueue_held, State.discardMsg_held, State.underrun_held]

@[simp] theorem State.hvTimed_held (s : State) : (State.hvTimed s).held = s.held := by
  unfold State.hvTimed
  dsimp only
  repeat' split
  all_goals first | rfl | (simp only [↓held_mk, ↓held_eta, held_eta, held_ite, held_ite2, ite_self, held_foldl, held_foldl1, held_foldl2, forUpTo_held, State.evalAt_held]; done) | (simp_all only [↓held_mk, ↓held_eta, held_eta, held_ite, held_ite2, ite_self, held_foldl, held_foldl1, held_foldl2, forUpTo_held, State.evalAt_held]; done)

@[simp] theorem State.hvClear_held (s : State) : (State.hvClear s).held = s.held := by
  simp only [State.hvClear, ↓held_mk, ↓held_eta, held_eta, held_ite, held_ite2, ite_self, held_foldl, held_foldl1, held_foldl2, forUpTo_held]

@[simp] theorem State.hvSetPeriod_held (s : State) (v) : (State.hvSetPeriod s v).held = s.held := by
  simp only [State.hvSetPeriod, ↓held_mk, ↓held_eta, held_eta, held_ite, held_ite2, ite_self, held_foldl, held_foldl1, held_foldl2, forUpTo_held, State.setReg_held]

@[simp] theorem State.wrHvCtl_held (s : State) (v) : (State.wrHvCtl s v).held = s.held := by
  simp only [State.wrHvCtl, ↓held_mk, ↓held_eta, held_eta, held_ite, held_ite2, ite_self, held_foldl, held_foldl1, held_foldl2, forUpTo_held, State.hvTimed_held, State.hvClear_held, State.hvSetPeriod_held]

@[simp] theorem State.setG_held (s : State) (e) (r) (v) : (State.setG s e r v).held = s.held := by
  simp only [State.setG, ↓held_mk, ↓held_eta, held_eta, held_ite, held_ite2, ite_self, held_foldl, held_foldl1, held_foldl2, forUpTo_held, State.updEng_held]

@[simp] theorem State.retire_held (s : State) (e) (m) (i) (hold) : (State.retire s e m i hold).held = s.held := by
  simp only [State.retire, ↓held_mk, ↓held_eta, held_eta, held_ite, held_ite2, ite_self, held_foldl, held_foldl1, held_foldl2, forUpTo_held, State.count_held, State.updEng_held]

@[simp] theorem State.engHalt_held (s : State) (p) (code) (cause) : (State.engHalt s p code cause).held = s.held := by
  simp only [State.engHalt, ↓held_mk, ↓held_eta, held_eta, held_ite, held_ite2, ite_self, held_foldl, held_foldl1, held_foldl2, forUpTo_held, State.updEng_held, State.logD_held]

@[simp] theorem State.engCount_held (s : State) (e) (k) (c) : (State.engCount s e k c).held = s.held := by
  simp only [State.engCount, ↓held_mk, ↓held_eta, held_eta, held_ite, held_ite2, ite_self, held_foldl, held_foldl1, held_foldl2, forUpTo_held, State.count_held]

@[simp] theorem State.stepNoted_held (s : State) (e : Nat) : (State.stepNoted s e).held = s.held := by
  first
  | rfl
  | (simp [State.stepNoted]; done)
  | (unfold State.stepNoted; repeat' split
     all_goals first | rfl | (simp [*]; done))
  | (unfold State.stepNoted; dsimp only; repeat' split
     all_goals first | rfl | (simp [*]; done) | (simp_all; done))

@[simp] theorem State.stepLimit_held (s : State) (e : Nat) : (State.stepLimit s e).held = s.held := by
  first
  | rfl
  | (simp [State.stepLimit]; done)
  | (unfold State.stepLimit; repeat' split
     all_goals first | rfl | (simp [*]; done))
  | (unfold State.stepLimit; dsimp only; repeat' split
     all_goals first | rfl | (simp [*]; done) | (simp_all; done))

@[simp] theorem State.raise_held (s : State) (vs) : (State.raise s vs).held = s.held := by
  simp only [State.raise, ↓held_mk, ↓held_eta, held_eta, held_ite, held_ite2, ite_self, held_foldl, held_foldl1, held_foldl2, forUpTo_held, State.raiseVecs_held]

@[simp] theorem State.doubleFault_held (s : State) (e) : (State.doubleFault s e).held = s.held := by
  simp only [State.doubleFault, ↓held_mk, ↓held_eta, held_eta, held_ite, held_ite2, ite_self, held_foldl, held_foldl1, held_foldl2, forUpTo_held, State.updEng_held, State.logD_held, State.raise_held, State.engHalt_held]

@[simp] theorem State.exc_held (s : State) (e code eval) : (s.exc e code eval).held = s.held := by
  unfold State.exc
  dsimp only
  repeat' split
  all_goals simp

@[simp] theorem State.predicted_held (s : State) (e : Nat) (taken : Bool) : (State.predicted s e taken).held = s.held := by
  first
  | rfl
  | (simp [State.predicted]; done)
  | (unfold State.predicted; repeat' split
     all_goals first | rfl | (simp [*]; done))
  | (unfold State.predicted; dsimp only; repeat' split
     all_goals first | rfl | (simp [*]; done) | (simp_all; done))

@[simp] theorem State.kicks_held (s : State) (p) : (State.kicks s p).held = s.held := by
  simp [State.kicks]

@[simp] theorem State.fillFg_held (s : State) (p) : (State.fillFg s p).held = s.held := by
  simp [State.fillFg]

@[simp] theorem State.authStep_held (s : State) (typ) (p) : (State.authStep s typ p).held = s.held := by
  simp only [State.authStep, ↓held_mk, ↓held_eta, held_eta, held_ite, held_ite2, ite_self, held_foldl, held_foldl1, held_foldl2, forUpTo_held, State.authEnd_held]

@[simp] theorem State.complete_held (s : State) (p) : (State.complete s p).2.held = s.held := by
  unfold State.complete
  repeat' split
  all_goals first | rfl | (simp only [↓held_mk, ↓held_eta, held_eta, held_ite, held_ite2, ite_self, held_foldl, held_foldl1, held_foldl2, forUpTo_held, State.fillFg_held, State.authStep_held, State.progress_held, State.updTrk_held, State.updPan_held, State.count_held]; done) | (simp_all only [↓held_mk, ↓held_eta, held_eta, held_ite, held_ite2, ite_self, held_foldl, held_foldl1, held_foldl2, forUpTo_held, State.fillFg_held, State.authStep_held, State.progress_held, State.updTrk_held, State.updPan_held, State.count_held]; done)

theorem State.runIns_held (s : State) (e i body) (h : (body s).keeps s.held) : (s.runIns e i body).held = s.held := by
  unfold State.runIns
  dsimp only
  split
  · rfl
  · split
    · simp
    · cases hb : body s <;> rw [hb] at h <;> simp only [Done.keeps] at h
      case branch => dsimp only; split <;> simp
      all_goals first | (simp [h]; done) | exact h

@[simp] theorem State.runG_held (s : State) (e i rd f) : (s.runG e i rd f).held = s.held :=
  State.runIns_held _ _ _ _ (by simp only [Done.keeps, State.setG_held])

@[simp] theorem State.runBin_held (s : State) (e) (op) (fn) (a) (f) : (State.runBin s e op fn a f).held = s.held := by
  simp [State.runBin]

@[simp] theorem State.collExpire_held (s : State) (k tgt) : (s.collExpire k tgt).held = s.held := by
  unfold State.collExpire
  split
  · rfl
  · split
    · next x a _ _ =>
      generalize hs : s.setColl k _ = s1
      have h1 : s1.held = s.held := by rw [← hs, State.setColl_held]
      clear hs
      simp only [h1, ↓held_mk, ↓held_eta, held_eta, held_ite, held_ite2, ite_self, held_foldl, held_foldl1, held_foldl2, forUpTo_held, State.notice_held, State.logErr_held, State.collDone_held, State.setColl_held]
    · rfl

@[simp] theorem State.sharerAnswer_held (s : State) (p) (t) (v) (a) : (State.sharerAnswer s p t v a).held = s.held := by
  unfold State.sharerAnswer
  repeat' split
  all_goals first | rfl | (simp only [↓held_mk, ↓held_eta, held_eta, held_ite, held_ite2, ite_self, held_foldl, held_foldl1, held_foldl2, forUpTo_held, State.logErr_held, State.updTrk_held]; done) | (simp_all only [↓held_mk, ↓held_eta, held_eta, held_ite, held_ite2, ite_self, held_foldl, held_foldl1, held_foldl2, forUpTo_held, State.logErr_held, State.updTrk_held]; done)

@[simp] theorem State.takeRxNote_held (s : State) (f) : (State.takeRxNote s f).held = s.held := by
  unfold State.takeRxNote
  extract_lets
  repeat' split
  all_goals first | rfl | (simp only [↓held_mk, ↓held_eta, held_eta, held_ite, held_ite2, ite_self, held_foldl, held_foldl1, held_foldl2, forUpTo_held, State.setKn_held, State.oweK_held]; done) | (simp_all only [↓held_mk, ↓held_eta, held_eta, held_ite, held_ite2, ite_self, held_foldl, held_foldl1, held_foldl2, forUpTo_held, State.setKn_held, State.oweK_held]; done)

@[simp] theorem State.rakeStart_held (s : State) (b) : (State.rakeStart s b).held = s.held := by
  simp only [State.rakeStart, ↓held_mk, ↓held_eta, held_eta, held_ite, held_ite2, ite_self, held_foldl, held_foldl1, held_foldl2, forUpTo_held, State.updBed_held]

@[simp] theorem State.poisonTrk_held (s : State) (p) (psi) (tag) : (State.poisonTrk s p psi tag).held = s.held := by
  unfold State.poisonTrk
  repeat' split
  all_goals first | rfl | (simp only [↓held_mk, ↓held_eta, held_eta, held_ite, held_ite2, ite_self, held_foldl, held_foldl1, held_foldl2, forUpTo_held, State.start_held, State.addTrk_held, State.updPan_held]; done) | (simp_all only [↓held_mk, ↓held_eta, held_eta, held_ite, held_ite2, ite_self, held_foldl, held_foldl1, held_foldl2, forUpTo_held, State.start_held, State.addTrk_held, State.updPan_held]; done)

@[simp] theorem State.runF_held (s : State) (e fn unary a f) : (s.runF e fn unary a f).held = s.held :=
  State.runIns_held _ _ _ _ (by simp only [Done.keeps, State.setG_held, State.updEng_held])

@[simp] theorem State.denied_held (s : State) (c) (o) : (State.denied s c o).held = s.held := by
  simp only [State.denied, ↓held_mk, ↓held_eta, held_eta, held_ite, held_ite2, ite_self, held_foldl, held_foldl1, held_foldl2, forUpTo_held, State.count_held, State.logD_held]

@[simp] theorem State.wrPlain_held (s : State) (r) (v) : (State.wrPlain s r v).held = s.held := by
  simp only [State.wrPlain, ↓held_mk, ↓held_eta, held_eta, held_ite, held_ite2, ite_self, held_foldl, held_foldl1, held_foldl2, forUpTo_held, State.setReg_held]

@[simp] theorem State.wrMsg_held (s : State) (c) (w) (v) : (State.wrMsg s c w v).held = s.held := by
  simp only [State.wrMsg, ↓held_mk, ↓held_eta, held_eta, held_ite, held_ite2, ite_self, held_foldl, held_foldl1, held_foldl2, forUpTo_held, State.raise_held, State.setReg_held]

@[simp] theorem State.wrBellAck_held (s : State) (c) (v) : (State.wrBellAck s c v).held = s.held := by
  simp only [State.wrBellAck, ↓held_mk, ↓held_eta, held_eta, held_ite, held_ite2, ite_self, held_foldl, held_foldl1, held_foldl2, forUpTo_held, State.updEng_held]

@[simp] theorem State.wrBell_held (s : State) (c) (v) : (State.wrBell s c v).held = s.held := by
  simp only [State.wrBell, ↓held_mk, ↓held_eta, held_eta, held_ite, held_ite2, ite_self, held_foldl, held_foldl1, held_foldl2, forUpTo_held, State.updEng_held]

@[simp] theorem State.wrTimer_held (s : State) (c) (v) : (State.wrTimer s c v).held = s.held := by
  unfold State.wrTimer
  dsimp only
  repeat' split
  all_goals first | rfl | (simp only [↓held_mk, ↓held_eta, held_eta, held_ite, held_ite2, ite_self, held_foldl, held_foldl1, held_foldl2, forUpTo_held, State.evalAt_held, State.setReg_held, State.updEng_held]; done) | (simp_all only [↓held_mk, ↓held_eta, held_eta, held_ite, held_ite2, ite_self, held_foldl, held_foldl1, held_foldl2, forUpTo_held, State.evalAt_held, State.setReg_held, State.updEng_held]; done)

@[simp] theorem State.wrSmCtl_held (s : State) (c) (v) : (State.wrSmCtl s c v).held = s.held := by
  simp only [State.wrSmCtl, ↓held_mk, ↓held_eta, held_eta, held_ite, held_ite2, ite_self, held_foldl, held_foldl1, held_foldl2, forUpTo_held, State.coreStart_held, State.coreReset_held, State.setReg_held]

@[simp] theorem State.violation_held (s : State) (w) (kind) (off) (data) : (State.violation s w kind off data).held = s.held := by
  simp only [State.violation, ↓held_mk, ↓held_eta, held_eta, held_ite, held_ite2, ite_self, held_foldl, held_foldl1, held_foldl2, forUpTo_held, State.raise_held]

theorem State.wrKey_held (s : State) (w k v) (h : s.held.keyOk = true) : (s.wrKey w k v).held = s.held := by
  unfold State.wrKey
  split
  · simp only [↓held_mk, ↓held_eta, held_eta, held_ite, held_ite2, ite_self, held_foldl, held_foldl1, held_foldl2, forUpTo_held, State.setReg_held, State.count_held, State.violation_held]
  · extract_lets s1 m
    have h1 : s1.held = s.held := by simp only [s1, ↓held_mk, ↓held_eta, held_eta, held_ite, held_ite2, ite_self, held_foldl, held_foldl1, held_foldl2, forUpTo_held, State.setReg_held, State.count_held, State.violation_held]
    clear_value s1
    have : (s1.held) = ⟨s1.pending, s1.mode.devid, s1.mode.head, s1.img.keySet == (s1.img.keyWritten == 15)⟩ := rfl
    rw [← h1] at h ⊢
    rw [this] at h ⊢
    simp only [held_mk] at h ⊢
    rw [h]
    simp

@[simp] theorem State.mbxPut_held (s : State) (m w) : (s.mbxPut m w).held = s.held := by
  unfold State.mbxPut
  extract_lets lost s1
  have h1 : s1.held = s.held := forUpTo_held _ _ _ (fun k t => by simp only [↓held_mk, ↓held_eta, held_eta, held_ite, held_ite2, ite_self, held_foldl, held_foldl1, held_foldl2, forUpTo_held, State.setReg_held])
  clear_value s1
  simp only [h1, ↓held_mk, ↓held_eta, held_eta, held_ite, held_ite2, ite_self, held_foldl, held_foldl1, held_foldl2, forUpTo_held, State.setReg_held]

@[simp] theorem State.mbxFillCore_held (s : State) (m) : (State.mbxFillCore s m).held = s.held := by
  unfold State.mbxFillCore
  dsimp only
  repeat' split
  all_goals simp

@[simp] theorem State.mbxFill0_held (s : State) : (State.mbxFill0 s).held = s.held := by
  unfold State.mbxFill0
  dsimp only
  repeat' split
  all_goals simp

@[simp] theorem State.mbxFill_held (s : State) (m) : (State.mbxFill s m).held = s.held := by
  simp only [State.mbxFill, ↓held_mk, ↓held_eta, held_eta, held_ite, held_ite2, ite_self, held_foldl, held_foldl1, held_foldl2, forUpTo_held, State.mbxFillCore_held, State.mbxFill0_held]

@[simp] theorem State.wrMbxDone_held (s : State) (m) (v) : (State.wrMbxDone s m v).held = s.held := by
  simp only [State.wrMbxDone, ↓held_mk, ↓held_eta, held_eta, held_ite, held_ite2, ite_self, held_foldl, held_foldl1, held_foldl2, forUpTo_held, State.mbxFill_held]

@[simp] theorem State.wrMbxStatus_held (s : State) (m) (v) : (State.wrMbxStatus s m v).held = s.held := by
  simp only [State.wrMbxStatus, ↓held_mk, ↓held_eta, held_eta, held_ite, held_ite2, ite_self, held_foldl, held_foldl1, held_foldl2, forUpTo_held]

@[simp] theorem State.wrMbxSel_held (s : State) (m) (v) : (State.wrMbxSel s m v).held = s.held := by
  simp only [State.wrMbxSel, ↓held_mk, ↓held_eta, held_eta, held_ite, held_ite2, ite_self, held_foldl, held_foldl1, held_foldl2, forUpTo_held, State.mbxFill_held, State.setReg_held]

@[simp] theorem State.latRelease_held (s : State) (n) (w) : (State.latRelease s n w).held = s.held := by
  simp only [State.latRelease, ↓held_mk, ↓held_eta, held_eta, held_ite, held_ite2, ite_self, held_foldl, held_foldl1, held_foldl2, forUpTo_held, State.logD_held]

@[simp] theorem State.latAcquire_held (s : State) (n) (w) : (State.latAcquire s n w).held = s.held := by
  simp only [State.latAcquire, ↓held_mk, ↓held_eta, held_eta, held_ite, held_ite2, ite_self, held_foldl, held_foldl1, held_foldl2, forUpTo_held, State.count_held]

@[simp] theorem State.wrLatch_held (s : State) (n) (w) (v) : (State.wrLatch s n w v).held = s.held := by
  unfold State.wrLatch
  repeat' split
  all_goals first | rfl | (simp only [↓held_mk, ↓held_eta, held_eta, held_ite, held_ite2, ite_self, held_foldl, held_foldl1, held_foldl2, forUpTo_held, State.latRelease_held, State.latAcquire_held]; done) | (simp_all only [↓held_mk, ↓held_eta, held_eta, held_ite, held_ite2, ite_self, held_foldl, held_foldl1, held_foldl2, forUpTo_held, State.latRelease_held, State.latAcquire_held]; done)

@[simp] theorem State.putReq_held (s : State) (b) (v) : (State.putReq s b v).held = s.held := by
  simp only [State.putReq, ↓held_mk, ↓held_eta, held_eta, held_ite, held_ite2, ite_self, held_foldl, held_foldl1, held_foldl2, forUpTo_held, State.setReg_held, State.updBed_held]

@[simp] theorem State.wrBedReq_held (s : State) (b) (v) : (State.wrBedReq s b v).held = s.held := by
  simp only [State.wrBedReq, ↓held_mk, ↓held_eta, held_eta, held_ite, held_ite2, ite_self, held_foldl, held_foldl1, held_foldl2, forUpTo_held, State.putReq_held, State.updSl_held]

@[simp] theorem State.pdnCore_held (s : State) (c) (on) : (State.pdnCore s c on).held = s.held := by
  simp only [State.pdnCore, ↓held_mk, ↓held_eta, held_eta, held_ite, held_ite2, ite_self, held_foldl, held_foldl1, held_foldl2, forUpTo_held, State.coreStart_held, State.setEng_held, State.latBreakOf_held, State.setRf_held]

@[simp] theorem State.setHalf_held (s : State) (m) (h) (x) : (State.setHalf s m h x).held = s.held := by
  simp only [State.setHalf, ↓held_mk, ↓held_eta, held_eta, held_ite, held_ite2, ite_self, held_foldl, held_foldl1, held_foldl2, forUpTo_held, State.updMp_held]

@[simp] theorem State.mpPdn_held (s : State) (m) : (State.mpPdn s m).held = s.held := by
  simp only [State.mpPdn, ↓held_mk, ↓held_eta, held_eta, held_ite, held_ite2, ite_self, held_foldl, held_foldl1, held_foldl2, forUpTo_held, State.updMp_held]

@[simp] theorem State.pdnMp_held (s : State) (m) (on) : (State.pdnMp s m on).held = s.held := by
  simp only [State.pdnMp, ↓held_mk, ↓held_eta, held_eta, held_ite, held_ite2, ite_self, held_foldl, held_foldl1, held_foldl2, forUpTo_held, State.setHalf_held, State.updMp_held, State.setRf_held, State.mpPdn_held, State.logD_held]

@[simp] theorem State.wrPdn_held (s : State) (v) : (State.wrPdn s v).held = s.held := by
  simp [State.wrPdn]

@[simp] theorem State.stepCommit_held (s : State) : (s.stepCommit).held = s.held := by
  unfold State.stepCommit
  rw [forUpTo_held _ _ _ (fun k t => by split <;> simp only [↓held_mk, ↓held_eta, held_eta, held_ite, held_ite2, ite_self, held_foldl, held_foldl1, held_foldl2, forUpTo_held, State.updSl_held, State.putReq_held])]
  simp only [↓held_mk, ↓held_eta, held_eta, held_ite, held_ite2, ite_self, held_foldl, held_foldl1, held_foldl2, forUpTo_held, State.updSl_held, State.putReq_held]

@[simp] theorem State.wrStepCtl_held (s : State) (v) : (State.wrStepCtl s v).held = s.held := by
  unfold State.wrStepCtl
  dsimp only
  repeat' split
  all_goals first | rfl | (simp only [↓held_mk, ↓held_eta, held_eta, held_ite, held_ite2, ite_self, held_foldl, held_foldl1, held_foldl2, forUpTo_held, State.evalAt_held, State.stepCommit_held, State.updSl_held, State.setReg_held]; done) | (simp_all only [↓held_mk, ↓held_eta, held_eta, held_ite, held_ite2, ite_self, held_foldl, held_foldl1, held_foldl2, forUpTo_held, State.evalAt_held, State.stepCommit_held, State.updSl_held, State.setReg_held]; done)

@[simp] theorem State.wrDisc_held (s : State) : (State.wrDisc s).held = s.held := by
  simp only [State.wrDisc, ↓held_mk, ↓held_eta, held_eta, held_ite, held_ite2, ite_self, held_foldl, held_foldl1, held_foldl2, forUpTo_held, State.updSl_held, State.raise_held, State.applyLean_held]

@[simp] theorem State.wrDumpCtl_held (s : State) (v) : (State.wrDumpCtl s v).held = s.held := by
  simp only [State.wrDumpCtl, ↓held_mk, ↓held_eta, held_eta, held_ite, held_ite2, ite_self, held_foldl, held_foldl1, held_foldl2, forUpTo_held, State.setReg_held, State.checkRing_held]

@[simp] theorem State.wrDumpBase_held (s : State) (v) : (State.wrDumpBase s v).held = s.held := by
  simp only [State.wrDumpBase, ↓held_mk, ↓held_eta, held_eta, held_ite, held_ite2, ite_self, held_foldl, held_foldl1, held_foldl2, forUpTo_held, State.setReg_held, State.checkRing_held]

@[simp] theorem State.updMt_held (s : State) (f) : (State.updMt s f).held = s.held := by
  simp only [State.updMt, ↓held_mk, ↓held_eta, held_eta, held_ite, held_ite2, ite_self, held_foldl, held_foldl1, held_foldl2, forUpTo_held]

@[simp] theorem State.applyNext_held (s : State) : (State.applyNext s).held = s.held := by
  first
  | rfl
  | (simp [State.applyNext]; done)
  | (unfold State.applyNext; repeat' split
     all_goals first | rfl | (simp [*]; done))
  | (unfold State.applyNext; dsimp only; repeat' split
     all_goals first | rfl | (simp [*]; done) | (simp_all; done))

@[simp] theorem State.wrMtCtl_held (s : State) (v : Nat) : (State.wrMtCtl s v).held = s.held := by
  first
  | rfl
  | (simp [State.wrMtCtl]; done)
  | (unfold State.wrMtCtl; repeat' split
     all_goals first | rfl | (simp [*]; done))
  | (unfold State.wrMtCtl; dsimp only; repeat' split
     all_goals first | rfl | (simp [*]; done) | (simp_all; done))

@[simp] theorem State.routeCommit_held (s : State) : (State.routeCommit s).held = s.held := by
  simp [State.routeCommit]

@[simp] theorem State.routeNow_held (s : State) : (State.routeNow s).held = s.held := by
  simp only [State.routeNow, ↓held_mk, ↓held_eta, held_eta, held_ite, held_ite2, ite_self, held_foldl, held_foldl1, held_foldl2, forUpTo_held, State.routeCommit_held]

@[simp] theorem State.routeTimed_held (s : State) : (State.routeTimed s).held = s.held := by
  unfold State.routeTimed
  dsimp only
  repeat' split
  all_goals first | rfl | (simp only [↓held_mk, ↓held_eta, held_eta, held_ite, held_ite2, ite_self, held_foldl, held_foldl1, held_foldl2, forUpTo_held, State.routeNow_held, State.evalAt_held]; done) | (simp_all only [↓held_mk, ↓held_eta, held_eta, held_ite, held_ite2, ite_self, held_foldl, held_foldl1, held_foldl2, forUpTo_held, State.routeNow_held, State.evalAt_held]; done)

@[simp] theorem State.routeClear_held (s : State) : (State.routeClear s).held = s.held := by
  simp only [State.routeClear, ↓held_mk, ↓held_eta, held_eta, held_ite, held_ite2, ite_self, held_foldl, held_foldl1, held_foldl2, forUpTo_held]

@[simp] theorem State.wrRoute_held (s : State) (v) : (State.wrRoute s v).held = s.held := by
  simp only [State.wrRoute, ↓held_mk, ↓held_eta, held_eta, held_ite, held_ite2, ite_self, held_foldl, held_foldl1, held_foldl2, forUpTo_held, State.routeTimed_held, State.routeClear_held, State.routeNow_held, State.setReg_held]

@[simp] theorem State.bistEngines_held (s : State) : (State.bistEngines s).held = s.held := by
  simp [State.bistEngines]

@[simp] theorem State.wrBist_held (s : State) (v) : (State.wrBist s v).held = s.held := by
  simp only [State.wrBist, ↓held_mk, ↓held_eta, held_eta, held_ite, held_ite2, ite_self, held_foldl, held_foldl1, held_foldl2, forUpTo_held, State.bistEngines_held, State.setReg_held]

@[simp] theorem State.wrLock_held (s : State) (v) : (State.wrLock s v).held = s.held := by
  simp only [State.wrLock, ↓held_mk, ↓held_eta, held_eta, held_ite, held_ite2, ite_self, held_foldl, held_foldl1, held_foldl2, forUpTo_held]

@[simp] theorem State.modeRequest_held (s : State) (req) : (s.modeRequest req).held = s.held := by
  unfold State.modeRequest
  split
  · simp only [↓held_mk, ↓held_eta, held_eta, held_ite, held_ite2, ite_self, held_foldl, held_foldl1, held_foldl2, forUpTo_held, State.enterMode_held, State.enterService_held, State.modeRefuse_held]
  · split <;> simp only [↓held_mk, ↓held_eta, held_eta, held_ite, held_ite2, ite_self, held_foldl, held_foldl1, held_foldl2, forUpTo_held, State.enterMode_held, State.enterService_held, State.modeRefuse_held]

@[simp] theorem State.modeNow_held (s : State) : (State.modeNow s).held = s.held := by
  simp only [State.modeNow, ↓held_mk, ↓held_eta, held_eta, held_ite, held_ite2, ite_self, held_foldl, held_foldl1, held_foldl2, forUpTo_held, State.modeRequest_held]

@[simp] theorem State.modeTimed_held (s : State) : (State.modeTimed s).held = s.held := by
  unfold State.modeTimed
  dsimp only
  repeat' split
  all_goals first | rfl | (simp only [↓held_mk, ↓held_eta, held_eta, held_ite, held_ite2, ite_self, held_foldl, held_foldl1, held_foldl2, forUpTo_held, State.modeNow_held, State.evalAt_held]; done) | (simp_all only [↓held_mk, ↓held_eta, held_eta, held_ite, held_ite2, ite_self, held_foldl, held_foldl1, held_foldl2, forUpTo_held, State.modeNow_held, State.evalAt_held]; done)

@[simp] theorem State.modeClear_held (s : State) : (State.modeClear s).held = s.held := by
  simp only [State.modeClear, ↓held_mk, ↓held_eta, held_eta, held_ite, held_ite2, ite_self, held_foldl, held_foldl1, held_foldl2, forUpTo_held]

@[simp] theorem State.modeCtlReg_held (s : State) (v) : (State.modeCtlReg s v).held = s.held := by
  simp only [State.modeCtlReg, ↓held_mk, ↓held_eta, held_eta, held_ite, held_ite2, ite_self, held_foldl, held_foldl1, held_foldl2, forUpTo_held, State.setReg_held]

@[simp] theorem State.wrModeCtl_held (s : State) (v) : (State.wrModeCtl s v).held = s.held := by
  simp only [State.wrModeCtl, ↓held_mk, ↓held_eta, held_eta, held_ite, held_ite2, ite_self, held_foldl, held_foldl1, held_foldl2, forUpTo_held, State.modeTimed_held, State.modeClear_held, State.modeNow_held, State.modeCtlReg_held]

@[simp] theorem State.wrAddrProbe_held (s : State) (v) : (s.wrAddrProbe v).held = s.held := by
  unfold State.wrAddrProbe
  extract_lets s1
  have h1 : s1.held = s.held := by simp only [s1, ↓held_mk, ↓held_eta, held_eta, held_ite, held_ite2, ite_self, held_foldl, held_foldl1, held_foldl2, forUpTo_held, State.setReg_held, State.setRf_held]
  clear_value s1
  simp only [h1, ↓held_mk, ↓held_eta, held_eta, held_ite, held_ite2, ite_self, held_foldl, held_foldl1, held_foldl2, forUpTo_held, State.setReg_held, State.setRf_held]

theorem State.wrSvc_held (s : State) (w r v) (h : s.held.keyOk = true) : (s.wrSvc w r v).held = s.held := by
  unfold State.wrSvc
  dsimp only
  split
  case h_24 => exact State.wrKey_held _ _ _ _ h
  all_goals simp only [↓held_mk, ↓held_eta, held_eta, held_ite, held_ite2, ite_self, held_foldl, held_foldl1, held_foldl2, forUpTo_held, State.wrPlain_held, State.wrMsg_held, State.wrBellAck_held, State.wrBell_held, State.wrTimer_held, State.wrSmCtl_held, State.setReg_held, State.wrMbxDone_held, State.wrMbxStatus_held, State.wrMbxSel_held, State.wrLatch_held, State.wrBedReq_held, State.wrPdn_held, State.wrStepCtl_held, State.wrDisc_held, State.wrDumpCtl_held, State.wrDumpBase_held, State.wrHvCtl_held, State.wrMtCtl_held, State.updMt_held, State.wrRoute_held, State.wrBist_held, State.wrLock_held, State.wrModeCtl_held, State.wrAddrProbe_held]

@[simp] theorem State.bwStart_held (s : State) (b) (ok) (t) : (State.bwStart s b ok t).held = s.held := by
  unfold State.bwStart
  repeat' split
  all_goals first | rfl | (simp only [↓held_mk, ↓held_eta, held_eta, held_ite, held_ite2, ite_self, held_foldl, held_foldl1, held_foldl2, forUpTo_held, State.updMp_held, State.updKn_held, State.updHinge_held]; done) | (simp_all only [↓held_mk, ↓held_eta, held_eta, held_ite, held_ite2, ite_self, held_foldl, held_foldl1, held_foldl2, forUpTo_held, State.updMp_held, State.updKn_held, State.updHinge_held]; done)

@[simp] theorem State.wrBwCtl_held (s : State) (b) (v) : (State.wrBwCtl s b v).held = s.held := by
  simp only [State.wrBwCtl, ↓held_mk, ↓held_eta, held_eta, held_ite, held_ite2, ite_self, held_foldl, held_foldl1, held_foldl2, forUpTo_held, State.setReg_held, State.bwStart_held]

@[simp] theorem State.setArbPend_held (s : State) (b) (x) : (State.setArbPend s b x).held = s.held := by
  simp only [State.setArbPend, ↓held_mk, ↓held_eta, held_eta, held_ite, held_ite2, ite_self, held_foldl, held_foldl1, held_foldl2, forUpTo_held]

@[simp] theorem State.setArbRefused_held (s : State) (b) (v) : (State.setArbRefused s b v).held = s.held := by
  simp only [State.setArbRefused, ↓held_mk, ↓held_eta, held_eta, held_ite, held_ite2, ite_self, held_foldl, held_foldl1, held_foldl2, forUpTo_held]

@[simp] theorem State.arbCommit_held (s : State) (b) : (State.arbCommit s b).held = s.held := by
  simp [State.arbCommit]

@[simp] theorem State.wrArb_held (s : State) (b) (v) : (State.wrArb s b v).held = s.held := by
  unfold State.wrArb
  dsimp only
  repeat' split
  all_goals simp

@[simp] theorem State.wrKick_held (s : State) (p) (v) : (State.wrKick s p v).held = s.held := by
  simp only [State.wrKick, ↓held_mk, ↓held_eta, held_eta, held_ite, held_ite2, ite_self, held_foldl, held_foldl1, held_foldl2, forUpTo_held, State.updPan_held, State.kicks_held]

@[simp] theorem State.combIdleBack_held (s : State) (p) (e) : (State.combIdleBack s p e).held = s.held := by
  simp only [State.combIdleBack, ↓held_mk, ↓held_eta, held_eta, held_ite, held_ite2, ite_self, held_foldl, held_foldl1, held_foldl2, forUpTo_held, State.combBack_held]

@[simp] theorem State.wrAtomCtl_held (s : State) (p) (v) : (State.wrAtomCtl s p v).held = s.held := by
  simp [State.wrAtomCtl]

@[simp] theorem State.wrMdProbe_held (s : State) (p) (v) : (State.wrMdProbe s p v).held = s.held := by
  simp only [State.wrMdProbe, ↓held_mk, ↓held_eta, held_eta, held_ite, held_ite2, ite_self, held_foldl, held_foldl1, held_foldl2, forUpTo_held, State.setReg_held, State.updPan_held]

@[simp] theorem State.wrQuotaCtl_held (s : State) (p) (v) : (State.wrQuotaCtl s p v).held = s.held := by
  simp only [State.wrQuotaCtl, ↓held_mk, ↓held_eta, held_eta, held_ite, held_ite2, ite_self, held_foldl, held_foldl1, held_foldl2, forUpTo_held, State.raiseBg_held, State.updPan_held, State.setReg_held]

@[simp] theorem State.wrRest_held (s : State) (b) (v) : (State.wrRest s b v).held = s.held := by
  simp only [State.wrRest, ↓held_mk, ↓held_eta, held_eta, held_ite, held_ite2, ite_self, held_foldl, held_foldl1, held_foldl2, forUpTo_held, State.wake_held, State.updBed_held, State.setReg_held]

@[simp] theorem State.testBlock_held (s : State) (p) (k) : (State.testBlock s p k).2.held = s.held := by
  unfold State.testBlock
  repeat' split
  all_goals first | rfl | (simp only [↓held_mk, ↓held_eta, held_eta, held_ite, held_ite2, ite_self, held_foldl, held_foldl1, held_foldl2, forUpTo_held, State.updPan_held]; done) | (simp_all only [↓held_mk, ↓held_eta, held_eta, held_ite, held_ite2, ite_self, held_foldl, held_foldl1, held_foldl2, forUpTo_held, State.updPan_held]; done)

@[simp] theorem State.chkRead_held (s : State) (b) (c) (k) (j) (er) : (State.chkRead s b c k j er).held = s.held := by
  simp only [State.chkRead, ↓held_mk, ↓held_eta, held_eta, held_ite, held_ite2, ite_self, held_foldl, held_foldl1, held_foldl2, forUpTo_held, State.setReg_held, State.testBlock_held]

@[simp] theorem State.chkRefuse_held (s : State) (b) : (State.chkRefuse s b).held = s.held := by
  simp only [State.chkRefuse, ↓held_mk, ↓held_eta, held_eta, held_ite, held_ite2, ite_self, held_foldl, held_foldl1, held_foldl2, forUpTo_held, State.setRf_held]

@[simp] theorem State.wrChk_held (s : State) (b) (v) : (State.wrChk s b v).held = s.held := by
  unfold State.wrChk
  dsimp only
  repeat' split
  all_goals simp

@[simp] theorem State.rakeRebase_held (s : State) (b) (old) : (State.rakeRebase s b old).held = s.held := by
  unfold State.rakeRebase
  extract_lets
  repeat' split
  all_goals first | rfl | (simp only [↓held_mk, ↓held_eta, held_eta, held_ite, held_ite2, ite_self, held_foldl, held_foldl1, held_foldl2, forUpTo_held, State.setBed_held]; done) | (simp_all only [↓held_mk, ↓held_eta, held_eta, held_ite, held_ite2, ite_self, held_foldl, held_foldl1, held_foldl2, forUpTo_held, State.setBed_held]; done)

@[simp] theorem State.wrRake_held (s : State) (b) (v) : (State.wrRake s b v).held = s.held := by
  unfold State.wrRake
  dsimp only
  repeat' split
  all_goals first | rfl | (simp only [↓held_mk, ↓held_eta, held_eta, held_ite, held_ite2, ite_self, held_foldl, held_foldl1, held_foldl2, forUpTo_held, State.evalAt_held, State.updBed_held, State.rakeStart_held, State.rakeRebase_held, State.setReg_held]; done) | (simp_all only [↓held_mk, ↓held_eta, held_eta, held_ite, held_ite2, ite_self, held_foldl, held_foldl1, held_foldl2, forUpTo_held, State.evalAt_held, State.updBed_held, State.rakeStart_held, State.rakeRebase_held, State.setReg_held]; done)

@[simp] theorem State.bktCheck_held (s : State) (b) (j) : (State.bktCheck s b j).held = s.held := by
  unfold State.bktCheck
  extract_lets
  repeat' split
  all_goals first | rfl | (simp only [↓held_mk, ↓held_eta, held_eta, held_ite, held_ite2, ite_self, held_foldl, held_foldl1, held_foldl2, forUpTo_held, State.exhaust_held, State.eraseLayer_held]; done) | (simp_all only [↓held_mk, ↓held_eta, held_eta, held_ite, held_ite2, ite_self, held_foldl, held_foldl1, held_foldl2, forUpTo_held, State.exhaust_held, State.eraseLayer_held]; done)

@[simp] theorem State.wrBkt_held (s : State) (b) (k) (v) : (State.wrBkt s b k v).held = s.held := by
  simp [State.wrBkt]

@[simp] theorem State.wrErase_held (s : State) (b) (v) : (State.wrErase s b v).held = s.held := by
  simp [State.wrErase]

@[simp] theorem State.wrQstat_held (s : State) (b) (v) : (State.wrQstat s b v).held = s.held := by
  simp only [State.wrQstat, ↓held_mk, ↓held_eta, held_eta, held_ite, held_ite2, ite_self, held_foldl, held_foldl1, held_foldl2, forUpTo_held, State.setQueue_held]

@[simp] theorem State.wrMpIo_held (s : State) (m) (v) : (State.wrMpIo s m v).held = s.held := by
  simp only [State.wrMpIo, ↓held_mk, ↓held_eta, held_eta, held_ite, held_ite2, ite_self, held_foldl, held_foldl1, held_foldl2, forUpTo_held, State.grant1_held, State.setReg_held, State.updMp_held]

@[simp] theorem State.cutData_held (s : State) (m l) : (s.cutData m l).held = s.held := by
  unfold State.cutData
  refine held_foldl _ _ _ (fun t x => ?_)
  split
  · simp only [↓held_mk, ↓held_eta, held_eta, held_ite, held_ite2, ite_self, held_foldl, held_foldl1, held_foldl2, forUpTo_held, State.reqFails_held]
  · rfl

@[simp] theorem State.mpRec_held (s : State) (m) (h) (cls) (code) (detail) : (State.mpRec s m h cls code detail).held = s.held := by
  simp only [State.mpRec, ↓held_mk, ↓held_eta, held_eta, held_ite, held_ite2, ite_self, held_foldl, held_foldl1, held_foldl2, forUpTo_held, State.logD_held]

@[simp] theorem State.halfDown_held (s : State) (m) (h) : (State.halfDown s m h).held = s.held := by
  simp [State.halfDown]

@[simp] theorem State.mpReset_held (s : State) (m) (cause) : (State.mpReset s m cause).held = s.held := by
  simp only [State.mpReset, ↓held_mk, ↓held_eta, held_eta, held_ite, held_ite2, ite_self, held_foldl, held_foldl1, held_foldl2, forUpTo_held, State.closePartials_held, State.cutData_held, State.updMp_held, State.setHalf_held, State.mpRec_held, State.halfDown_held]

@[simp] theorem State.ctlMpReset_held (s : State) (m : Nat) : (State.ctlMpReset s m).held = s.held := by
  first
  | rfl
  | (simp [State.ctlMpReset]; done)
  | (unfold State.ctlMpReset; repeat' split
     all_goals first | rfl | (simp [*]; done))
  | (unfold State.ctlMpReset; dsimp only; repeat' split
     all_goals first | rfl | (simp [*]; done) | (simp_all; done))

@[simp] theorem State.wrMpCtl_held (s : State) (m : Nat) (v : Nat) : (State.wrMpCtl s m v).held = s.held := by
  first
  | rfl
  | (simp [State.wrMpCtl]; done)
  | (unfold State.wrMpCtl; repeat' split
     all_goals first | rfl | (simp [*]; done))
  | (unfold State.wrMpCtl; dsimp only; repeat' split
     all_goals first | rfl | (simp [*]; done) | (simp_all; done))

@[simp] theorem State.setLk_held (s : State) (l) (x) : (State.setLk s l x).held = s.held := by
  unfold State.setLk
  repeat' split
  all_goals first | rfl | (simp only [↓held_mk, ↓held_eta, held_eta, held_ite, held_ite2, ite_self, held_foldl, held_foldl1, held_foldl2, forUpTo_held, State.updKn_held, State.updHinge_held]; done) | (simp_all only [↓held_mk, ↓held_eta, held_eta, held_ite, held_ite2, ite_self, held_foldl, held_foldl1, held_foldl2, forUpTo_held, State.updKn_held, State.updHinge_held]; done)

@[simp] theorem State.updLk_held (s : State) (l) (f) : (State.updLk s l f).held = s.held := by
  simp only [State.updLk, ↓held_mk, ↓held_eta, held_eta, held_ite, held_ite2, ite_self, held_foldl, held_foldl1, held_foldl2, forUpTo_held, State.setLk_held]

@[simp] theorem State.toDetect_held (s : State) (l) : (State.toDetect s l).held = s.held := by
  simp only [State.toDetect, ↓held_mk, ↓held_eta, held_eta, held_ite, held_ite2, ite_self, held_foldl, held_foldl1, held_foldl2, forUpTo_held, State.updLk_held]

@[simp] theorem State.ctlOpen_held (s : State) (r) : (State.ctlOpen s r).held = s.held := by
  unfold State.ctlOpen
  repeat' split
  all_goals first | rfl | (simp only [↓held_mk, ↓held_eta, held_eta, held_ite, held_ite2, ite_self, held_foldl, held_foldl1, held_foldl2, forUpTo_held, State.toDetect_held]; done) | (simp_all only [↓held_mk, ↓held_eta, held_eta, held_ite, held_ite2, ite_self, held_foldl, held_foldl1, held_foldl2, forUpTo_held, State.toDetect_held]; done)

@[simp] theorem State.closeStart_held (s : State) (r) : (State.closeStart s r).held = s.held := by
  unfold State.closeStart
  repeat' split
  all_goals first | rfl | (simp only [↓held_mk, ↓held_eta, held_eta, held_ite, held_ite2, ite_self, held_foldl, held_foldl1, held_foldl2, forUpTo_held, State.updKn_held, State.updHinge_held]; done) | (simp_all only [↓held_mk, ↓held_eta, held_eta, held_ite, held_ite2, ite_self, held_foldl, held_foldl1, held_foldl2, forUpTo_held, State.updKn_held, State.updHinge_held]; done)

@[simp] theorem State.closeEnd_held (s : State) (p) : (State.closeEnd s p).held = s.held := by
  simp [State.closeEnd]

@[simp] theorem State.closeCheck_held (s : State) (p) : (State.closeCheck s p).held = s.held := by
  simp only [State.closeCheck, ↓held_mk, ↓held_eta, held_eta, held_ite, held_ite2, ite_self, held_foldl, held_foldl1, held_foldl2, forUpTo_held, State.closeEnd_held]

@[simp] theorem State.ctlClose_held (s : State) (r) : (State.ctlClose s r).held = s.held := by
  unfold State.ctlClose
  repeat' split
  all_goals first | rfl | (simp only [↓held_mk, ↓held_eta, held_eta, held_ite, held_ite2, ite_self, held_foldl, held_foldl1, held_foldl2, forUpTo_held, State.closeStart_held, State.closeCheck_held]; done) | (simp_all only [↓held_mk, ↓held_eta, held_eta, held_ite, held_ite2, ite_self, held_foldl, held_foldl1, held_foldl2, forUpTo_held, State.closeStart_held, State.closeCheck_held]; done)

@[simp] theorem State.ctlReset_held (s : State) (r) : (State.ctlReset s r).held = s.held := by
  unfold State.ctlReset
  repeat' split
  all_goals first | rfl | (simp only [↓held_mk, ↓held_eta, held_eta, held_ite, held_ite2, ite_self, held_foldl, held_foldl1, held_foldl2, forUpTo_held, State.klReset_held, State.portReset_held]; done) | (simp_all only [↓held_mk, ↓held_eta, held_eta, held_ite, held_ite2, ite_self, held_foldl, held_foldl1, held_foldl2, forUpTo_held, State.klReset_held, State.portReset_held]; done)

@[simp] theorem State.wrLinkCtl_held (s : State) (r) (off) (v) : (State.wrLinkCtl s r off v).held = s.held := by
  simp only [State.wrLinkCtl, ↓held_mk, ↓held_eta, held_eta, held_ite, held_ite2, ite_self, held_foldl, held_foldl1, held_foldl2, forUpTo_held, State.ctlOpen_held, State.ctlClose_held, State.ctlReset_held, State.setReg_held]

@[simp] theorem State.wrUnit_held (s : State) (r) (v) : (State.wrUnit s r v).held = s.held := by
  unfold State.wrUnit
  repeat' split
  all_goals first | rfl | (simp only [↓held_mk, ↓held_eta, held_eta, held_ite, held_ite2, ite_self, held_foldl, held_foldl1, held_foldl2, forUpTo_held, State.wrPlain_held, State.wrBwCtl_held, State.wrArb_held, State.wrKick_held, State.updPan_held, State.wrAtomCtl_held, State.wrMdProbe_held, State.wrQuotaCtl_held, State.wrRest_held, State.wrChk_held, State.wrRake_held, State.wrBkt_held, State.updBed_held, State.wrErase_held, State.wrQstat_held, State.wrMpIo_held, State.wrMpCtl_held, State.wrLinkCtl_held]; done) | (simp_all only [↓held_mk, ↓held_eta, held_eta, held_ite, held_ite2, ite_self, held_foldl, held_foldl1, held_foldl2, forUpTo_held, State.wrPlain_held, State.wrBwCtl_held, State.wrArb_held, State.wrKick_held, State.updPan_held, State.wrAtomCtl_held, State.wrMdProbe_held, State.wrQuotaCtl_held, State.wrRest_held, State.wrChk_held, State.wrRake_held, State.wrBkt_held, State.updBed_held, State.wrErase_held, State.wrQstat_held, State.wrMpIo_held, State.wrMpCtl_held, State.wrLinkCtl_held]; done)

theorem State.wrRow_held (s : State) (w r v) (h : s.held.keyOk = true) : (s.wrRow w r v).held = s.held := by
  unfold State.wrRow
  split
  · simp only [↓held_mk, ↓held_eta, held_eta, held_ite, held_ite2, ite_self, held_foldl, held_foldl1, held_foldl2, forUpTo_held, State.wrUnit_held, State.count_held, State.violation_held]
  · split
    · split
      · simp only [↓held_mk, ↓held_eta, held_eta, held_ite, held_ite2, ite_self, held_foldl, held_foldl1, held_foldl2, forUpTo_held, State.wrUnit_held, State.count_held, State.violation_held]
      · exact State.wrSvc_held _ _ _ _ h
    · split
      · simp only [↓held_mk, ↓held_eta, held_eta, held_ite, held_ite2, ite_self, held_foldl, held_foldl1, held_foldl2, forUpTo_held, State.wrUnit_held, State.count_held, State.violation_held]
      · exact State.wrSvc_held _ _ _ _ h
    all_goals first | exact State.wrSvc_held _ _ _ _ h | simp only [↓held_mk, ↓held_eta, held_eta, held_ite, held_ite2, ite_self, held_foldl, held_foldl1, held_foldl2, forUpTo_held, State.wrUnit_held, State.count_held, State.violation_held]

@[simp] theorem State.polLog_held (s : State) (unit) (core) (off) (clamped) (refused) (req) (wrote) : (State.polLog s unit core off clamped refused req wrote).held = s.held := by
  simp only [State.polLog, ↓held_mk, ↓held_eta, held_eta, held_ite, held_ite2, ite_self, held_foldl, held_foldl1, held_foldl2, forUpTo_held, State.raise_held]

theorem State.polStore_held (s : State) (c r v asked got us) (h : s.held.keyOk = true) :
    (s.polStore c r v asked got us).held = s.held := by
  unfold State.polStore
  dsimp only
  generalize ht : State.wrRow _ _ _ _ = t
  have h1 : t.held = s.held := by
    rw [← ht, State.wrRow_held]
    · rw [held_mk, held_eta]
    · rw [held_mk, held_eta]; exact h
  clear ht
  split
  · simp only [↓held_mk, ↓held_eta, held_eta, held_ite, held_ite2, ite_self, held_foldl, held_foldl1, held_foldl2, forUpTo_held, State.count_held, State.logD_held, State.polLog_held]
  · split <;> simp only [h1, ↓held_mk, ↓held_eta, held_eta, held_ite, held_ite2, ite_self, held_foldl, held_foldl1, held_foldl2, forUpTo_held, State.count_held, State.logD_held, State.polLog_held]

theorem State.coreStore_held (s : State) (c o v) (h : s.held.keyOk = true) : (s.coreStore c o v).held = s.held := by
  unfold State.coreStore
  extract_lets s1
  have h1 : s1.held = s.held := by simp only [s1, ↓held_mk, ↓held_eta, held_eta, held_ite, held_ite2, ite_self, held_foldl, held_foldl1, held_foldl2, forUpTo_held, State.denied_held, State.count_held, State.violation_held, State.busAccess_held]
  clear_value s1
  rw [← h1] at h
  split
  · split
    · simp only [h1, ↓held_mk, ↓held_eta, held_eta, held_ite, held_ite2, ite_self, held_foldl, held_foldl1, held_foldl2, forUpTo_held, State.denied_held, State.count_held, State.violation_held, State.busAccess_held]
    · split
      · rw [State.polStore_held _ _ _ _ _ _ _ h, h1]
      · split
        · rw [State.wrRow_held _ _ _ _ h, h1]
        · simp only [h1, ↓held_mk, ↓held_eta, held_eta, held_ite, held_ite2, ite_self, held_foldl, held_foldl1, held_foldl2, forUpTo_held, State.denied_held, State.count_held, State.violation_held, State.busAccess_held]
  · split
    · simp only [h1, ↓held_mk, ↓held_eta, held_eta, held_ite, held_ite2, ite_self, held_foldl, held_foldl1, held_foldl2, forUpTo_held, State.denied_held, State.count_held, State.violation_held, State.busAccess_held]
    · exact h1

@[simp] theorem State.chkOp_held (s : State) (b) (v) (op) : (State.chkOp s b v op).held = s.held := by
  simp only [State.chkOp, ↓held_mk, ↓held_eta, held_eta, held_ite, held_ite2, ite_self, held_foldl, held_foldl1, held_foldl2, forUpTo_held, State.busAccess_held, State.wrChk_held]

@[simp] theorem State.mtFree_held (s : State) (untrusted) : (State.mtFree s untrusted).held = s.held := by
  simp only [State.mtFree, ↓held_mk, ↓held_eta, held_eta, held_ite, held_ite2, ite_self, held_foldl, held_foldl1, held_foldl2, forUpTo_held, State.updMt_held, State.logD_held]

@[simp] theorem State.startChain_held (s : State) (p) (psi) (tag) : (State.startChain s p psi tag).held = s.held := by
  unfold State.startChain
  extract_lets
  repeat' split
  all_goals first | rfl | (simp only [↓held_mk, ↓held_eta, held_eta, held_ite, held_ite2, ite_self, held_foldl, held_foldl1, held_foldl2, forUpTo_held, State.start_held, State.setArb_held, State.award_held, State.updPan_held, State.count_held]; done) | (simp_all only [↓held_mk, ↓held_eta, held_eta, held_ite, held_ite2, ite_self, held_foldl, held_foldl1, held_foldl2, forUpTo_held, State.start_held, State.setArb_held, State.award_held, State.updPan_held, State.count_held]; done)

@[simp] theorem State.runLoop_held (s : State) (e op a unused n) : (s.runLoop e op a unused n).held = s.held :=
  State.runIns_held _ _ _ _ (by simp only [Done.keeps, State.updEng_held])

@[simp] theorem State.runFb_held (s : State) (e) (fn) (a) (f) : (State.runFb s e fn a f).held = s.held := by
  simp [State.runFb]

@[simp] theorem State.pfWrite_held (s : State) (orig) (dev) (cause) (time) (spa) (unit) : (State.pfWrite s orig dev cause time spa unit).held = s.held := by
  simp only [State.pfWrite, ↓held_mk, ↓held_eta, held_eta, held_ite, held_ite2, ite_self, held_foldl, held_foldl1, held_foldl2, forUpTo_held, State.raise_held]

@[simp] theorem State.mapConflict_held (s : State) (l) (r) (named) : (State.mapConflict s l r named).held = s.held := by
  unfold State.mapConflict
  repeat' split
  all_goals first | rfl | (simp only [↓held_mk, ↓held_eta, held_eta, held_ite, held_ite2, ite_self, held_foldl, held_foldl1, held_foldl2, forUpTo_held, State.toAgent_held, State.notice_held, State.logErr_held, State.free_held]; done) | (simp_all only [↓held_mk, ↓held_eta, held_eta, held_ite, held_ite2, ite_self, held_foldl, held_foldl1, held_foldl2, forUpTo_held, State.toAgent_held, State.notice_held, State.logErr_held, State.free_held]; done)

@[simp] theorem State.kArrive_held (s : State) (l) (m) (units) : (State.kArrive s l m units).held = s.held := by
  unfold State.kArrive
  repeat' split
  all_goals first | rfl | (simp only [↓held_mk, ↓held_eta, held_eta, held_ite, held_ite2, ite_self, held_foldl, held_foldl1, held_foldl2, forUpTo_held, State.mapConflict_held, State.oweK_held, State.updKn_held]; done) | (simp_all only [↓held_mk, ↓held_eta, held_eta, held_ite, held_ite2, ite_self, held_foldl, held_foldl1, held_foldl2, forUpTo_held, State.mapConflict_held, State.oweK_held, State.updKn_held]; done)

@[simp] theorem State.knDiscard_held (s : State) (l) : (State.knDiscard s l).held = s.held := by
  simp only [State.knDiscard, ↓held_mk, ↓held_eta, held_eta, held_ite, held_ite2, ite_self, held_foldl, held_foldl1, held_foldl2, forUpTo_held, State.undeliv_held]

@[simp] theorem State.epochNote_held (s : State) (l) (m) : (State.epochNote s l m).held = s.held := by
  simp only [State.epochNote, ↓held_mk, ↓held_eta, held_eta, held_ite, held_ite2, ite_self, held_foldl, held_foldl1, held_foldl2, forUpTo_held, State.setKn_held, State.logD_held, State.count_held]

@[simp] theorem State.kForward_held (s : State) (l) (m) : (State.kForward s l m).held = s.held := by
  unfold State.kForward
  dsimp only
  repeat' split
  all_goals first | rfl | (simp only [↓held_mk, ↓held_eta, held_eta, held_ite, held_ite2, ite_self, held_foldl, held_foldl1, held_foldl2, forUpTo_held, State.kput_held, State.count_held, State.toAgent_held, State.knDiscard_held, State.onUndeliverable_held, State.epochNote_held]; done) | (simp_all only [↓held_mk, ↓held_eta, held_eta, held_ite, held_ite2, ite_self, held_foldl, held_foldl1, held_foldl2, forUpTo_held, State.kput_held, State.count_held, State.toAgent_held, State.knDiscard_held, State.onUndeliverable_held, State.epochNote_held]; done)

@[simp] theorem State.knuckleMessage_held (s0 : State) (l : Nat) (m0 : KMsg) (units : Nat) : (State.knuckleMessage s0 l m0 units).held = s0.held := by
  first
  | rfl
  | (simp [State.knuckleMessage]; done)
  | (unfold State.knuckleMessage; repeat' split
     all_goals first | rfl | (simp [*]; done))
  | (unfold State.knuckleMessage; dsimp only; repeat' split
     all_goals first | rfl | (simp [*]; done) | (simp_all; done))

theorem State.spend_held (s : State) (l ch units) (t : State) (h : s.spend l ch units = some t) : t.held = s.held := by
  unfold State.spend at h
  dsimp only at h
  split at h
  · cases h; simp only [↓held_mk, ↓held_eta, held_eta, held_ite, held_ite2, ite_self, held_foldl, held_foldl1, held_foldl2, forUpTo_held, State.setLk_held]
  · cases h

@[simp] theorem State.knMsgs_held (s : State) (l ms) : (s.knMsgs l ms).held = s.held := by
  unfold State.knMsgs
  refine held_foldl _ _ _ (fun t m => ?_)
  split
  · rfl
  · split
    · simp only [↓held_mk, ↓held_eta, held_eta, held_ite, held_ite2, ite_self, held_foldl, held_foldl1, held_foldl2, forUpTo_held, State.knuckleMessage_held, State.oweK_held, State.updKn_held, State.count_held, State.overflow_held]
    · next h =>
      dsimp only
      split <;> simp only [State.spend_held _ _ _ _ _ h, ↓held_mk, ↓held_eta, held_eta, held_ite, held_ite2, ite_self, held_foldl, held_foldl1, held_foldl2, forUpTo_held, State.knuckleMessage_held, State.oweK_held, State.updKn_held, State.count_held, State.overflow_held]

@[simp] theorem State.sendAns_held (s : State) (p : Nat) (a : Ans) (units : Nat) (half : Bool) : (State.sendAns s p a units half).held = s.held := by
  first
  | rfl
  | (simp [State.sendAns]; done)
  | (unfold State.sendAns; repeat' split
     all_goals first | rfl | (simp [*]; done))
  | (unfold State.sendAns; dsimp only; repeat' split
     all_goals first | rfl | (simp [*]; done) | (simp_all; done))

@[simp] theorem State.hingeGot_held (s : State) (p) (ch) (n) : (State.hingeGot s p ch n).held = s.held := by
  simp only [State.hingeGot, ↓held_mk, ↓held_eta, held_eta, held_ite, held_ite2, ite_self, held_foldl, held_foldl1, held_foldl2, forUpTo_held, State.updHinge_held, State.count_held]

@[simp] theorem State.hingeAnswer_held (s : State) (p) (m) (half) (units) : (State.hingeAnswer s p m half units).held = s.held := by
  unfold State.hingeAnswer
  repeat' split
  all_goals first | rfl | (simp only [↓held_mk, ↓held_eta, held_eta, held_ite, held_ite2, ite_self, held_foldl, held_foldl1, held_foldl2, forUpTo_held, State.sendAns_held, State.count_held, State.hingeRec_held, State.updHinge_held, State.hingeGot_held]; done) | (simp_all only [↓held_mk, ↓held_eta, held_eta, held_ite, held_ite2, ite_self, held_foldl, held_foldl1, held_foldl2, forUpTo_held, State.sendAns_held, State.count_held, State.hingeRec_held, State.updHinge_held, State.hingeGot_held]; done)

@[simp] theorem State.outstanding_held (s : State) (p) (r) (dev) (l) (units) : (State.outstanding s p r dev l units).held = s.held := by
  simp only [State.outstanding, ↓held_mk, ↓held_eta, held_eta, held_ite, held_ite2, ite_self, held_foldl, held_foldl1, held_foldl2, forUpTo_held, State.setHinge_held]

@[simp] theorem State.answer_held (s : State) (m) : (State.answer s m).held = s.held := by
  simp only [State.answer, ↓held_mk, ↓held_eta, held_eta, held_ite, held_ite2, ite_self, held_foldl, held_foldl1, held_foldl2, forUpTo_held, State.portSays_held]

@[simp] theorem State.mapMiss_held (s : State) (p) (r) : (State.mapMiss s p r).held = s.held := by
  simp only [State.mapMiss, ↓held_mk, ↓held_eta, held_eta, held_ite, held_ite2, ite_self, held_foldl, held_foldl1, held_foldl2, forUpTo_held, State.answer_held, State.setHinge_held, State.logErr_held, State.count_held]

@[simp] theorem State.takeFence_held (s : State) (p) (r) : (State.takeFence s p r).held = s.held := by
  simp only [State.takeFence, ↓held_mk, ↓held_eta, held_eta, held_ite, held_ite2, ite_self, held_foldl, held_foldl1, held_foldl2, forUpTo_held, State.setHinge_held, State.count_held, State.hingeRec_held, State.answer_held]

@[simp] theorem State.portNack_held (s : State) (r) (rsn) (retry) : (State.portNack s r rsn retry).held = s.held := by
  simp only [State.portNack, ↓held_mk, ↓held_eta, held_eta, held_ite, held_ite2, ite_self, held_foldl, held_foldl1, held_foldl2, forUpTo_held, State.answer_held]

@[simp] theorem State.oweReq_held (s : State) (p) (r) (units) : (State.oweReq s p r units).held = s.held := by
  simp only [State.oweReq, ↓held_mk, ↓held_eta, held_eta, held_ite, held_ite2, ite_self, held_foldl, held_foldl1, held_foldl2, forUpTo_held, State.updHinge_held]

@[simp] theorem State.portRequest_held (s : State) (p) (r0) (units) : (State.portRequest s p r0 units).held = s.held := by
  unfold State.portRequest
  dsimp only
  repeat' split
  all_goals first | rfl | (simp only [↓held_mk, ↓held_eta, held_eta, held_ite, held_ite2, ite_self, held_foldl, held_foldl1, held_foldl2, forUpTo_held, State.outstanding_held, State.mapMiss_held, State.takeFence_held, State.portNack_held, State.hingeRec_held, State.answer_held, State.oweReq_held, State.count_held]; done) | (simp_all only [↓held_mk, ↓held_eta, held_eta, held_ite, held_ite2, ite_self, held_foldl, held_foldl1, held_foldl2, forUpTo_held, State.outstanding_held, State.mapMiss_held, State.takeFence_held, State.portNack_held, State.hingeRec_held, State.answer_held, State.oweReq_held, State.count_held]; done)

@[simp] theorem State.hingeRequest_held (s : State) (p) (r) (half) (units) : (State.hingeRequest s p r half units).held = s.held := by
  simp only [State.hingeRequest, ↓held_mk, ↓held_eta, held_eta, held_ite, held_ite2, ite_self, held_foldl, held_foldl1, held_foldl2, forUpTo_held, State.portRequest_held, State.count_held, State.hingeRec_held, State.oweReq_held, State.hingeGot_held]

@[simp] theorem State.hingeMsgs_held (s : State) (p h ms) : (s.hingeMsgs p h ms).held = s.held := by
  unfold State.hingeMsgs
  refine held_foldl _ _ _ (fun t m => ?_)
  split
  · rfl
  · split
    · split
      · simp only [↓held_mk, ↓held_eta, held_eta, held_ite, held_ite2, ite_self, held_foldl, held_foldl1, held_foldl2, forUpTo_held, State.hingeAnswer_held, State.hingeRequest_held, State.overflow_held]
      · next h => simp only [State.spend_held _ _ _ _ _ h, ↓held_mk, ↓held_eta, held_eta, held_ite, held_ite2, ite_self, held_foldl, held_foldl1, held_foldl2, forUpTo_held, State.hingeAnswer_held, State.hingeRequest_held, State.overflow_held]
    · dsimp only
      split
      · simp only [↓held_mk, ↓held_eta, held_eta, held_ite, held_ite2, ite_self, held_foldl, held_foldl1, held_foldl2, forUpTo_held, State.hingeAnswer_held, State.hingeRequest_held, State.overflow_held]
      · next h => simp only [State.spend_held _ _ _ _ _ h, ↓held_mk, ↓held_eta, held_eta, held_ite, held_ite2, ite_self, held_foldl, held_foldl1, held_foldl2, forUpTo_held, State.hingeAnswer_held, State.hingeRequest_held, State.overflow_held]

@[simp] theorem State.malformedFlit_held (s : State) (l) (f) : (State.malformedFlit s l f).held = s.held := by
  simp only [State.malformedFlit, ↓held_mk, ↓held_eta, held_eta, held_ite, held_ite2, ite_self, held_foldl, held_foldl1, held_foldl2, forUpTo_held, State.lkRec_held, State.linkReset_held]

@[simp] theorem State.takeCredits_held (s : State) (l) (f) : (State.takeCredits s l f).held = s.held := by
  simp only [State.takeCredits, ↓held_mk, ↓held_eta, held_eta, held_ite, held_ite2, ite_self, held_foldl, held_foldl1, held_foldl2, forUpTo_held, State.updLk_held]

@[simp] theorem State.retrain_held (s : State) (l cause) : (s.retrain l cause).held = s.held := by
  unfold State.retrain
  split
  · rfl
  · extract_lets s1 s2
    have h1 : s1.held = s.held := by simp only [s1, ↓held_mk, ↓held_eta, held_eta, held_ite, held_ite2, ite_self, held_foldl, held_foldl1, held_foldl2, forUpTo_held, State.lkRec_held, State.updKn_held, State.updHinge_held, State.updLk_held]
    have h2 : s2.held = s.held := by simp only [s2]; split <;> simp only [h1, ↓held_mk, ↓held_eta, held_eta, held_ite, held_ite2, ite_self, held_foldl, held_foldl1, held_foldl2, forUpTo_held, State.lkRec_held, State.updKn_held, State.updHinge_held, State.updLk_held]
    clear_value s2
    simp only [h2, ↓held_mk, ↓held_eta, held_eta, held_ite, held_ite2, ite_self, held_foldl, held_foldl1, held_foldl2, forUpTo_held, State.lkRec_held, State.updKn_held, State.updHinge_held, State.updLk_held]

@[simp] theorem State.takeAck_held (s : State) (l) (f) : (State.takeAck s l f).held = s.held := by
  simp only [State.takeAck, ↓held_mk, ↓held_eta, held_eta, held_ite, held_ite2, ite_self, held_foldl, held_foldl1, held_foldl2, forUpTo_held, State.retrain_held, State.setLk_held]

@[simp] theorem State.askReplay_held (s : State) (l) : (State.askReplay s l).held = s.held := by
  simp only [State.askReplay, ↓held_mk, ↓held_eta, held_eta, held_ite, held_ite2, ite_self, held_foldl, held_foldl1, held_foldl2, forUpTo_held, State.setLk_held, State.count_held]

@[simp] theorem State.inOrder_held (s : State) (l : LinkRef) (f : BitVec 512) (n : Nat) : (State.inOrder s l f n).2.held = s.held := by
  first
  | rfl
  | (simp [State.inOrder]; done)
  | (unfold State.inOrder; repeat' split
     all_goals first | rfl | (simp [*]; done))
  | (unfold State.inOrder; dsimp only; repeat' split
     all_goals first | rfl | (simp [*]; done) | (simp_all; done))

@[simp] theorem State.sequence_held (s : State) (l : LinkRef) (f : BitVec 512) (pay : List (BitVec 512)) : (State.sequence s l f pay).2.held = s.held := by
  first
  | rfl
  | (simp [State.sequence]; done)
  | (unfold State.sequence; repeat' split
     all_goals first | rfl | (simp [*]; done))
  | (unfold State.sequence; dsimp only; repeat' split
     all_goals first | rfl | (simp [*]; done) | (simp_all; done))

@[simp] theorem State.mgmtFail_held (s : State) (d) (status) : (State.mgmtFail s d status).held = s.held := by
  simp only [State.mgmtFail, ↓held_mk, ↓held_eta, held_eta, held_ite, held_ite2, ite_self, held_foldl, held_foldl1, held_foldl2, forUpTo_held, State.logD_held]

@[simp] theorem State.noPath_held (s : State) (a) : (State.noPath s a).held = s.held := by
  simp only [State.noPath, ↓held_mk, ↓held_eta, held_eta, held_ite, held_ite2, ite_self, held_foldl, held_foldl1, held_foldl2, forUpTo_held, State.mgmtFail_held, State.free_held]

@[simp] theorem State.fwdAcc_held (s : State) (a) : (State.fwdAcc s a).held = s.held := by
  simp only [State.fwdAcc, ↓held_mk, ↓held_eta, held_eta, held_ite, held_ite2, ite_self, held_foldl, held_foldl1, held_foldl2, forUpTo_held, State.pushMgmt_held, State.count_held, State.noPath_held]

@[simp] theorem State.fwdQueue_held (s : State) : (s.fwdQueue).held = s.held := by
  unfold State.fwdQueue
  extract_lets r
  have h : r.1.held = s.held := held_foldl1 _ _ _ (fun t a => by split <;> simp only [↓held_mk, ↓held_eta, held_eta, held_ite, held_ite2, ite_self, held_foldl, held_foldl1, held_foldl2, forUpTo_held, State.fwdAcc_held])
  clear_value r
  exact h

@[simp] theorem State.hostAbort_held (s : State) : (State.hostAbort s).held = s.held := by
  simp only [State.hostAbort, ↓held_mk, ↓held_eta, held_eta, held_ite, held_ite2, ite_self, held_foldl, held_foldl1, held_foldl2, forUpTo_held, State.count_held]

@[simp] theorem State.endFwd_held (s : State) (t) : (State.endFwd s t).held = s.held := by
  simp only [State.endFwd, ↓held_mk, ↓held_eta, held_eta, held_ite, held_ite2, ite_self, held_foldl, held_foldl1, held_foldl2, forUpTo_held]

@[simp] theorem State.fwdDone_held (s : State) (x) (status) (data) : (State.fwdDone s x status data).held = s.held := by
  simp only [State.fwdDone, ↓held_mk, ↓held_eta, held_eta, held_ite, held_ite2, ite_self, held_foldl, held_foldl1, held_foldl2, forUpTo_held, State.fwdQueue_held, State.hostAbort_held, State.mgmtFail_held, State.endFwd_held]

@[simp] theorem State.runShift_held (s : State) (e) (kind) (a) (f) : (State.runShift s e kind a f).held = s.held := by
  simp [State.runShift]

@[simp] theorem State.stackUe_held (s : State) (p) (psi) (w) (tag) (o) : (State.stackUe s p psi w tag o).held = s.held := by
  simp only [State.stackUe, ↓held_mk, ↓held_eta, held_eta, held_ite, held_ite2, ite_self, held_foldl, held_foldl1, held_foldl2, forUpTo_held, State.count_held, State.logErr_held]

@[simp] theorem State.superseded_held (s : State) (p) (psi) (w) (tag) (o) : (State.superseded s p psi w tag o).held = s.held := by
  simp only [State.superseded, ↓held_mk, ↓held_eta, held_eta, held_ite, held_ite2, ite_self, held_foldl, held_foldl1, held_foldl2, forUpTo_held, State.writeLine_held, State.logErr_held]

@[simp] theorem State.lineUeAct_held (s : State) (p) (psi) (w) (err) : (State.lineUeAct s p psi w err).2.held = s.held := by
  simp only [State.lineUeAct, ↓held_mk, ↓held_eta, held_eta, held_ite, held_ite2, ite_self, held_foldl, held_foldl1, held_foldl2, forUpTo_held, State.stackUe_held, State.poisonTrk_held, State.superseded_held, State.readBlock_held, State.wake_held]

theorem State.engCmd_held (s : State) (p op f) (h : ∀ w, (f w).2.held = s.held) : (s.engCmd p op f).held = s.held := by
  unfold State.engCmd
  split
  · rfl
  · dsimp only
    split
    · rfl
    · split
      · exact h _
      · split
        · split
          · simp only [h, ↓held_mk, ↓held_eta, held_eta, held_ite, held_ite2, ite_self, held_foldl, held_foldl1, held_foldl2, forUpTo_held, State.award_held, State.updPan_held, State.count_held]
          · rfl
        · rfl

@[simp] theorem State.thermalCause_held (s : State) : (State.thermalCause s).held = s.held := by
  simp only [State.thermalCause, ↓held_mk, ↓held_eta, held_eta, held_ite, held_ite2, ite_self, held_foldl, held_foldl1, held_foldl2, forUpTo_held, State.applyLean_held]

@[simp] theorem State.sramLoad_held (s : State) (e) (x) (size) : (State.sramLoad s e x size).2.held = s.held := by
  unfold State.sramLoad
  repeat' split
  all_goals first | rfl | (simp only [↓held_mk, ↓held_eta, held_eta, held_ite, held_ite2, ite_self, held_foldl, held_foldl1, held_foldl2, forUpTo_held, State.drainN_held, State.engCount_held]; done) | (simp_all only [↓held_mk, ↓held_eta, held_eta, held_ite, held_ite2, ite_self, held_foldl, held_foldl1, held_foldl2, forUpTo_held, State.drainN_held, State.engCount_held]; done)

@[simp] theorem State.parityFault_held (s : State) (o) : (State.parityFault s o).held = s.held := by
  simp only [State.parityFault, ↓held_mk, ↓held_eta, held_eta, held_ite, held_ite2, ite_self, held_foldl, held_foldl1, held_foldl2, forUpTo_held, State.logD_held]

@[simp] theorem State.parityCheck_held (s : State) (r) : (State.parityCheck s r).held = s.held := by
  simp only [State.parityCheck, ↓held_mk, ↓held_eta, held_eta, held_ite, held_ite2, ite_self, held_foldl, held_foldl1, held_foldl2, forUpTo_held, State.parityFault_held]

@[simp] theorem State.rdMbxData_held (s : State) (m) (k) : (State.rdMbxData s m k).2.held = s.held := by
  simp only [State.rdMbxData, ↓held_mk, ↓held_eta, held_eta, held_ite, held_ite2, ite_self, held_foldl, held_foldl1, held_foldl2, forUpTo_held]

@[simp] theorem State.readEffect_held (s : State) (w) (r) : (State.readEffect s w r).held = s.held := by
  unfold State.readEffect
  repeat' split
  all_goals first | rfl | (simp only [↓held_mk, ↓held_eta, held_eta, held_ite, held_ite2, ite_self, held_foldl, held_foldl1, held_foldl2, forUpTo_held, State.rdMbxData_held, State.setReg_held, State.updKn_held]; done) | (simp_all only [↓held_mk, ↓held_eta, held_eta, held_ite, held_ite2, ite_self, held_foldl, held_foldl1, held_foldl2, forUpTo_held, State.rdMbxData_held, State.setReg_held, State.updKn_held]; done)

@[simp] theorem State.readRow_held (s : State) (w) (o) (w32) (r) : (State.readRow s w o w32 r).2.held = s.held := by
  simp only [State.readRow, ↓held_mk, ↓held_eta, held_eta, held_ite, held_ite2, ite_self, held_foldl, held_foldl1, held_foldl2, forUpTo_held, State.violation_held, State.free_held, State.parityCheck_held, State.readEffect_held]

@[simp] theorem State.readReg_held (s : State) (w) (o) (w32) : (State.readReg s w o w32).2.held = s.held := by
  unfold State.readReg
  repeat' split
  all_goals first | rfl | (simp only [↓held_mk, ↓held_eta, held_eta, held_ite, held_ite2, ite_self, held_foldl, held_foldl1, held_foldl2, forUpTo_held, State.violation_held, State.readRow_held, State.busAccess_held]; done) | (simp_all only [↓held_mk, ↓held_eta, held_eta, held_ite, held_ite2, ite_self, held_foldl, held_foldl1, held_foldl2, forUpTo_held, State.violation_held, State.readRow_held, State.busAccess_held]; done)

@[simp] theorem State.regLoad_held (s : State) (e) (x) (size) : (State.regLoad s e x size).2.held = s.held := by
  simp only [State.regLoad, ↓held_mk, ↓held_eta, held_eta, held_ite, held_ite2, ite_self, held_foldl, held_foldl1, held_foldl2, forUpTo_held, State.free_held, State.readReg_held, State.drain_held]

@[simp] theorem State.loadFrom_held (s : State) (e) (x) (size) : (State.loadFrom s e x size).2.held = s.held := by
  unfold State.loadFrom
  repeat' split
  all_goals first | rfl | (simp only [↓held_mk, ↓held_eta, held_eta, held_ite, held_ite2, ite_self, held_foldl, held_foldl1, held_foldl2, forUpTo_held, State.sramLoad_held, State.regLoad_held]; done) | (simp_all only [↓held_mk, ↓held_eta, held_eta, held_ite, held_ite2, ite_self, held_foldl, held_foldl1, held_foldl2, forUpTo_held, State.sramLoad_held, State.regLoad_held]; done)

@[simp] theorem State.runLoad_held (s : State) (e op size zx a) : (s.runLoad e op size zx a).held = s.held := by
  refine State.runIns_held _ _ _ _ ?_
  dsimp only
  split
  · rfl
  · split
    · rfl
    · split <;> simp only [Done.keeps, State.setG_held, State.loadFrom_held]

@[simp] theorem State.runF2_held (s : State) (e) (fn) (a) (f) : (State.runF2 s e fn a f).held = s.held := by
  simp [State.runF2]

@[simp] theorem State.demandWb_held (s : State) (p) (key) (o) : (State.demandWb s p key o).held = s.held := by
  simp only [State.demandWb, ↓held_mk, ↓held_eta, held_eta, held_ite, held_ite2, ite_self, held_foldl, held_foldl1, held_foldl2, forUpTo_held, State.updPan_held, State.count_held]

@[simp] theorem State.demandWbFor_held (s : State) (p) (key) (t) (o) : (State.demandWbFor s p key t o).held = s.held := by
  simp only [State.demandWbFor, ↓held_mk, ↓held_eta, held_eta, held_ite, held_ite2, ite_self, held_foldl, held_foldl1, held_foldl2, forUpTo_held, State.demandWb_held]

@[simp] theorem State.sgenCheck_held (s : State) (p) (psi) (line) : (State.sgenCheck s p psi line).held = s.held := by
  unfold State.sgenCheck
  extract_lets
  repeat' split
  all_goals first | rfl | (simp only [↓held_mk, ↓held_eta, held_eta, held_ite, held_ite2, ite_self, held_foldl, held_foldl1, held_foldl2, forUpTo_held, State.loseSet_held]; done) | (simp_all only [↓held_mk, ↓held_eta, held_eta, held_ite, held_ite2, ite_self, held_foldl, held_foldl1, held_foldl2, forUpTo_held, State.loseSet_held]; done)

@[simp] theorem State.rakeHand_held (s : State) (p) (psi) (way) : (State.rakeHand s p psi way).held = s.held := by
  simp only [State.rakeHand, ↓held_mk, ↓held_eta, held_eta, held_ite, held_ite2, ite_self, held_foldl, held_foldl1, held_foldl2, forUpTo_held, State.updPan_held, State.raiseFg_held, State.count_held]

@[simp] theorem State.rakeBlock_held (s : State) (b) (c) (bank) (row) (k) (err) (written) : (State.rakeBlock s b c bank row k err written).held = s.held := by
  simp only [State.rakeBlock, ↓held_mk, ↓held_eta, held_eta, held_ite, held_ite2, ite_self, held_foldl, held_foldl1, held_foldl2, forUpTo_held, State.count_held, State.sgenCheck_held, State.rakeHand_held, State.loseSet_held, State.noteBlock_held, State.updPan_held]

@[simp] theorem State.rakeRow_held (s : State) (b) (ch) (errs) (written) : (State.rakeRow s b ch errs written).held = s.held := by
  simp [State.rakeRow]

@[simp] theorem State.rakePassEnd_held (s : State) (b) : (State.rakePassEnd s b).held = s.held := by
  simp only [State.rakePassEnd, ↓held_mk, ↓held_eta, held_eta, held_ite, held_ite2, ite_self, held_foldl, held_foldl1, held_foldl2, forUpTo_held, State.updBed_held]

theorem State.chanSlot_held (s : State) (p n) (t : State) (h : s.chanSlot p n = some t) : t.held = s.held :=
  State.slot_held _ _ _ _ _ h

@[simp] theorem State.mdAnswer_held (s : State) (p) (word) (src) (unavail) : (State.mdAnswer s p word src unavail).held = s.held := by
  simp only [State.mdAnswer, ↓held_mk, ↓held_eta, held_eta, held_ite, held_ite2, ite_self, held_foldl, held_foldl1, held_foldl2, forUpTo_held, State.setReg_held, State.updPan_held]

@[simp] theorem State.ageHinge_held (s : State) (p) : (State.ageHinge s p).held = s.held := by
  simp only [State.ageHinge, ↓held_mk, ↓held_eta, held_eta, held_ite, held_ite2, ite_self, held_foldl, held_foldl1, held_foldl2, forUpTo_held, State.setHinge_held, State.count_held]

@[simp] theorem State.ageKn_held (s : State) (l) : (State.ageKn s l).held = s.held := by
  simp only [State.ageKn, ↓held_mk, ↓held_eta, held_eta, held_ite, held_ite2, ite_self, held_foldl, held_foldl1, held_foldl2, forUpTo_held, State.setKn_held, State.count_held]

@[simp] theorem State.agePan_held (s : State) (p : Nat) : (State.agePan s p).held = s.held := by
  first
  | rfl
  | (simp [State.agePan]; done)
  | (unfold State.agePan; repeat' split
     all_goals first | rfl | (simp [*]; done))
  | (unfold State.agePan; dsimp only; repeat' split
     all_goals first | rfl | (simp [*]; done) | (simp_all; done))

@[simp] theorem State.ageBed_held (s : State) (b) : (State.ageBed s b).held = s.held := by
  simp only [State.ageBed, ↓held_mk, ↓held_eta, held_eta, held_ite, held_ite2, ite_self, held_foldl, held_foldl1, held_foldl2, forUpTo_held, State.updBed_held, State.count_held]

@[simp] theorem State.ageMp_held (s : State) (m : Nat) : (State.ageMp s m).held = s.held := by
  first
  | rfl
  | (simp [State.ageMp]; done)
  | (unfold State.ageMp; repeat' split
     all_goals first | rfl | (simp [*]; done))
  | (unfold State.ageMp; dsimp only; repeat' split
     all_goals first | rfl | (simp [*]; done) | (simp_all; done))

@[simp] theorem State.ageAll_held (s : State) : (State.ageAll s).held = s.held := by
  simp [State.ageAll]

@[simp] theorem State.shedEnd_held (s : State) : (State.shedEnd s).held = s.held := by
  simp only [State.shedEnd, ↓held_mk, ↓held_eta, held_eta, held_ite, held_ite2, ite_self, held_foldl, held_foldl1, held_foldl2, forUpTo_held, State.updSl_held, State.raise_held]

@[simp] theorem State.shedStart_held (s : State) : (State.shedStart s).held = s.held := by
  simp only [State.shedStart, ↓held_mk, ↓held_eta, held_eta, held_ite, held_ite2, ite_self, held_foldl, held_foldl1, held_foldl2, forUpTo_held, State.updSl_held, State.count_held, State.raise_held]

@[simp] theorem State.agreeing_held (s : State) (asserted) : (State.agreeing s asserted).held = s.held := by
  simp only [State.agreeing, ↓held_mk, ↓held_eta, held_eta, held_ite, held_ite2, ite_self, held_foldl, held_foldl1, held_foldl2, forUpTo_held, State.shedEnd_held, State.shedStart_held, State.updSl_held, State.count_held]

@[simp] theorem State.bufStore_held (s : State) (e) (a) (size) (v) : (State.bufStore s e a size v).held = s.held := by
  simp only [State.bufStore, ↓held_mk, ↓held_eta, held_eta, held_ite, held_ite2, ite_self, held_foldl, held_foldl1, held_foldl2, forUpTo_held, State.updEng_held, State.engCount_held, State.drainOne_held]

@[simp] theorem State.wrEvtCur_held (s : State) (p) (v) : (State.wrEvtCur s p v).held = s.held := by
  simp only [State.wrEvtCur, ↓held_mk, ↓held_eta, held_eta, held_ite, held_ite2, ite_self, held_foldl, held_foldl1, held_foldl2, forUpTo_held, State.setPan_held, State.setReg_held, State.updEng_held]

theorem State.panStore_held (s : State) (p o v) (h : s.held.keyOk = true) : (s.panStore p o v).2.held = s.held := by
  unfold State.panStore
  split
  · simp only [↓held_mk, ↓held_eta, held_eta, held_ite, held_ite2, ite_self, held_foldl, held_foldl1, held_foldl2, forUpTo_held, State.wrLatch_held, State.updPan_held, State.wrEvtCur_held, State.busAccess_held]
  · extract_lets s1
    have h1 : s1.held = s.held := by simp only [s1, ↓held_mk, ↓held_eta, held_eta, held_ite, held_ite2, ite_self, held_foldl, held_foldl1, held_foldl2, forUpTo_held, State.wrLatch_held, State.updPan_held, State.wrEvtCur_held, State.busAccess_held]
    clear_value s1
    split
    · simp only [h1, ↓held_mk, ↓held_eta, held_eta, held_ite, held_ite2, ite_self, held_foldl, held_foldl1, held_foldl2, forUpTo_held, State.wrLatch_held, State.updPan_held, State.wrEvtCur_held, State.busAccess_held]
    · split
      · rfl
      · simp only [h1, ↓held_mk, ↓held_eta, held_eta, held_ite, held_ite2, ite_self, held_foldl, held_foldl1, held_foldl2, forUpTo_held, State.wrLatch_held, State.updPan_held, State.wrEvtCur_held, State.busAccess_held]
    · simp only [h1, ↓held_mk, ↓held_eta, held_eta, held_ite, held_ite2, ite_self, held_foldl, held_foldl1, held_foldl2, forUpTo_held, State.wrLatch_held, State.updPan_held, State.wrEvtCur_held, State.busAccess_held]
    · rw [← h1] at h
      dsimp only
      rw [State.wrRow_held _ _ _ _ h, h1]

theorem State.regStore_keeps (s : State) (e x v) (h : s.held.keyOk = true) : (s.regStore e x v).keeps s.held := by
  unfold State.regStore
  dsimp only
  generalize ht : s.drain e = t
  have h1 : t.held = s.held := by rw [← ht, State.drain_held]
  clear ht
  rw [← h1] at h ⊢
  split
  · rfl
  · split
    · exact State.coreStore_held _ _ _ _ h
    · generalize x - 0x20000 = o
      split
      · exact State.panStore_held _ _ _ _ h
      · exact State.panStore_held _ _ _ _ h

theorem State.cwStore_held (s : State) (e a size v) (t : State) (h : s.cwStore e a size v = some t) : t.held = s.held := by
  unfold State.cwStore at h
  dsimp only at h
  split at h
  · cases h; simp only [↓held_mk, ↓held_eta, held_eta, held_ite, held_ite2, ite_self, held_foldl, held_foldl1, held_foldl2, forUpTo_held, State.updEng_held]
  · split at h
    · cases h
    · cases h; simp only [↓held_mk, ↓held_eta, held_eta, held_ite, held_ite2, ite_self, held_foldl, held_foldl1, held_foldl2, forUpTo_held, State.updEng_held]

theorem State.storeTo_keeps (s : State) (e x size v) (h : s.held.keyOk = true) : (s.storeTo e x size v).keeps s.held := by
  unfold State.storeTo
  split
  · split
    · rfl
    · next hc => exact State.cwStore_held _ _ _ _ _ _ hc
  · exact State.regStore_keeps _ _ _ _ h
  · simp only [Done.keeps, ↓held_mk, ↓held_eta, held_eta, held_ite, held_ite2, ite_self, held_foldl, held_foldl1, held_foldl2, forUpTo_held, State.bufStore_held]

theorem State.runStore_held (s : State) (e op size a) (h : s.held.keyOk = true) : (s.runStore e op size a).held = s.held := by
  refine State.runIns_held _ _ _ _ ?_
  dsimp only
  split
  · rfl
  · split
    · rfl
    · exact State.storeTo_keeps _ _ _ _ _ h

@[simp] theorem State.takeNote_held (s : State) (f) : (State.takeNote s f).held = s.held := by
  simp only [State.takeNote, ↓held_mk, ↓held_eta, held_eta, held_ite, held_ite2, ite_self, held_foldl, held_foldl1, held_foldl2, forUpTo_held]

@[simp] theorem State.runJ_held (s : State) (e op off link) : (s.runJ e op off link).held = s.held :=
  State.runIns_held _ _ _ _ trivial

@[simp] theorem State.frameOffset_held (s : State) (off) : (State.frameOffset s off).held = s.held := by
  simp only [State.frameOffset, ↓held_mk, ↓held_eta, held_eta, held_ite, held_ite2, ite_self, held_foldl, held_foldl1, held_foldl2, forUpTo_held, State.logD_held, State.count_held, State.updMt_held]

@[simp] theorem State.badFrame_held (s : State) : (State.badFrame s).held = s.held := by
  simp only [State.badFrame, ↓held_mk, ↓held_eta, held_eta, held_ite, held_ite2, ite_self, held_foldl, held_foldl1, held_foldl2, forUpTo_held, State.logD_held, State.updMt_held, State.count_held]

@[simp] theorem State.poisNext_held (s : State) (p) : (State.poisNext s p).held = s.held := by
  unfold State.poisNext
  repeat' split
  all_goals first | rfl | (simp only [↓held_mk, ↓held_eta, held_eta, held_ite, held_ite2, ite_self, held_foldl, held_foldl1, held_foldl2, forUpTo_held, State.updPan_held, State.poisonTrk_held]; done) | (simp_all only [↓held_mk, ↓held_eta, held_eta, held_ite, held_ite2, ite_self, held_foldl, held_foldl1, held_foldl2, forUpTo_held, State.updPan_held, State.poisonTrk_held]; done)

@[simp] theorem State.engGsnp_held (s : State) (p) (e) (t) (d) : (State.engGsnp s p e t d).held = s.held := by
  simp only [State.engGsnp, ↓held_mk, ↓held_eta, held_eta, held_ite, held_ite2, ite_self, held_foldl, held_foldl1, held_foldl2, forUpTo_held, State.updTrk_held, State.notice_held]

@[simp] theorem State.enterFrom_held (s : State) (left) (m) : (State.enterFrom s left m).held = s.held := by
  simp only [State.enterFrom, ↓held_mk, ↓held_eta, held_eta, held_ite, held_ite2, ite_self, held_foldl, held_foldl1, held_foldl2, forUpTo_held, State.modeRec_held]

@[simp] theorem State.bootLinks_held (s : State) : (State.bootLinks s).held = s.held := by
  simp [State.bootLinks]

@[simp] theorem State.toBlank_held (s : State) (left) : (State.toBlank s left).held = s.held := by
  simp only [State.toBlank, ↓held_mk, ↓held_eta, held_eta, held_ite, held_ite2, ite_self, held_foldl, held_foldl1, held_foldl2, forUpTo_held, State.enterFrom_held, State.bootLinks_held]

@[simp] theorem State.wrWin_held (s : State) (x) (v) : (State.wrWin s x v).held = s.held := by
  unfold State.wrWin
  repeat' split
  all_goals first | rfl | (simp only [↓held_mk, ↓held_eta, held_eta, held_ite, held_ite2, ite_self, held_foldl, held_foldl1, held_foldl2, forUpTo_held, State.sound_held]; done) | (simp_all only [↓held_mk, ↓held_eta, held_eta, held_ite, held_ite2, ite_self, held_foldl, held_foldl1, held_foldl2, forUpTo_held, State.sound_held]; done)

theorem State.writeReg_held (s : State) (w o v full) (h : s.held.keyOk = true) : (s.writeReg w o v full).held = s.held := by
  unfold State.writeReg
  extract_lets s1 ok
  have h1 : s1.held = s.held := by simp only [s1, ↓held_mk, ↓held_eta, held_eta, held_ite, held_ite2, ite_self, held_foldl, held_foldl1, held_foldl2, forUpTo_held, State.wrWin_held, State.count_held, State.violation_held, State.busAccess_held]
  clear_value s1
  rw [← h1] at h
  split
  · split
    · rw [State.wrRow_held _ _ _ _ h, h1]
    · simp only [h1, ↓held_mk, ↓held_eta, held_eta, held_ite, held_ite2, ite_self, held_foldl, held_foldl1, held_foldl2, forUpTo_held, State.wrWin_held, State.count_held, State.violation_held, State.busAccess_held]
  · split
    · exact h1
    · split <;> simp only [h1, ↓held_mk, ↓held_eta, held_eta, held_ite, held_ite2, ite_self, held_foldl, held_foldl1, held_foldl2, forUpTo_held, State.wrWin_held, State.count_held, State.violation_held, State.busAccess_held]
    · exact h1

theorem State.hostWrite_held (s : State) (w o v full) (h : s.held.keyOk = true) : (s.hostWrite w o v full).held = s.held := by
  unfold State.hostWrite
  dsimp only
  split
  · rw [State.submit_held, State.writeReg_held _ _ _ _ _ h]
  · exact State.writeReg_held _ _ _ _ _ h

theorem State.bar0_held (s : State) (a) (h : s.held.keyOk = true) : (s.bar0 a).held = s.held := by
  unfold State.bar0
  extract_lets s1 r
  have h1 : s1.held = s.held := by simp only [s1, ↓held_mk, ↓held_eta, held_eta, held_ite, held_ite2, ite_self, held_foldl, held_foldl1, held_foldl2, forUpTo_held, State.readReg_held, State.hostAbort_held, State.count_held]
  have hr : r.2.held = s.held := by simp only [r, h1, ↓held_mk, ↓held_eta, held_eta, held_ite, held_ite2, ite_self, held_foldl, held_foldl1, held_foldl2, forUpTo_held, State.readReg_held, State.hostAbort_held, State.count_held]
  clear_value r s1
  rw [← h1] at h
  split
  · simp only [h1, ↓held_mk, ↓held_eta, held_eta, held_ite, held_ite2, ite_self, held_foldl, held_foldl1, held_foldl2, forUpTo_held, State.readReg_held, State.hostAbort_held, State.count_held]
  · split
    · rw [State.hostWrite_held _ _ _ _ _ h, h1]
    · exact hr

@[simp] theorem State.sweepGrants_held (s : State) : (State.sweepGrants s).held = s.held := by
  simp only [State.sweepGrants, ↓held_mk, ↓held_eta, held_eta, held_ite, held_ite2, ite_self, held_foldl, held_foldl1, held_foldl2, forUpTo_held, State.grant1_held, State.count_held]

@[simp] theorem State.linkPart_held (s : State) (b : Nat) (n : Nat) (k : Nat) : (State.linkPart s b n k).held = s.held := by
  first
  | rfl
  | (simp [State.linkPart]; done)
  | (unfold State.linkPart; repeat' split
     all_goals first | rfl | (simp [*]; done))
  | (unfold State.linkPart; dsimp only; repeat' split
     all_goals first | rfl | (simp [*]; done) | (simp_all; done))

theorem State.brinePart_held (s : State) (p port vc cells body stamp) (t : State)
    (h : s.brinePart p port vc cells body stamp = some t) : t.held = s.held := by
  unfold State.brinePart at h
  dsimp only at h
  split at h
  · cases h
  · cases h; simp

@[simp] theorem State.runAmo_held (s : State) (e fn a f) : (s.runAmo e fn a f).held = s.held := by
  unfold State.runAmo
  refine State.runIns_held _ _ _ _ ?_
  dsimp only
  generalize (if a.sz = 2 then 4 else 8) = size
  split
  · rfl
  · split
    · rfl
    · split
      · exact State.drain_held _ _
      · exact (State.setG_held _ _ _ _).trans ((State.sramWrite_held _ _ _ _ _).trans (State.drain_held _ _))

@[simp] theorem State.prefetchNow_held (s : State) (p : Nat) (f : PfReq) : (State.prefetchNow s p f).held = s.held := by
  first
  | rfl
  | (simp [State.prefetchNow]; done)
  | (unfold State.prefetchNow; repeat' split
     all_goals first | rfl | (simp [*]; done))
  | (unfold State.prefetchNow; dsimp only; repeat' split
     all_goals first | rfl | (simp [*]; done) | (simp_all; done))

@[simp] theorem State.prefetchNext_held (s : State) (p) : (s.prefetchNext p).held = s.held := by
  unfold State.prefetchNext
  split
  · next h =>
    have h1 : ∀ (t : State), (if (s.homeOpen && !s.switching (p / 8)) = true then s.slot (panArb p 0) (s.admAskers p) 24 else none) = some t →
        t.held = s.held := by
      intro t h
      split at h
      · exact State.slot_held _ _ _ _ _ h
      · cases h
    simp [h1 _ h]
  · rfl

@[simp] theorem State.combService_held (s : State) (p) : (State.combService s p).held = s.held := by
  simp only [State.combService, ↓held_mk, ↓held_eta, held_eta, held_ite, held_ite2, ite_self, held_foldl, held_foldl1, held_foldl2, forUpTo_held, State.wake_held, State.combDrain_held]

@[simp] theorem State.panService_held (s : State) (p) : (State.panService s p).held = s.held := by
  simp only [State.panService, ↓held_mk, ↓held_eta, held_eta, held_ite, held_ite2, ite_self, held_foldl, held_foldl1, held_foldl2, forUpTo_held, State.prefetchNext_held, State.poisNext_held, State.combService_held]

@[simp] theorem State.lineClear_held (s : State) (p) (psi) (tag) : (State.lineClear s p psi tag).2.held = s.held := by
  unfold State.lineClear
  repeat' split
  all_goals first | rfl | (simp only [↓held_mk, ↓held_eta, held_eta, held_ite, held_ite2, ite_self, held_foldl, held_foldl1, held_foldl2, forUpTo_held, State.start_held, State.addTrk_held]; done) | (simp_all only [↓held_mk, ↓held_eta, held_eta, held_ite, held_ite2, ite_self, held_foldl, held_foldl1, held_foldl2, forUpTo_held, State.start_held, State.addTrk_held]; done)

@[simp] theorem State.takeGroup_held (s : State) (k) (sdev) (excl) (addr) (htag) : (State.takeGroup s k sdev excl addr htag).held = s.held := by
  simp [State.takeGroup]

@[simp] theorem State.toRamp_held (s : State) (left) : (State.toRamp s left).held = s.held := by
  simp only [State.toRamp, ↓held_mk, ↓held_eta, held_eta, held_ite, held_ite2, ite_self, held_foldl, held_foldl1, held_foldl2, forUpTo_held, State.enterFrom_held]

@[simp] theorem State.runUn_held (s : State) (e) (fn) (a) (f) : (State.runUn s e fn a f).held = s.held := by
  simp [State.runUn]

theorem State.chainLine_held (s : State) (p psi tag k) (t : State) (h : s.chainLine p psi tag k = some t) : t.held = s.held := by
  unfold State.chainLine at h
  split at h
  · cases h; rfl
  · rw [Option.map_eq_some_iff] at h
    obtain ⟨y, -, rfl⟩ := h
    simp only [↓held_mk, ↓held_eta, held_eta, held_ite, held_ite2, ite_self, held_foldl, held_foldl1, held_foldl2, forUpTo_held, State.addTrk_held]

@[simp] theorem State.flushWays_held (s : State) (p psi errs l) : (s.flushWays p psi errs l).2.held = s.held := by
  induction l generalizing s with
  | nil => rfl
  | cons w rest ih =>
    unfold State.flushWays
    extract_lets e
    split
    · exact ih _
    · split
      · split
        · exact ih _
        · split
          · rfl
          · next h => rw [ih, State.chainLine_held _ _ _ _ _ _ h]
      · have hf := State.flushWay_held s p psi w e ((errs.filter (fun x => x.1.val == w)).foldl (fun a x => a ^^^ x.2) 0)
        split
        · next h => rw [h] at hf; exact hf
        · next h => rw [h] at hf; rw [ih]; exact hf
        · next h => rw [h] at hf; rw [ih, State.poisonTrk_held]; exact hf

@[simp] theorem State.fixCorrupt_held (s : State) (p) (psi) (b) : (State.fixCorrupt s p psi b).2.held = s.held := by
  simp [State.fixCorrupt]

@[simp] theorem State.bring_held (s : State) (p psi err) : (s.bring p psi err).2.held = s.held := by
  unfold State.bring
  dsimp only
  split
  · rfl
  · split
    · simp only [↓held_mk, ↓held_eta, held_eta, held_ite, held_ite2, ite_self, held_foldl, held_foldl1, held_foldl2, forUpTo_held, State.mdChange_held, State.demandWb_held, State.fixCorrupt_held, State.loseSet_held, State.readBlock_held, State.wake_held, State.updPan_held, State.setPan_held, State.count_held]
    · split
      · rfl
      · split
        · split
          · rfl
          · next h =>
            have := State.mdcRoom_held _ _ _ _ h
            simp only [State.setPan_held] at this
            simp only [this, ↓held_mk, ↓held_eta, held_eta, held_ite, held_ite2, ite_self, held_foldl, held_foldl1, held_foldl2, forUpTo_held, State.mdChange_held, State.demandWb_held, State.fixCorrupt_held, State.loseSet_held, State.readBlock_held, State.wake_held, State.updPan_held, State.setPan_held, State.count_held]
        · split
          · simp only [↓held_mk, ↓held_eta, held_eta, held_ite, held_ite2, ite_self, held_foldl, held_foldl1, held_foldl2, forUpTo_held, State.mdChange_held, State.demandWb_held, State.fixCorrupt_held, State.loseSet_held, State.readBlock_held, State.wake_held, State.updPan_held, State.setPan_held, State.count_held]
          · split
            · rfl
            · next h =>
              have := State.mdcRoom_held _ _ _ _ h
              simp only at this
              split
              · simp only [this, ↓held_mk, ↓held_eta, held_eta, held_ite, held_ite2, ite_self, held_foldl, held_foldl1, held_foldl2, forUpTo_held, State.mdChange_held, State.demandWb_held, State.fixCorrupt_held, State.loseSet_held, State.readBlock_held, State.wake_held, State.updPan_held, State.setPan_held, State.count_held]
              · dsimp only
                rw [State.demandWb_held]
                split <;> simp only [this, ↓held_mk, ↓held_eta, held_eta, held_ite, held_ite2, ite_self, held_foldl, held_foldl1, held_foldl2, forUpTo_held, State.mdChange_held, State.demandWb_held, State.fixCorrupt_held, State.loseSet_held, State.readBlock_held, State.wake_held, State.updPan_held, State.setPan_held, State.count_held]

@[simp] theorem State.illegalWord_held (s : State) (e) : (s.illegalWord e).held = s.held := by
  unfold State.illegalWord
  split
  · exact State.runIns_held _ _ _ _ rfl
  · rfl

@[simp] theorem State.capStep_held (s : State) (b) : (State.capStep s b).held = s.held := by
  simp only [State.capStep, ↓held_mk, ↓held_eta, held_eta, held_ite, held_ite2, ite_self, held_foldl, held_foldl1, held_foldl2, forUpTo_held, State.setBed_held]

@[simp] theorem State.trainRec_held (s : State) (l) : (State.trainRec s l).held = s.held := by
  simp only [State.trainRec, ↓held_mk, ↓held_eta, held_eta, held_ite, held_ite2, ite_self, held_foldl, held_foldl1, held_foldl2, forUpTo_held, State.setLk_held, State.lkRec_held]

@[simp] theorem State.mismatch_held (s : State) (l hinge kn) : (s.mismatch l hinge kn).held = s.held := by
  unfold State.mismatch
  extract_lets s1
  have h1 : s1.held = s.held := by simp only [s1]; split <;> simp only [↓held_mk, ↓held_eta, held_eta, held_ite, held_ite2, ite_self, held_foldl, held_foldl1, held_foldl2, forUpTo_held, State.trainRec_held, State.updLk_held, State.logD_held]
  clear_value s1
  simp only [h1, ↓held_mk, ↓held_eta, held_eta, held_ite, held_ite2, ite_self, held_foldl, held_foldl1, held_foldl2, forUpTo_held, State.trainRec_held, State.updLk_held, State.logD_held]

@[simp] theorem State.klTrain_held (s : State) (l : Nat) : (State.klTrain s l).held = s.held := by
  first
  | rfl
  | (simp [State.klTrain]; done)
  | (unfold State.klTrain; repeat' split
     all_goals first | rfl | (simp [*]; done))
  | (unfold State.klTrain; dsimp only; repeat' split
     all_goals first | rfl | (simp [*]; done) | (simp_all; done))

@[simp] theorem State.hingeTrain_held (p) (s : State) : (State.hingeTrain p s).held = s.held := by
  simp only [State.hingeTrain, ↓held_mk, ↓held_eta, held_eta, held_ite, held_ite2, ite_self, held_foldl, held_foldl1, held_foldl2, forUpTo_held, State.updHinge_held]

@[simp] theorem State.enterTrain_held (s : State) : (State.enterTrain s).held = s.held := by
  simp [State.enterTrain]

theorem State.priv_keeps (s : State) (ok i k) (h : k.keeps s.held) : (s.priv ok i k).keeps s.held := by
  unfold State.priv
  split
  · exact h
  · rfl

@[simp] theorem State.zeroSrams_held (s : State) : (State.zeroSrams s).held = s.held := by
  simp [State.zeroSrams]

@[simp] theorem State.settleTrk_held (s : State) (p) (a) (t) : (State.settleTrk s p a t).held = s.held := by
  simp only [State.settleTrk, ↓held_mk, ↓held_eta, held_eta, held_ite, held_ite2, ite_self, held_foldl, held_foldl1, held_foldl2, forUpTo_held, State.poisonRec_held, State.updTrk_held]

@[simp] theorem State.reported_held (s : State) (agent) (dev) : (State.reported s agent dev).held = s.held := by
  simp only [State.reported, ↓held_mk, ↓held_eta, held_eta, held_ite, held_ite2, ite_self, held_foldl, held_foldl1, held_foldl2, forUpTo_held, State.broadcast_held, State.raise_held, State.setHinge_held, State.count_held]

@[simp] theorem State.refuseImage_held (s : State) (r) : (State.refuseImage s r).held = s.held := by
  simp only [State.refuseImage, ↓held_mk, ↓held_eta, held_eta, held_ite, held_ite2, ite_self, held_foldl, held_foldl1, held_foldl2, forUpTo_held, State.logD_held, State.count_held, State.enterMode_held]

@[simp] theorem State.snapSkip_held (s : State) : (State.snapSkip s).held = s.held := by
  simp only [State.snapSkip, ↓held_mk, ↓held_eta, held_eta, held_ite, held_ite2, ite_self, held_foldl, held_foldl1, held_foldl2, forUpTo_held, State.count_held, State.logD_held]

@[simp] theorem State.snpLate_held (s : State) (p) (psi) (tag) (tgt) : (State.snpLate s p psi tag tgt).held = s.held := by
  unfold State.snpLate
  dsimp only
  repeat' split
  all_goals simp

@[simp] theorem State.expire_held (s : State) (p) (t) (v) (x) : (State.expire s p t v x).held = s.held := by
  unfold State.expire
  repeat' split
  all_goals first | rfl | (simp only [↓held_mk, ↓held_eta, held_eta, held_ite, held_ite2, ite_self, held_foldl, held_foldl1, held_foldl2, forUpTo_held, State.snpLate_held, State.count_held, State.poisonRec_held, State.notice_held, State.updPan_held, State.updTrk_held]; done) | (simp_all only [↓held_mk, ↓held_eta, held_eta, held_ite, held_ite2, ite_self, held_foldl, held_foldl1, held_foldl2, forUpTo_held, State.snpLate_held, State.count_held, State.poisonRec_held, State.notice_held, State.updPan_held, State.updTrk_held]; done)

@[simp] theorem State.releaseInv_held (s : State) (p) (k) (psi) (tag) (a) (i) : (State.releaseInv s p k psi tag a i).2.held = s.held := by
  simp [State.releaseInv]

@[simp] theorem State.releaseHeld_held (s : State) (p) (psi) (tag) (a) : (State.releaseHeld s p psi tag a).held = s.held := by
  simp [State.releaseHeld]

@[simp] theorem State.openHold_held (s : State) (p) (psi) (tag) (a) : (State.openHold s p psi tag a).held = s.held := by
  unfold State.openHold
  extract_lets
  repeat' split
  all_goals first | rfl | (simp only [↓held_mk, ↓held_eta, held_eta, held_ite, held_ite2, ite_self, held_foldl, held_foldl1, held_foldl2, forUpTo_held, State.count_held, State.releaseHeld_held, State.setPan_held]; done) | (simp_all only [↓held_mk, ↓held_eta, held_eta, held_ite, held_ite2, ite_self, held_foldl, held_foldl1, held_foldl2, forUpTo_held, State.count_held, State.releaseHeld_held, State.setPan_held]; done)

@[simp] theorem State.runF1_held (s : State) (e) (fn) (a) (f) : (State.runF1 s e fn a f).held = s.held := by
  simp [State.runF1]

@[simp] theorem State.klHold_held (s : State) (l) (port) (m) (held) : (State.klHold s l port m held).held = s.held := by
  unfold State.klHold
  repeat' split
  all_goals first | rfl | (simp only [↓held_mk, ↓held_eta, held_eta, held_ite, held_ite2, ite_self, held_foldl, held_foldl1, held_foldl2, forUpTo_held, State.grant1_held, State.count_held, State.updKn_held]; done) | (simp_all only [↓held_mk, ↓held_eta, held_eta, held_ite, held_ite2, ite_self, held_foldl, held_foldl1, held_foldl2, forUpTo_held, State.grant1_held, State.count_held, State.updKn_held]; done)

@[simp] theorem State.bedHold_held (s : State) (d port queue m cells held) : (s.bedHold d port queue m cells held).held = s.held := by
  unfold State.bedHold
  extract_lets now limit fin
  have hf : ∀ t, (fin t).held = t.held := by
    intro t
    simp only [fin]
    split <;> simp
  clear_value fin
  split
  · split
    · rfl
    · simp [hf]
  · split
    · rfl
    · split
      · rfl
      · split
        · rfl
        · next h => simp [hf, State.brinePart_held _ _ _ _ _ _ _ _ h]

@[simp] theorem State.trainFail_held (s : State) (l) : (State.trainFail s l).held = s.held := by
  simp only [State.trainFail, ↓held_mk, ↓held_eta, held_eta, held_ite, held_ite2, ite_self, held_foldl, held_foldl1, held_foldl2, forUpTo_held, State.toDetect_held, State.updLk_held, State.trainRec_held]

@[simp] theorem State.raiseReg_held (s : State) (o) (v) : (State.raiseReg s o v).held = s.held := by
  simp only [State.raiseReg, ↓held_mk, ↓held_eta, held_eta, held_ite, held_ite2, ite_self, held_foldl, held_foldl1, held_foldl2, forUpTo_held, State.setReg_held]

@[simp] theorem State.sluicePut_held (s : State) (d) (e) : (State.sluicePut s d e).held = s.held := by
  simp only [State.sluicePut, ↓held_mk, ↓held_eta, held_eta, held_ite, held_ite2, ite_self, held_foldl, held_foldl1, held_foldl2, forUpTo_held, State.updSl_held]

theorem State.ansSlot_held (s : State) (p q vc) (t : State) (h : s.ansSlot p q vc = some t) : t.held = s.held :=
  State.slot_held _ _ _ _ _ h

theorem State.takePanNote_held (s : State) (p f) (t : State) (h : s.takePanNote p f = some t) : t.held = s.held := by
  unfold State.takePanNote at h
  repeat' split at h
  all_goals first
    | (cases h; done)
    | (rw [Option.map_eq_some_iff] at h
       obtain ⟨y, hy, rfl⟩ := h
       simp [State.ansSlot_held _ _ _ _ _ hy]; done)

@[simp] theorem State.regInstant_held (s : State) : (State.regInstant s).held = s.held := by
  unfold State.regInstant
  repeat' split
  all_goals first | rfl | (simp only [↓held_mk, ↓held_eta, held_eta, held_ite, held_ite2, ite_self, held_foldl, held_foldl1, held_foldl2, forUpTo_held, State.modeRequest_held]; done) | (simp_all only [↓held_mk, ↓held_eta, held_eta, held_ite, held_ite2, ite_self, held_foldl, held_foldl1, held_foldl2, forUpTo_held, State.modeRequest_held]; done)

@[simp] theorem State.occupancy_held (s : State) (n) : (State.occupancy s n).held = s.held := by
  simp [State.occupancy]

@[simp] theorem State.reschedule_held (s : State) : (s.reschedule).held = s.held := by
  unfold State.reschedule
  dsimp only
  rw [State.again_held _ _ _ _ _ _ (fun _ u => State.stepCommit_held u) (fun u => State.updSl_held u _)]
  rw [State.again_held _ _ _ _ _ _ (fun _ u => by split <;> simp only [↓held_mk, ↓held_eta, held_eta, held_ite, held_ite2, ite_self, held_foldl, held_foldl1, held_foldl2, forUpTo_held, State.updSl_held, State.stepCommit_held, State.cmdNow_held, State.modeRequest_held, State.updEng_held, State.updBed_held, State.rakeStart_held, State.routeNow_held, State.setArbPend_held, State.setArbRefused_held, State.arbCommit_held]) (fun u => by simp only [↓held_mk, ↓held_eta, held_eta, held_ite, held_ite2, ite_self, held_foldl, held_foldl1, held_foldl2, forUpTo_held, State.updSl_held, State.stepCommit_held, State.cmdNow_held, State.modeRequest_held, State.updEng_held, State.updBed_held, State.rakeStart_held, State.routeNow_held, State.setArbPend_held, State.setArbRefused_held, State.arbCommit_held])]
  rw [State.again_held _ _ _ _ _ _ (fun _ u => by simp only [↓held_mk, ↓held_eta, held_eta, held_ite, held_ite2, ite_self, held_foldl, held_foldl1, held_foldl2, forUpTo_held, State.updSl_held, State.stepCommit_held, State.cmdNow_held, State.modeRequest_held, State.updEng_held, State.updBed_held, State.rakeStart_held, State.routeNow_held, State.setArbPend_held, State.setArbRefused_held, State.arbCommit_held]) (fun u => by simp only [↓held_mk, ↓held_eta, held_eta, held_ite, held_ite2, ite_self, held_foldl, held_foldl1, held_foldl2, forUpTo_held, State.updSl_held, State.stepCommit_held, State.cmdNow_held, State.modeRequest_held, State.updEng_held, State.updBed_held, State.rakeStart_held, State.routeNow_held, State.setArbPend_held, State.setArbRefused_held, State.arbCommit_held])]
  rw [State.again_held _ _ _ _ _ _ (fun _ u => by simp only [↓held_mk, ↓held_eta, held_eta, held_ite, held_ite2, ite_self, held_foldl, held_foldl1, held_foldl2, forUpTo_held, State.updSl_held, State.stepCommit_held, State.cmdNow_held, State.modeRequest_held, State.updEng_held, State.updBed_held, State.rakeStart_held, State.routeNow_held, State.setArbPend_held, State.setArbRefused_held, State.arbCommit_held]) (fun u => by simp only [↓held_mk, ↓held_eta, held_eta, held_ite, held_ite2, ite_self, held_foldl, held_foldl1, held_foldl2, forUpTo_held, State.updSl_held, State.stepCommit_held, State.cmdNow_held, State.modeRequest_held, State.updEng_held, State.updBed_held, State.rakeStart_held, State.routeNow_held, State.setArbPend_held, State.setArbRefused_held, State.arbCommit_held])]
  rw [forUpTo_held _ _ _ (fun b t => State.again_held _ _ _ _ _ _ (fun _ u => by simp only [↓held_mk, ↓held_eta, held_eta, held_ite, held_ite2, ite_self, held_foldl, held_foldl1, held_foldl2, forUpTo_held, State.updSl_held, State.stepCommit_held, State.cmdNow_held, State.modeRequest_held, State.updEng_held, State.updBed_held, State.rakeStart_held, State.routeNow_held, State.setArbPend_held, State.setArbRefused_held, State.arbCommit_held]) (fun u => by simp only [↓held_mk, ↓held_eta, held_eta, held_ite, held_ite2, ite_self, held_foldl, held_foldl1, held_foldl2, forUpTo_held, State.updSl_held, State.stepCommit_held, State.cmdNow_held, State.modeRequest_held, State.updEng_held, State.updBed_held, State.rakeStart_held, State.routeNow_held, State.setArbPend_held, State.setArbRefused_held, State.arbCommit_held]))]
  rw [forUpTo_held _ _ _ (fun b t => State.again_held _ _ _ _ _ _ (fun _ u => by simp only [↓held_mk, ↓held_eta, held_eta, held_ite, held_ite2, ite_self, held_foldl, held_foldl1, held_foldl2, forUpTo_held, State.updSl_held, State.stepCommit_held, State.cmdNow_held, State.modeRequest_held, State.updEng_held, State.updBed_held, State.rakeStart_held, State.routeNow_held, State.setArbPend_held, State.setArbRefused_held, State.arbCommit_held]) (fun u => by simp only [↓held_mk, ↓held_eta, held_eta, held_ite, held_ite2, ite_self, held_foldl, held_foldl1, held_foldl2, forUpTo_held, State.updSl_held, State.stepCommit_held, State.cmdNow_held, State.modeRequest_held, State.updEng_held, State.updBed_held, State.rakeStart_held, State.routeNow_held, State.setArbPend_held, State.setArbRefused_held, State.arbCommit_held]))]
  rw [State.again_held _ _ _ _ _ _ (fun _ u => by simp only [↓held_mk, ↓held_eta, held_eta, held_ite, held_ite2, ite_self, held_foldl, held_foldl1, held_foldl2, forUpTo_held, State.updSl_held, State.stepCommit_held, State.cmdNow_held, State.modeRequest_held, State.updEng_held, State.updBed_held, State.rakeStart_held, State.routeNow_held, State.setArbPend_held, State.setArbRefused_held, State.arbCommit_held]) (fun u => by simp only [↓held_mk, ↓held_eta, held_eta, held_ite, held_ite2, ite_self, held_foldl, held_foldl1, held_foldl2, forUpTo_held, State.updSl_held, State.stepCommit_held, State.cmdNow_held, State.modeRequest_held, State.updEng_held, State.updBed_held, State.rakeStart_held, State.routeNow_held, State.setArbPend_held, State.setArbRefused_held, State.arbCommit_held])]
  exact held_foldl _ _ _ (fun t b => State.again_held _ _ _ _ _ _ (fun _ u => by simp only [↓held_mk, ↓held_eta, held_eta, held_ite, held_ite2, ite_self, held_foldl, held_foldl1, held_foldl2, forUpTo_held, State.updSl_held, State.stepCommit_held, State.cmdNow_held, State.modeRequest_held, State.updEng_held, State.updBed_held, State.rakeStart_held, State.routeNow_held, State.setArbPend_held, State.setArbRefused_held, State.arbCommit_held]) (fun u => by simp only [↓held_mk, ↓held_eta, held_eta, held_ite, held_ite2, ite_self, held_foldl, held_foldl1, held_foldl2, forUpTo_held, State.updSl_held, State.stepCommit_held, State.cmdNow_held, State.modeRequest_held, State.updEng_held, State.updBed_held, State.rakeStart_held, State.routeNow_held, State.setArbPend_held, State.setArbRefused_held, State.arbCommit_held]))

@[simp] theorem State.moveStamps_held (s : State) (d) : (State.moveStamps s d).held = s.held := by
  simp only [State.moveStamps, ↓held_mk, ↓held_eta, held_eta, held_ite, held_ite2, ite_self, held_foldl, held_foldl1, held_foldl2, forUpTo_held]

@[simp] theorem State.wbSend_held (s : State) (p e) : (s.wbSend p e).held = s.held := by
  unfold State.wbSend
  repeat' split
  all_goals first | rfl | (simp; done) | (next h => simp [State.faultTrk_held _ _ _ _ _ _ h]; done)

@[simp] theorem State.runJr_held (s : State) (e op a link) : (s.runJr e op a link).held = s.held := by
  refine State.runIns_held _ _ _ _ ?_
  dsimp only
  split
  · rfl
  · trivial

@[simp] theorem State.reply_held (s : State) (l) (m) (status) (data) : (State.reply s l m status data).held = s.held := by
  simp only [State.reply, ↓held_mk, ↓held_eta, held_eta, held_ite, held_ite2, ite_self, held_foldl, held_foldl1, held_foldl2, forUpTo_held, State.kwrite_held, State.pushMgmt_held]

@[simp] theorem State.mgmtReset_held (s : State) : (State.mgmtReset s).held = s.held := by
  unfold State.mgmtReset
  repeat' split
  all_goals first | rfl | (simp only [↓held_mk, ↓held_eta, held_eta, held_ite, held_ite2, ite_self, held_foldl, held_foldl1, held_foldl2, forUpTo_held, State.hostAbort_held, State.reply_held]; done) | (simp_all only [↓held_mk, ↓held_eta, held_eta, held_ite, held_ite2, ite_self, held_foldl, held_foldl1, held_foldl2, forUpTo_held, State.hostAbort_held, State.reply_held]; done)

@[simp] theorem State.lkCount_held (s : State) (l) (hinge) (kn) (n) : (State.lkCount s l hinge kn n).held = s.held := by
  unfold State.lkCount
  repeat' split
  all_goals first | rfl | (simp only [↓held_mk, ↓held_eta, held_eta, held_ite, held_ite2, ite_self, held_foldl, held_foldl1, held_foldl2, forUpTo_held, State.count_held]; done) | (simp_all only [↓held_mk, ↓held_eta, held_eta, held_ite, held_ite2, ite_self, held_foldl, held_foldl1, held_foldl2, forUpTo_held, State.count_held]; done)

@[simp] theorem State.scramble_held (s : State) : (State.scramble s).held = s.held := by
  simp only [State.scramble, ↓held_mk, ↓held_eta, held_eta, held_ite, held_ite2, ite_self, held_foldl, held_foldl1, held_foldl2, forUpTo_held]

theorem State.regInit_held (s : State) (b n) (h : s.held.keyOk = true) : (s.regInit b n).held = s.held := by
  unfold State.regInit
  dsimp only
  rw [held_foldl _ _ _ (fun t a => by simp only [↓held_mk, ↓held_eta, held_eta, held_ite, held_ite2, ite_self, held_foldl, held_foldl1, held_foldl2, forUpTo_held, State.arbCommit_held])]
  suffices H : ∀ (l : List Nat) (t : State), t.held = s.held →
      (l.foldl (fun t j => match regAt (initAt b j).1 with
        | some r => t.wrRow 2 r (initAt b j).2
        | none => t) t).held = s.held from H _ _ rfl
  intro l
  induction l with
  | nil => exact fun t ht => ht
  | cons j l ih =>
    intro t ht
    rw [List.foldl_cons]
    refine ih _ ?_
    split
    · rw [State.wrRow_held _ _ _ _ (by rw [ht]; exact h), ht]
    · exact ht

@[simp] theorem State.markCopies_held (s : State) (c : Nat) (accepted : Bool) : (State.markCopies s c accepted).held = s.held := by
  first
  | rfl
  | (simp [State.markCopies]; done)
  | (unfold State.markCopies; repeat' split
     all_goals first | rfl | (simp [*]; done))
  | (unfold State.markCopies; dsimp only; repeat' split
     all_goals first | rfl | (simp [*]; done) | (simp_all; done))

@[simp] theorem State.edgeFree_held (s : State) : (State.edgeFree s).held = s.held := by
  first
  | rfl
  | (simp [State.edgeFree]; done)
  | (unfold State.edgeFree; repeat' split
     all_goals first | rfl | (simp [*]; done))
  | (unfold State.edgeFree; dsimp only; repeat' split
     all_goals first | rfl | (simp [*]; done) | (simp_all; done))

@[simp] theorem State.mpUnquarantine_held (s : State) (m) : (State.mpUnquarantine s m).held = s.held := by
  simp only [State.mpUnquarantine, ↓held_mk, ↓held_eta, held_eta, held_ite, held_ite2, ite_self, held_foldl, held_foldl1, held_foldl2, forUpTo_held, State.updMp_held]

@[simp] theorem State.control_held (s : State) (l : LinkRef) (f : BitVec 512) : (State.control s l f).2.held = s.held := by
  first
  | rfl
  | (simp [State.control]; done)
  | (unfold State.control; repeat' split
     all_goals first | rfl | (simp [*]; done))
  | (unfold State.control; dsimp only; repeat' split
     all_goals first | rfl | (simp [*]; done) | (simp_all; done))

theorem State.sendNow_held (s : State) (p e) (t : State) (h : s.sendNow p e = some t) : t.held = s.held := by
  unfold State.sendNow at h
  dsimp only at h
  split at h
  · next hs =>
    split at h
    · cases h; rw [State.sendSlot_held, State.slot_held _ _ _ _ _ hs]
    · cases h
  · cases h

@[simp] theorem State.runImm_held (s : State) (e) (op) (a) (f) : (State.runImm s e op a f).held = s.held := by
  simp [State.runImm]

@[simp] theorem State.engSnp_held (s : State) (p) (e) (t) (a) : (State.engSnp s p e t a).held = s.held := by
  unfold State.engSnp
  repeat' split
  all_goals first | rfl | (simp only [↓held_mk, ↓held_eta, held_eta, held_ite, held_ite2, ite_self, held_foldl, held_foldl1, held_foldl2, forUpTo_held, State.updTrk_held, State.issue_held, State.sendSnp_held, State.count_held]; done) | (simp_all only [↓held_mk, ↓held_eta, held_eta, held_ite, held_ite2, ite_self, held_foldl, held_foldl1, held_foldl2, forUpTo_held, State.updTrk_held, State.issue_held, State.sendSnp_held, State.count_held]; done)

@[simp] theorem State.sweepSet_held (s : State) (p psi n) : (s.sweepSet p psi n).2.held = s.held := by
  induction n generalizing s with
  | zero => rfl
  | succ m ih =>
    unfold State.sweepSet
    split
    · rfl
    · split
      · rfl
      · dsimp only
        rw [ih]
        simp only [↓held_mk, ↓held_eta, held_eta, held_ite, held_ite2, ite_self, held_foldl, held_foldl1, held_foldl2, forUpTo_held, State.startVictim_held, State.progress_held, State.addTrk_held]

@[simp] theorem State.setQuota_held (s : State) (p psi err) : (s.setQuota p psi err).2.held = s.held := by
  unfold State.setQuota
  extract_lets fin
  have hfin : ∀ t, (fin t).held = t.held := by intro t; simp only [fin, ↓held_mk, ↓held_eta, held_eta, held_ite, held_ite2, ite_self, held_foldl, held_foldl1, held_foldl2, forUpTo_held, State.sweepSet_held, State.bring_held, State.updPan_held]
  clear_value fin
  split
  · rfl
  · split
    · simp only [hfin]
    · have hb := State.bring_held s p psi err
      split
      · next h => rw [h] at hb; exact hb
      · next h => rw [h] at hb; simp only [hfin]; exact hb
      · next h =>
        rw [h] at hb
        dsimp only at hb ⊢
        split <;> simp only [hfin, hb, ↓held_mk, ↓held_eta, held_eta, held_ite, held_ite2, ite_self, held_foldl, held_foldl1, held_foldl2, forUpTo_held, State.sweepSet_held, State.bring_held, State.updPan_held]

@[simp] theorem State.ownerAnswer_held (s : State) (p) (t) (v) (a) (bad) : (State.ownerAnswer s p t v a bad).held = s.held := by
  unfold State.ownerAnswer
  repeat' split
  all_goals first | rfl | (simp only [↓held_mk, ↓held_eta, held_eta, held_ite, held_ite2, ite_self, held_foldl, held_foldl1, held_foldl2, forUpTo_held, State.count_held, State.issue_held, State.poisonRec_held, State.updTrk_held]; done) | (simp_all only [↓held_mk, ↓held_eta, held_eta, held_ite, held_ite2, ite_self, held_foldl, held_foldl1, held_foldl2, forUpTo_held, State.count_held, State.issue_held, State.poisonRec_held, State.updTrk_held]; done)

@[simp] theorem State.strayAnswer_held (s : State) (p) (a) : (State.strayAnswer s p a).held = s.held := by
  simp only [State.strayAnswer, ↓held_mk, ↓held_eta, held_eta, held_ite, held_ite2, ite_self, held_foldl, held_foldl1, held_foldl2, forUpTo_held, State.logErr_held, State.setPan_held, State.count_held]

@[simp] theorem State.panAnswer_held (s : State) (p) (a) (bad) : (State.panAnswer s p a bad).held = s.held := by
  unfold State.panAnswer
  dsimp only
  repeat' split
  all_goals first | rfl | (simp only [↓held_mk, ↓held_eta, held_eta, held_ite, held_ite2, ite_self, held_foldl, held_foldl1, held_foldl2, forUpTo_held, State.sharerAnswer_held, State.ownerAnswer_held, State.progress_held, State.strayAnswer_held, State.count_held]; done) | (simp_all only [↓held_mk, ↓held_eta, held_eta, held_ite, held_ite2, ite_self, held_foldl, held_foldl1, held_foldl2, forUpTo_held, State.sharerAnswer_held, State.ownerAnswer_held, State.progress_held, State.strayAnswer_held, State.count_held]; done)

@[simp] theorem State.collAnswer_held (s : State) (a) : (State.collAnswer s a).held = s.held := by
  unfold State.collAnswer
  dsimp only
  repeat' split
  all_goals first | rfl | (simp only [↓held_mk, ↓held_eta, held_eta, held_ite, held_ite2, ite_self, held_foldl, held_foldl1, held_foldl2, forUpTo_held, State.setColl_held, State.collDone_held, State.logErr_held]; done) | (simp_all only [↓held_mk, ↓held_eta, held_eta, held_ite, held_ite2, ite_self, held_foldl, held_foldl1, held_foldl2, forUpTo_held, State.setColl_held, State.collDone_held, State.logErr_held]; done)

@[simp] theorem State.takeAns_held (s : State) (dst q kind) : (s.takeAns dst q kind).held = s.held := by
  unfold State.takeAns
  extract_lets n
  split
  · rfl
  · split
    · split
      · rfl
      · simp only [↓held_mk, ↓held_eta, held_eta, held_ite, held_ite2, ite_self, held_foldl, held_foldl1, held_foldl2, forUpTo_held, State.panAnswer_held, State.popQueue_held, State.collAnswer_held, State.discardMsg_held, State.underrun_held]
    · split
      · simp only [↓held_mk, ↓held_eta, held_eta, held_ite, held_ite2, ite_self, held_foldl, held_foldl1, held_foldl2, forUpTo_held, State.panAnswer_held, State.popQueue_held, State.collAnswer_held, State.discardMsg_held, State.underrun_held]
      · split
        · extract_lets a'
          clear_value a'
          split
          · rfl
          · split
            · simp only [↓held_mk, ↓held_eta, held_eta, held_ite, held_ite2, ite_self, held_foldl, held_foldl1, held_foldl2, forUpTo_held, State.panAnswer_held, State.popQueue_held, State.collAnswer_held, State.discardMsg_held, State.underrun_held]
            · split
              · next h => simp only [State.ansSlot_held _ _ _ _ _ h, ↓held_mk, ↓held_eta, held_eta, held_ite, held_ite2, ite_self, held_foldl, held_foldl1, held_foldl2, forUpTo_held, State.panAnswer_held, State.popQueue_held, State.collAnswer_held, State.discardMsg_held, State.underrun_held]
              · rfl
        · rfl

@[simp] theorem State.runBranch_held (s : State) (e op a c) : (s.runBranch e op a c).held = s.held :=
  State.runIns_held _ _ _ _ trivial

theorem State.fromMem_held (s : State) (p m vc k data) (t : State) (h : s.fromMem p m vc k data = some t) : t.held = s.held := by
  unfold State.fromMem at h
  extract_lets b n s0 a got at h
  have h0 : s0.held = s.held := by
    simp only [s0]
    repeat' split
    all_goals first | rfl | simp
  have hg : ∀ u, got = some u → u.held = s.held := by
    intro u hu
    simp only [got] at hu
    split at hu
    · cases hu; exact h0
    · split at hu
      · cases hu
      · rw [State.slot_held _ _ _ _ _ hu, h0]
  clear_value s0 got
  split at h
  · cases h
  · next hb =>
    rw [Option.bind_eq_some_iff] at hb
    obtain ⟨v, hv, hb⟩ := hb
    rw [Option.map_eq_some_iff] at h
    obtain ⟨u, hu, rfl⟩ := h
    simp [State.ansSlot_held _ _ _ _ _ hu, State.brinePut_held _ _ _ _ _ _ _ hb, hg v hv]

theorem State.memSays_held (s : State) (p m vc k data f) (hf : ∀ t, (f t).held = t.held) : (s.memSays p m vc k data f).held = s.held := by
  unfold State.memSays
  split
  · next h => exact (hf _).trans (State.fromMem_held _ _ _ _ _ _ _ h)
  · rfl

@[simp] theorem State.wbDone_held (s : State) (p psi tag e st) : (s.wbDone p psi tag e st).held = s.held := by
  unfold State.wbDone
  extract_lets mine free again
  have hfree : ∀ t, (free t).held = t.held := by intro t; simp only [free, ↓held_mk, ↓held_eta, held_eta, held_ite, held_ite2, ite_self, held_foldl, held_foldl1, held_foldl2, forUpTo_held, State.reqFail_held, State.updMemReq_held, State.count_held, State.mpSent_held, State.wakeWb_held, State.dropMemReq_held, State.updPan_held, State.combDrain_held]
  clear_value free
  have hag : ∀ c f, (∀ t, (f t).held = t.held) → (again c f).held = s.held := by
    intro c f hf
    simp only [again]
    split
    · next h => simp only [State.wakeWb_held, hf, State.faultTrk_held _ _ _ _ _ _ h, hfree]
    · rfl
  clear_value again
  split
  · exact hag _ _ (fun _ => rfl)
  · split
    · simp only [hfree, ↓held_mk, ↓held_eta, held_eta, held_ite, held_ite2, ite_self, held_foldl, held_foldl1, held_foldl2, forUpTo_held, State.reqFail_held, State.updMemReq_held, State.count_held, State.mpSent_held, State.wakeWb_held, State.dropMemReq_held, State.updPan_held, State.combDrain_held]
    · exact hag _ _ (fun _ => rfl)
    · split
      · simp only [↓held_mk, ↓held_eta, held_eta, held_ite, held_ite2, ite_self, held_foldl, held_foldl1, held_foldl2, forUpTo_held, State.reqFail_held, State.updMemReq_held, State.count_held, State.mpSent_held, State.wakeWb_held, State.dropMemReq_held, State.updPan_held, State.combDrain_held]
      · exact hag _ _ (fun t => by simp only [↓held_mk, ↓held_eta, held_eta, held_ite, held_ite2, ite_self, held_foldl, held_foldl1, held_foldl2, forUpTo_held, State.reqFail_held, State.updMemReq_held, State.count_held, State.mpSent_held, State.wakeWb_held, State.dropMemReq_held, State.updPan_held, State.combDrain_held])

@[simp] theorem State.budgetMark_held (s : State) (bud) : (State.budgetMark s bud).held = s.held := by
  unfold State.budgetMark
  repeat' split
  all_goals first | rfl | (simp only [↓held_mk, ↓held_eta, held_eta, held_ite, held_ite2, ite_self, held_foldl, held_foldl1, held_foldl2, forUpTo_held]; done) | (simp_all only [↓held_mk, ↓held_eta, held_eta, held_ite, held_ite2, ite_self, held_foldl, held_foldl1, held_foldl2, forUpTo_held]; done)

@[simp] theorem State.filler_held (s : State) : (State.filler s).held = s.held := by
  simp [State.filler]

@[simp] theorem State.bmovPart_held (s s0 : State) (e src dst x y) : (s.bmovPart s0 e src dst x y).held = s.held := by
  unfold State.bmovPart
  dsimp only
  split
  · simp only [↓held_mk, ↓held_eta, held_eta, held_ite, held_ite2, ite_self, held_foldl, held_foldl1, held_foldl2, forUpTo_held, State.sramWrite_held]
  · rfl

@[simp] theorem State.bmove_held (s : State) (e src dst n) : (s.bmove e src dst n).held = s.held := by
  unfold State.bmove
  exact held_foldl _ _ _ (fun t k => by simp only [State.bmovPart_held])

@[simp] theorem State.eachPan_held (s : State) (f) : (State.eachPan s f).held = s.held := by
  simp [State.eachPan]

@[simp] theorem State.zeroOthers_held (s : State) : (State.zeroOthers s).held = s.held := by
  first
  | (simp [State.zeroOthers]; done)
  | (unfold State.zeroOthers; repeat' split
     all_goals first | (simp [*]; done) | rfl)
  | (unfold State.zeroOthers; dsimp only; repeat' split
     all_goals first | (simp [*]; done) | (simp_all; done) | rfl)

@[simp] theorem State.bistZero_held (s : State) (id : Nat) : (State.bistZero s id).held = s.held := by
  first
  | (simp [State.bistZero]; done)
  | (unfold State.bistZero; repeat' split
     all_goals first | (simp [*]; done) | rfl)
  | (unfold State.bistZero; dsimp only; repeat' split
     all_goals first | (simp [*]; done) | (simp_all; done) | rfl)

theorem State.putSections_held (s : State) (l) (h : s.held.keyOk = true) : (s.putSections l).held = s.held := by
  unfold State.putSections
  dsimp only
  generalize ht : State.zeroSrams _ = t
  have h1 : t.held = s.held := by
    rw [← ht, State.zeroSrams_held, State.putCoreCode_held, State.putPanCode_held,
      forUpTo_held _ _ _ (fun k t => (State.setReg_held _ _ _).trans (State.setReg_held _ _ _)), held_mk, held_eta]
  clear ht
  rw [State.regInit_held _ _ _ (by rw [h1]; exact h), h1]

@[simp] theorem State.klClosed_held (s : State) (l) : (State.klClosed s l).held = s.held := by
  simp only [State.klClosed, ↓held_mk, ↓held_eta, held_eta, held_ite, held_ite2, ite_self, held_foldl, held_foldl1, held_foldl2, forUpTo_held, State.dropLink_held, State.updKn_held]

@[simp] theorem State.dropWindows_held (s : State) : (State.dropWindows s).held = s.held := by
  simp [State.dropWindows]

@[simp] theorem State.quarReset_held (s : State) (port) : (State.quarReset s port).held = s.held := by
  simp only [State.quarReset, ↓held_mk, ↓held_eta, held_eta, held_ite, held_ite2, ite_self, held_foldl, held_foldl1, held_foldl2, forUpTo_held, State.mpReset_held, State.klReset_held, State.portReset_held]

@[simp] theorem State.upset_held (s : State) (o) (bit) : (State.upset s o bit).held = s.held := by
  unfold State.upset
  repeat' split
  all_goals first | rfl | (simp only [↓held_mk, ↓held_eta, held_eta, held_ite, held_ite2, ite_self, held_foldl, held_foldl1, held_foldl2, forUpTo_held]; done) | (simp_all only [↓held_mk, ↓held_eta, held_eta, held_ite, held_ite2, ite_self, held_foldl, held_foldl1, held_foldl2, forUpTo_held]; done)

@[simp] theorem State.declareDead_held (s : State) (p) (a) (cnt) : (State.declareDead s p a cnt).held = s.held := by
  simp only [State.declareDead, ↓held_mk, ↓held_eta, held_eta, held_ite, held_ite2, ite_self, held_foldl, held_foldl1, held_foldl2, forUpTo_held, State.updHinge_held, State.hingeRec_held, State.makeGone_held]

@[simp] theorem State.quarantine_held (s : State) (port) : (State.quarantine s port).held = s.held := by
  simp only [State.quarantine, ↓held_mk, ↓held_eta, held_eta, held_ite, held_ite2, ite_self, held_foldl, held_foldl1, held_foldl2, forUpTo_held, State.updMp_held, State.updKn_held, State.updHinge_held]

@[simp] theorem State.capturing_held (s : State) (sn) : (State.capturing s sn).held = s.held := by
  simp only [State.capturing, ↓held_mk, ↓held_eta, held_eta, held_ite, held_ite2, ite_self, held_foldl, held_foldl1, held_foldl2, forUpTo_held]

@[simp] theorem State.dumpSkip_held (s : State) : s.dumpSkip.held = s.held := by
  unfold State.dumpSkip
  split <;> simp

@[simp] theorem State.snapMark_held (s : State) (per) (dmp) (tim) : (State.snapMark s per dmp tim).held = s.held := by
  simp only [State.snapMark, ↓held_mk, ↓held_eta, held_eta, held_ite, held_ite2, ite_self, held_foldl, held_foldl1, held_foldl2, forUpTo_held]

@[simp] theorem State.cleanWays_held (s : State) (p psi l) : (s.cleanWays p psi l).2.held = s.held := by
  induction l generalizing s with
  | nil => rfl
  | cons w rest ih =>
    unfold State.cleanWays
    extract_lets e
    split
    · exact ih _
    · split
      · split
        · rfl
        · next h => rw [ih, State.chainLine_held _ _ _ _ _ _ h]
      · rw [ih, State.cleanWay_held]

@[simp] theorem State.setClean_held (s : State) (p psi err) : (s.setClean p psi err).2.held = s.held := by
  unfold State.setClean
  extract_lets fin
  have hfin : ∀ t, (fin t).held = t.held := by intro t; simp only [fin, ↓held_mk, ↓held_eta, held_eta, held_ite, held_ite2, ite_self, held_foldl, held_foldl1, held_foldl2, forUpTo_held, State.cleanWays_held, State.bring_held, State.updPan_held, State.cleanReport_held]
  clear_value fin
  split
  · rfl
  · have hb := State.bring_held s p psi err
    split
    · next h => rw [h] at hb; exact hb
    · next h => rw [h] at hb; simp only [hfin]; exact hb
    · next h =>
      rw [h] at hb
      dsimp only at hb ⊢
      split <;> simp only [hfin, hb, ↓held_mk, ↓held_eta, held_eta, held_ite, held_ite2, ite_self, held_foldl, held_foldl1, held_foldl2, forUpTo_held, State.cleanWays_held, State.bring_held, State.updPan_held, State.cleanReport_held]

@[simp] theorem State.goneAt_held (s0 : State) (p) (agent) : (State.goneAt s0 p agent).held = s0.held := by
  simp [State.goneAt]

@[simp] theorem State.illegalWords_held (s : State) : (State.illegalWords s).held = s.held := by
  simp [State.illegalWords]

@[simp] theorem State.clamp_held (s : State) (b) : (State.clamp s b).held = s.held := by
  simp only [State.clamp, ↓held_mk, ↓held_eta, held_eta, held_ite, held_ite2, ite_self, held_foldl, held_foldl1, held_foldl2, forUpTo_held, State.updBed_held, State.count_held, State.logD_held]

@[simp] theorem State.edgeLocked_held (s : State) : (State.edgeLocked s).held = s.held := by
  first
  | rfl
  | (simp [State.edgeLocked]; done)
  | (unfold State.edgeLocked; repeat' split
     all_goals first | rfl | (simp [*]; done))
  | (unfold State.edgeLocked; dsimp only; repeat' split
     all_goals first | rfl | (simp [*]; done) | (simp_all; done))

@[simp] theorem State.tripBed_held (s : State) (b) : (State.tripBed s b).held = s.held := by
  simp only [State.tripBed, ↓held_mk, ↓held_eta, held_eta, held_ite, held_ite2, ite_self, held_foldl, held_foldl1, held_foldl2, forUpTo_held, State.thermTrip_held]

@[simp] theorem State.skewPair_held (s : State) (was) (hot) (cool) : (State.skewPair s was hot cool).2.held = s.held := by
  simp only [State.skewPair, ↓held_mk, ↓held_eta, held_eta, held_ite, held_ite2, ite_self, held_foldl, held_foldl1, held_foldl2, forUpTo_held, State.logD_held, State.updBed_held]

@[simp] theorem State.putStatus_held (s : State) (l) : (State.putStatus s l).held = s.held := by
  simp [State.putStatus]

theorem State.install_held (s : State) (l) (h : s.held.keyOk = true) : (s.install l).held = s.held := by
  unfold State.install
  extract_lets s1 s2
  have h1 : s1.held = s.held := by simp only [s1, State.putStatus_held, State.putSections_held _ _ h]
  clear_value s1
  have h2 : s2.held = s.held := by
    rw [← h1]
    simp only [s2, State.checkRing_held]
    rw [forUpTo_held _ _ _ (fun k t => by simp only [↓held_mk, ↓held_eta, held_eta, held_ite, held_ite2, ite_self, held_foldl, held_foldl1, held_foldl2, forUpTo_held, State.logD_held, State.count_held, State.enterTrain_held, State.panStart_held, State.updEng_held, State.coreStart_held, State.checkRing_held, State.putStatus_held]), forUpTo_held _ _ _ (fun k t => by simp only [↓held_mk, ↓held_eta, held_eta, held_ite, held_ite2, ite_self, held_foldl, held_foldl1, held_foldl2, forUpTo_held, State.logD_held, State.count_held, State.enterTrain_held, State.panStart_held, State.updEng_held, State.coreStart_held, State.checkRing_held, State.putStatus_held])]
  clear_value s2
  simp only [h2, ↓held_mk, ↓held_eta, held_eta, held_ite, held_ite2, ite_self, held_foldl, held_foldl1, held_foldl2, forUpTo_held, State.logD_held, State.count_held, State.enterTrain_held, State.panStart_held, State.updEng_held, State.coreStart_held, State.checkRing_held, State.putStatus_held]

@[simp] theorem State.txLink_held (s : State) (l : LinkRef) : (State.txLink s l).held = s.held := by
  first
  | rfl
  | (simp [State.txLink]; done)
  | (unfold State.txLink; repeat' split
     all_goals first | rfl | (simp [*]; done))
  | (unfold State.txLink; dsimp only; repeat' split
     all_goals first | rfl | (simp [*]; done) | (simp_all; done))

@[simp] theorem State.leak_held (s : State) (b) : (State.leak s b).held = s.held := by
  simp [State.leak]

@[simp] theorem State.authMode_held (s : State) : (State.authMode s).held = s.held := by
  simp only [State.authMode, ↓held_mk, ↓held_eta, held_eta, held_ite, held_ite2, ite_self, held_foldl, held_foldl1, held_foldl2, forUpTo_held, State.authEnd_held]

theorem State.loadEnd_held (s : State) (h : s.held.keyOk = true) : (s.loadEnd).held = s.held := by
  unfold State.loadEnd
  split
  · exact State.install_held _ _ h
  · simp only [↓held_mk, ↓held_eta, held_eta, held_ite, held_ite2, ite_self, held_foldl, held_foldl1, held_foldl2, forUpTo_held, State.refuseImage_held]

@[simp] theorem State.unquarantine_held (s : State) (l) : (State.unquarantine s l).held = s.held := by
  unfold State.unquarantine
  repeat' split
  all_goals first | rfl | (simp only [↓held_mk, ↓held_eta, held_eta, held_ite, held_ite2, ite_self, held_foldl, held_foldl1, held_foldl2, forUpTo_held, State.updKn_held, State.updHinge_held]; done) | (simp_all only [↓held_mk, ↓held_eta, held_eta, held_ite, held_ite2, ite_self, held_foldl, held_foldl1, held_foldl2, forUpTo_held, State.updKn_held, State.updHinge_held]; done)

@[simp] theorem State.disagreeing_held (s : State) (a) (bn) : (State.disagreeing s a bn).held = s.held := by
  simp only [State.disagreeing, ↓held_mk, ↓held_eta, held_eta, held_ite, held_ite2, ite_self, held_foldl, held_foldl1, held_foldl2, forUpTo_held, State.logD_held, State.updSl_held]

theorem State.runFence_held (s : State) (e sr rd rs f) (h : ∀ t, (f t).held = t.held) : (s.runFence e sr rd rs f).held = s.held :=
  State.runIns_held _ _ _ _ (h s)

@[simp] theorem State.runTrap_held (s : State) (e sub code a) : (s.runTrap e sub code a).held = s.held :=
  State.runIns_held _ _ _ _ rfl

theorem State.busWrite_held (s : State) (w o v full) (h : s.held.keyOk = true) : (s.busWrite w o v full).held = s.held := by
  unfold State.busWrite
  split
  · exact State.bar0_held _ _ h
  · split
    · split
      · exact State.hostWrite_held _ _ _ _ _ h
      · rfl
    · split
      · split
        · exact State.coreStore_held _ _ _ _ h
        · rfl
      · split
        · dsimp only
          split
          · exact State.panStore_held _ _ _ _ h
          · rfl
        · rfl

@[simp] theorem State.cmdInstant_held (s : State) : (State.cmdInstant s).held = s.held := by
  first
  | rfl
  | (simp [State.cmdInstant]; done)
  | (unfold State.cmdInstant; repeat' split
     all_goals first | rfl | (simp [*]; done))
  | (unfold State.cmdInstant; dsimp only; repeat' split
     all_goals first | rfl | (simp [*]; done) | (simp_all; done))

@[simp] theorem State.cwDrain_held (s : State) (e c) : (s.cwDrain e c).held = s.held := by
  unfold State.cwDrain
  generalize ht : ({ s with img := _ } : State) = t
  have h1 : t.held = s.held := by rw [← ht, held_mk, held_eta]
  clear ht
  dsimp only
  split
  · simp only [h1, ↓held_mk, ↓held_eta, held_eta, held_ite, held_ite2, ite_self, held_foldl, held_foldl1, held_foldl2, forUpTo_held, State.logD_held, State.clearUe_held]
  · split
    · simp only [h1, ↓held_mk, ↓held_eta, held_eta, held_ite, held_ite2, ite_self, held_foldl, held_foldl1, held_foldl2, forUpTo_held, State.logD_held, State.clearUe_held]
    · simp only [↓held_mk, ↓held_eta, held_eta, held_ite, held_ite2, ite_self, held_foldl, held_foldl1, held_foldl2, forUpTo_held, State.logD_held, State.clearUe_held]

@[simp] theorem State.drainCode_held (s : State) (e) : (State.drainCode s e).held = s.held := by
  simp [State.drainCode]

@[simp] theorem State.mpEvent_held (s : State) (m) (h) (e) : (State.mpEvent s m h e).held = s.held := by
  simp only [State.mpEvent, ↓held_mk, ↓held_eta, held_eta, held_ite, held_ite2, ite_self, held_foldl, held_foldl1, held_foldl2, forUpTo_held, State.logErr_held, State.count_held]

theorem State.takeMgmt_held (s : State) (f g) (h : ∀ l m t, (g l m t).held = t.held) : (s.takeMgmt f g).held = s.held := by
  unfold State.takeMgmt
  split
  · rfl
  · split
    · rw [h]; rfl
    · rfl

@[simp] theorem State.learnHead_held (s : State) (m) : (State.learnHead s m).held = s.held := by
  simp only [State.learnHead, ↓held_mk, ↓held_eta, held_eta, held_ite, held_ite2, ite_self, held_foldl, held_foldl1, held_foldl2, forUpTo_held]

@[simp] theorem State.strayGack_held (s : State) (p) (k) (sdev) (htag) : (State.strayGack s p k sdev htag).held = s.held := by
  simp only [State.strayGack, ↓held_mk, ↓held_eta, held_eta, held_ite, held_ite2, ite_self, held_foldl, held_foldl1, held_foldl2, forUpTo_held, State.logErr_held, State.setPan_held, State.count_held]

@[simp] theorem State.replayFrom_held (s : State) (l) (rseq) : (State.replayFrom s l rseq).held = s.held := by
  simp only [State.replayFrom, ↓held_mk, ↓held_eta, held_eta, held_ite, held_ite2, ite_self, held_foldl, held_foldl1, held_foldl2, forUpTo_held, State.retrain_held, State.setLk_held, State.count_held]

@[simp] theorem State.sramCe_held (s : State) (unit) (id) (word) : (State.sramCe s unit id word).held = s.held := by
  simp only [State.sramCe, ↓held_mk, ↓held_eta, held_eta, held_ite, held_ite2, ite_self, held_foldl, held_foldl1, held_foldl2, forUpTo_held, State.logD_held, State.count_held]

@[simp] theorem State.badMsg_held (s : State) (b) (n) (i) : (State.badMsg s b n i).held = s.held := by
  simp only [State.badMsg, ↓held_mk, ↓held_eta, held_eta, held_ite, held_ite2, ite_self, held_foldl, held_foldl1, held_foldl2, forUpTo_held, State.setQueue_held]

@[simp] theorem State.poisonBusy_held (s : State) (p : Nat) (psi : Nat) (tag : Nat) : (State.poisonBusy s p psi tag).held = s.held := by
  first
  | rfl
  | (simp [State.poisonBusy]; done)
  | (unfold State.poisonBusy; repeat' split
     all_goals first | rfl | (simp [*]; done))
  | (unfold State.poisonBusy; dsimp only; repeat' split
     all_goals first | rfl | (simp [*]; done) | (simp_all; done))

@[simp] theorem State.sramUe_held (s : State) (unit) (id) (word) (sel) : (State.sramUe s unit id word sel).held = s.held := by
  unfold State.sramUe
  dsimp only
  repeat' split
  all_goals simp

@[simp] theorem State.privReset_held (s : State) (r) : (State.privReset s r).held = s.held := by
  unfold State.privReset
  repeat' split
  all_goals first | rfl | (simp only [↓held_mk, ↓held_eta, held_eta, held_ite, held_ite2, ite_self, held_foldl, held_foldl1, held_foldl2, forUpTo_held, State.coreReset_held, State.mgmtReset_held]; done) | (simp_all only [↓held_mk, ↓held_eta, held_eta, held_ite, held_ite2, ite_self, held_foldl, held_foldl1, held_foldl2, forUpTo_held, State.coreReset_held, State.mgmtReset_held]; done)

@[simp] theorem State.privLimit_held (s : State) (b) (a) (r) (bit) : (State.privLimit s b a r bit).held = s.held := by
  simp only [State.privLimit, ↓held_mk, ↓held_eta, held_eta, held_ite, held_ite2, ite_self, held_foldl, held_foldl1, held_foldl2, forUpTo_held, State.privReset_held, State.setArb_held, State.logD_held]

@[simp] theorem State.privHold_held (s : State) (a) (num) (held) : (State.privHold s a num held).held = s.held := by
  unfold State.privHold
  extract_lets
  repeat' split
  all_goals first | rfl | (simp only [↓held_mk, ↓held_eta, held_eta, held_ite, held_ite2, ite_self, held_foldl, held_foldl1, held_foldl2, forUpTo_held, State.setArb_held]; done) | (simp_all only [↓held_mk, ↓held_eta, held_eta, held_ite, held_ite2, ite_self, held_foldl, held_foldl1, held_foldl2, forUpTo_held, State.setArb_held]; done)

@[simp] theorem State.readEnds_held (s : State) (p) (k) (m) (r) (mine) (line) (psn) (st) : (State.readEnds s p k m r mine line psn st).held = s.held := by
  unfold State.readEnds
  dsimp only
  repeat' split
  all_goals simp

@[simp] theorem State.stagedVictim_held (s : State) (p) (k) (t) (w) (err) : (State.stagedVictim s p k t w err).held = s.held := by
  simp only [State.stagedVictim, ↓held_mk, ↓held_eta, held_eta, held_ite, held_ite2, ite_self, held_foldl, held_foldl1, held_foldl2, forUpTo_held, State.demandWbFor_held, State.stackUe_held, State.progress_held, State.updTrk_held, State.readBlock_held]

@[simp] theorem State.stagedLine_held (s : State) (p) (k) (t) (w) (err) : (State.stagedLine s p k t w err).held = s.held := by
  simp only [State.stagedLine, ↓held_mk, ↓held_eta, held_eta, held_ite, held_ite2, ite_self, held_foldl, held_foldl1, held_foldl2, forUpTo_held, State.demandWbFor_held, State.stackUe_held, State.invAll_held, State.progress_held, State.updTrk_held, State.readBlock_held]

@[simp] theorem State.stagedMd_held (s : State) (p k psi err) : (s.stagedMd p k psi err).held = s.held := by
  unfold State.stagedMd
  dsimp only
  generalize hs : State.updTrk _ p k _ = s1
  have h1 : s1.held = s.held := by rw [← hs, State.updTrk_held, State.readBlock_held]
  clear hs
  split
  · rw [held_foldl _ _ _ (fun t i => by split <;> simp only [↓held_mk, ↓held_eta, held_eta, held_ite, held_ite2, ite_self, held_foldl, held_foldl1, held_foldl2, forUpTo_held, State.apply_held, State.mdChange_held, State.demandWb_held, State.updPan_held, State.fixCorrupt_held, State.lostEnd_held, State.loseSet_held, State.setPan_held, State.updTrk_held, State.readBlock_held]), State.loseSet_held]
    split <;> simp only [h1, ↓held_mk, ↓held_eta, held_eta, held_ite, held_ite2, ite_self, held_foldl, held_foldl1, held_foldl2, forUpTo_held, State.apply_held, State.mdChange_held, State.demandWb_held, State.updPan_held, State.fixCorrupt_held, State.lostEnd_held, State.loseSet_held, State.setPan_held, State.updTrk_held, State.readBlock_held]
  · split
    · exact h1
    · rw [held_foldl _ _ _ (fun t i => by simp only [↓held_mk, ↓held_eta, held_eta, held_ite, held_ite2, ite_self, held_foldl, held_foldl1, held_foldl2, forUpTo_held, State.apply_held, State.mdChange_held, State.demandWb_held, State.updPan_held, State.fixCorrupt_held, State.lostEnd_held, State.loseSet_held, State.setPan_held, State.updTrk_held, State.readBlock_held]), State.demandWb_held]
      split <;> simp only [h1, ↓held_mk, ↓held_eta, held_eta, held_ite, held_ite2, ite_self, held_foldl, held_foldl1, held_foldl2, forUpTo_held, State.apply_held, State.mdChange_held, State.demandWb_held, State.updPan_held, State.fixCorrupt_held, State.lostEnd_held, State.loseSet_held, State.setPan_held, State.updTrk_held, State.readBlock_held]

@[simp] theorem State.staged_held (s : State) (p t err) : (s.staged p t err).held = s.held := by
  unfold State.staged
  split <;> simp only [↓held_mk, ↓held_eta, held_eta, held_ite, held_ite2, ite_self, held_foldl, held_foldl1, held_foldl2, forUpTo_held, State.stagedVictim_held, State.stagedLine_held, State.stagedMd_held]

@[simp] theorem State.fillCycles_held (s : State) (n : Nat → Nat) : (State.fillCycles s n).held = s.held := by
  first
  | rfl
  | (simp [State.fillCycles]; done)
  | (unfold State.fillCycles; repeat' split
     all_goals first | rfl | (simp [*]; done))
  | (unfold State.fillCycles; dsimp only; repeat' split
     all_goals first | rfl | (simp [*]; done) | (simp_all; done))

@[simp] theorem State.clocks_held (s : State) : (State.clocks s).held = s.held := by
  unfold State.clocks
  repeat' split
  all_goals first | rfl | (simp only [↓held_mk, ↓held_eta, held_eta, held_ite, held_ite2, ite_self, held_foldl, held_foldl1, held_foldl2, forUpTo_held, State.updBed_held]; done) | (simp_all only [↓held_mk, ↓held_eta, held_eta, held_ite, held_ite2, ite_self, held_foldl, held_foldl1, held_foldl2, forUpTo_held, State.updBed_held]; done)

@[simp] theorem State.cycle_held (s : State) : (State.cycle s).held = s.held := by
  first
  | rfl
  | (simp [State.cycle]; done)
  | (unfold State.cycle; repeat' split
     all_goals first | rfl | (simp [*]; done))
  | (unfold State.cycle; dsimp only; repeat' split
     all_goals first | rfl | (simp [*]; done) | (simp_all; done))

@[simp] theorem State.txAll_held (s : State) : (State.txAll s).held = s.held := by
  simp [State.txAll]

@[simp] theorem State.railFree_held (s : State) : (State.railFree s).held = s.held := by
  first
  | rfl
  | (simp [State.railFree]; done)
  | (unfold State.railFree; repeat' split
     all_goals first | rfl | (simp [*]; done))
  | (unfold State.railFree; dsimp only; repeat' split
     all_goals first | rfl | (simp [*]; done) | (simp_all; done))

@[simp] theorem State.wiped_held (s : State) (m : Mode) : (State.wiped s m).held = s.held := by
  first
  | rfl
  | (simp [State.wiped]; done)
  | (unfold State.wiped; repeat' split
     all_goals first | rfl | (simp [*]; done))
  | (unfold State.wiped; dsimp only; repeat' split
     all_goals first | rfl | (simp [*]; done) | (simp_all; done))

@[simp] theorem State.devReset_held (s : State) : (State.devReset s).held = s.held := by
  first
  | (simp [State.devReset]; done)
  | (unfold State.devReset; repeat' split
     all_goals first | (simp [*]; done) | rfl)
  | (unfold State.devReset; dsimp only; repeat' split
     all_goals first | (simp [*]; done) | (simp_all; done) | rfl)

@[simp] theorem State.drainStep_held (s : State) : (State.drainStep s).held = s.held := by
  simp [State.drainStep]

@[simp] theorem State.stampRows_held (s : State) (b : Nat) : (State.stampRows s b).held = s.held := by
  first
  | (simp [State.stampRows]; done)
  | (unfold State.stampRows; repeat' split
     all_goals first | (simp [*]; done) | rfl)
  | (unfold State.stampRows; dsimp only; repeat' split
     all_goals first | (simp [*]; done) | (simp_all; done) | rfl)

@[simp] theorem State.timePasses_held (s : State) : (State.timePasses s).held = s.held := by
  first
  | (simp [State.timePasses]; done)
  | (unfold State.timePasses; repeat' split
     all_goals first | (simp [*]; done) | rfl)
  | (unfold State.timePasses; dsimp only; repeat' split
     all_goals first | (simp [*]; done) | (simp_all; done) | rfl)

@[simp] theorem State.dumpNext_held (s : State) : (State.dumpNext s).held = s.held := by
  first
  | rfl
  | (simp [State.dumpNext]; done)
  | (unfold State.dumpNext; repeat' split
     all_goals first | rfl | (simp [*]; done))
  | (unfold State.dumpNext; dsimp only; repeat' split
     all_goals first | rfl | (simp [*]; done) | (simp_all; done))

@[simp] theorem State.background_held (s : State) : (State.background s).held = s.held := by
  unfold State.background
  dsimp only
  repeat' split
  all_goals simp

@[simp] theorem State.idle_held (s : State) : (State.idle s).held = s.held := by
  simp only [State.idle, ↓held_mk, ↓held_eta, held_eta, held_ite, held_ite2, ite_self, held_foldl, held_foldl1, held_foldl2, forUpTo_held, State.cycle_held, State.background_held]

@[simp] theorem State.firstFrame_held (s : State) (time : Nat) : (State.firstFrame s time).held = s.held := by
  first
  | rfl
  | (simp [State.firstFrame]; done)
  | (unfold State.firstFrame; repeat' split
     all_goals first | rfl | (simp [*]; done))
  | (unfold State.firstFrame; dsimp only; repeat' split
     all_goals first | rfl | (simp [*]; done) | (simp_all; done))

@[simp] theorem State.goodFrame_held (s : State) (time : Nat) (fseq : Nat) : (State.goodFrame s time fseq).held = s.held := by
  first
  | rfl
  | (simp [State.goodFrame]; done)
  | (unfold State.goodFrame; repeat' split
     all_goals first | rfl | (simp [*]; done))
  | (unfold State.goodFrame; dsimp only; repeat' split
     all_goals first | rfl | (simp [*]; done) | (simp_all; done))

@[simp] theorem State.frameGot_held (s : State) (l : List (Bool × Bool)) : (State.frameGot s l).held = s.held := by
  first
  | rfl
  | (simp [State.frameGot]; done)
  | (unfold State.frameGot; repeat' split
     all_goals first | rfl | (simp [*]; done))
  | (unfold State.frameGot; dsimp only; repeat' split
     all_goals first | rfl | (simp [*]; done) | (simp_all; done))

@[simp] theorem State.byHost_held (s : State) (o : Nat) (f : State → State) (hf : ∀ t, (f t).held = t.held) : (State.byHost s o f).held = s.held := by
  first
  | rfl
  | (simp [State.byHost, hf]; done)
  | (unfold State.byHost; repeat' split
     all_goals first | rfl | (simp [*]; done))
  | (unfold State.byHost; dsimp only; repeat' split
     all_goals first | rfl | (simp [*]; done) | (simp_all; done))

@[simp] theorem State.dumpLine_held (s : State) (d : Dump) (i : Nat) : (State.dumpLine s d i).held = s.held := by
  first
  | rfl
  | (simp [State.dumpLine]; done)
  | (unfold State.dumpLine; repeat' split
     all_goals first | rfl | (simp [*]; done))
  | (unfold State.dumpLine; dsimp only; repeat' split
     all_goals first | rfl | (simp [*]; done) | (simp_all; done))

@[simp] theorem State.dumpLines_held (s : State) (d : Dump) (n : Nat) : (State.dumpLines s d n).held = s.held := by
  first
  | rfl
  | (simp [State.dumpLines]; done)
  | (unfold State.dumpLines; repeat' split
     all_goals first | rfl | (simp [*]; done))
  | (unfold State.dumpLines; dsimp only; repeat' split
     all_goals first | rfl | (simp [*]; done) | (simp_all; done))

@[simp] theorem State.dumpFails_held (s : State) (d : Dump) (m : Nat) : (State.dumpFails s d m).held = s.held := by
  first
  | rfl
  | (simp [State.dumpFails]; done)
  | (unfold State.dumpFails; repeat' split
     all_goals first | rfl | (simp [*]; done))
  | (unfold State.dumpFails; dsimp only; repeat' split
     all_goals first | rfl | (simp [*]; done) | (simp_all; done))

@[simp] theorem State.s2mOther_held (s : State) (p : Nat) (line : Option (Nat × Nat)) : (State.s2mOther s p line).held = s.held := by
  first
  | rfl
  | (simp [State.s2mOther]; done)
  | (unfold State.s2mOther; repeat' split
     all_goals first | rfl | (simp [*]; done))
  | (unfold State.s2mOther; dsimp only; repeat' split
     all_goals first | rfl | (simp [*]; done) | (simp_all; done))

@[simp] theorem State.resetEnds_held (s : State) (l : LinkRef) : (State.resetEnds s l).held = s.held := by
  first
  | rfl
  | (simp [State.resetEnds]; done)
  | (unfold State.resetEnds; repeat' split
     all_goals first | rfl | (simp [*]; done))
  | (unfold State.resetEnds; dsimp only; repeat' split
     all_goals first | rfl | (simp [*]; done) | (simp_all; done))

@[simp] theorem State.edgeNoTime_held (s : State) : (State.edgeNoTime s).held = s.held := by
  first
  | rfl
  | (simp [State.edgeNoTime]; done)
  | (unfold State.edgeNoTime; repeat' split
     all_goals first | rfl | (simp [*]; done))
  | (unfold State.edgeNoTime; dsimp only; repeat' split
     all_goals first | rfl | (simp [*]; done) | (simp_all; done))

@[simp] theorem State.missLocked_held (s : State) : (State.missLocked s).held = s.held := by
  first
  | rfl
  | (simp [State.missLocked]; done)
  | (unfold State.missLocked; repeat' split
     all_goals first | rfl | (simp [*]; done))
  | (unfold State.missLocked; dsimp only; repeat' split
     all_goals first | rfl | (simp [*]; done) | (simp_all; done))

@[simp] theorem State.cmdsGo_held (s : State) : (State.cmdsGo s).held = s.held := by
  first
  | rfl
  | (simp [State.cmdsGo]; done)
  | (unfold State.cmdsGo; repeat' split
     all_goals first | rfl | (simp [*]; done))
  | (unfold State.cmdsGo; dsimp only; repeat' split
     all_goals first | rfl | (simp [*]; done) | (simp_all; done))

@[simp] theorem State.powerLow_held (s : State) : (State.powerLow s).held = s.held := by
  first
  | rfl
  | (simp [State.powerLow]; done)
  | (unfold State.powerLow; repeat' split
     all_goals first | rfl | (simp [*]; done))
  | (unfold State.powerLow; dsimp only; repeat' split
     all_goals first | rfl | (simp [*]; done) | (simp_all; done))

@[simp] theorem State.powerGood_held (s : State) : (State.powerGood s).held = s.held := by
  first
  | rfl
  | (simp [State.powerGood]; done)
  | (unfold State.powerGood; repeat' split
     all_goals first | rfl | (simp [*]; done))
  | (unfold State.powerGood; dsimp only; repeat' split
     all_goals first | rfl | (simp [*]; done) | (simp_all; done))

@[simp] theorem State.inDevReset_held (s : State) (left : Mode) : (State.inDevReset s left).held = s.held := by
  first
  | rfl
  | (simp [State.inDevReset]; done)
  | (unfold State.inDevReset; repeat' split
     all_goals first | rfl | (simp [*]; done))
  | (unfold State.inDevReset; dsimp only; repeat' split
     all_goals first | rfl | (simp [*]; done) | (simp_all; done))

end Sys2Proof.Machine
end

