-- ==== Sys2Proof/Laws/HeldExec.lean ====
section
/-! SUPPORT. For every command but four, what its meaning leaves unchanged: the queue, the device ID and the head flag that the
straps gave, and that KEY_SET agrees with the keys written. For the four that sample the straps or start the machine again
(POWER_ON, POWER_OFF, RAMP_TO_BLANK, DEV_RESET_N_RELEASE): the queue and the keys. -/

set_option linter.unusedSimpArgs false
set_option linter.unusedVariables false

namespace Sys2Proof.Machine


theorem heldFst_foldl {α β : Type} (f : State × β → α → State × β) (h : ∀ a x, (f a x).1.held = a.1.held) :
    ∀ (xs : List α) (a : State × β), (xs.foldl f a).1.held = a.1.held
  | [], _ => rfl
  | x :: xs, a => (heldFst_foldl f h xs (f a x)).trans (h a x)
theorem heldSnd_foldl {α β : Type} (f : β × State → α → β × State) (h : ∀ a x, (f a x).2.held = a.2.held) :
    ∀ (xs : List α) (a : β × State), (xs.foldl f a).2.held = a.2.held
  | [], _ => rfl
  | x :: xs, a => (heldSnd_foldl f h xs (f a x)).trans (h a x)
theorem State.withErr_held (s : State) (e : ErrUnit) : ({ s with err := e } : State).held = s.held := Eq.trans rfl rfl
theorem State.withFreeIx_held (s : State) (n : Nat) : ({ s with freeIx := n } : State).held = s.held := Eq.trans rfl rfl
theorem State.withHv_held (s : State) (m : Harvest) : ({ s with hv := m } : State).held = s.held := Eq.trans rfl rfl

theorem pending_of_held {s t : State} (h : t.held = s.held) : t.pending = s.pending := congrArg Held.pending h
theorem keyOk_of_held {s t : State} (h : t.held = s.held) : t.keyOk = s.keyOk := congrArg Held.keyOk h
theorem sample_pending (s : State) (a b) : (s.sample a b).pending = s.pending := rfl
theorem sample_keyOk (s : State) (a b) : (s.sample a b).keyOk = s.keyOk := rfl

theorem execPowerOn_kept (s : State) : ∃ t, execPowerOn s = .next t ∧ t.pending = s.pending ∧ (s.keyOk = true → t.keyOk = true) := by
  unfold execPowerOn
  refine ⟨_, rfl, ?_⟩
  split
  · generalize hu : ({ State.reset with pending := s.pending, freeIx := s.freeIx, mode := _ } : State) = u
    have hp : u.pending = s.pending := by rw [← hu]
    have hk : u.keyOk = true := by rw [← hu]; rfl
    have ht := State.toRamp_held u .off
    exact ⟨(pending_of_held ht).trans hp, fun _ => (keyOk_of_held ht).trans hk⟩
  · exact ⟨rfl, id⟩

theorem execPowerOff_kept (s : State) : ∃ t, execPowerOff s = .next t ∧ t.pending = s.pending ∧ (s.keyOk = true → t.keyOk = true) :=
  ⟨_, rfl, rfl, fun _ => rfl⟩

theorem execRampToBlank_kept (a b) (s : State) :
    ∃ t, execRampToBlank a b s = .next t ∧ t.pending = s.pending ∧ (s.keyOk = true → t.keyOk = true) := by
  unfold execRampToBlank
  refine ⟨_, rfl, ?_⟩
  split
  · have h1 : s.powerGood.held = s.held := State.powerGood_held s
    generalize hv : s.powerGood.sample a b = v
    have hp : v.pending = s.pending := by rw [← hv, sample_pending]; exact pending_of_held h1
    have hk : v.keyOk = s.keyOk := by rw [← hv, sample_keyOk]; exact keyOk_of_held h1
    have ht : (v.toBlank .ramp).railFree.held = v.held := (State.railFree_held _).trans (State.toBlank_held v .ramp)
    exact ⟨(pending_of_held ht).trans hp, fun h => (keyOk_of_held ht).trans (hk.trans h)⟩
  · exact ⟨rfl, id⟩

theorem execPwrGoodLow_held (s : State) : ∃ t, execPwrGoodLow s = .next t ∧ t.held = s.held := by
  unfold execPwrGoodLow
  refine ⟨_, rfl, ?_⟩
  split
  · rfl
  · split
    · exact State.powerLow_held _
    · rw [State.railFree_held, State.powerLow_held, State.toRamp_held, State.wiped_held]

theorem execDevResetNAssert_held (s : State) : ∃ t, execDevResetNAssert s = .next t ∧ t.held = s.held := by
  exact ⟨_, rfl, by simp ⟩

theorem execDevResetNRelease_kept (a b) (s : State) :
    ∃ t, execDevResetNRelease a b s = .next t ∧ t.pending = s.pending ∧ (s.keyOk = true → t.keyOk = true) := by
  unfold execDevResetNRelease
  refine ⟨_, rfl, ?_⟩
  split
  · exact ⟨rfl, id⟩
  · dsimp only
    generalize hv : State.sample _ a b = v
    have hp : v.pending = s.pending := by rw [← hv, sample_pending]
    have hk : v.keyOk = s.keyOk := by rw [← hv, sample_keyOk]; rfl
    split
    · exact ⟨hp, fun h => hk.trans h⟩
    · have ht := State.toBlank_held v s.mode.left
      exact ⟨(pending_of_held ht).trans hp, fun h => (keyOk_of_held ht).trans (hk.trans h)⟩

theorem execHingeRequestReceived_held (a_port) (a_r) (s : State) : ∃ t, execHingeRequestReceived a_port a_r s = .next t ∧ t.held = s.held := by
  exact ⟨_, rfl, by simp ⟩

theorem execAgentResponseReceived_held (a_port) (a_m) (s : State) : ∃ t, execAgentResponseReceived a_port a_m s = .next t ∧ t.held = s.held := by
  exact ⟨_, rfl, by simp ⟩

theorem execFence_held (a_port) (a_src) (a_tag) (s : State) : ∃ t, execFence a_port a_src a_tag s = .next t ∧ t.held = s.held := by
  exact ⟨_, rfl, by simp ⟩

theorem execFenceDone_held (a_port) (a_src) (s : State) : ∃ t, execFenceDone a_port a_src s = .next t ∧ t.held = s.held := by
  unfold execFenceDone
  (try dsimp only)
  refine ⟨_, rfl, ?_⟩
  refine (State.pump_held _).trans ?_
  split
  · rfl
  · split
    · rfl
    · next h =>
      rw [State.updHinge_held, State.withErr_held, State.sendNow_held _ _ _ _ h, State.updHinge_held]

theorem execRdshared_held (a_p) (a_q) (s : State) : ∃ t, execRdshared a_p a_q s = .next t ∧ t.held = s.held := by
  exact ⟨_, rfl, by simp ⟩

theorem execRdown_held (a_p) (a_q) (s : State) : ∃ t, execRdown a_p a_q s = .next t ∧ t.held = s.held := by
  exact ⟨_, rfl, by simp ⟩

theorem execUpgrade_held (a_p) (a_q) (s : State) : ∃ t, execUpgrade a_p a_q s = .next t ∧ t.held = s.held := by
  exact ⟨_, rfl, by simp ⟩

theorem execRdcurrent_held (a_p) (a_q) (s : State) : ∃ t, execRdcurrent a_p a_q s = .next t ∧ t.held = s.held := by
  exact ⟨_, rfl, by simp ⟩

theorem execWrinvfull_held (a_p) (a_q) (s : State) : ∃ t, execWrinvfull a_p a_q s = .next t ∧ t.held = s.held := by
  exact ⟨_, rfl, by simp ⟩

theorem execWrinvpart_held (a_p) (a_q) (s : State) : ∃ t, execWrinvpart a_p a_q s = .next t ∧ t.held = s.held := by
  exact ⟨_, rfl, by simp ⟩

theorem execWrbackm_held (a_p) (a_q) (s : State) : ∃ t, execWrbackm a_p a_q s = .next t ∧ t.held = s.held := by
  exact ⟨_, rfl, by simp ⟩

theorem execAtomich_held (a_p) (a_q) (s : State) : ∃ t, execAtomich a_p a_q s = .next t ∧ t.held = s.held := by
  exact ⟨_, rfl, by simp ⟩

theorem execAtomicm_held (a_p) (a_q) (s : State) : ∃ t, execAtomicm a_p a_q s = .next t ∧ t.held = s.held := by
  exact ⟨_, rfl, by simp ⟩

theorem execWaitChainStart_held (a_p) (a_psi) (a_ltag) (s : State) : ∃ t, execWaitChainStart a_p a_psi a_ltag s = .next t ∧ t.held = s.held := by
  exact ⟨_, rfl, by simp ⟩

theorem execAllocRetry_held (a_p) (a_trk) (s : State) : ∃ t, execAllocRetry a_p a_trk s = .next t ∧ t.held = s.held := by
  unfold execAllocRetry
  refine ⟨_, rfl, (State.pump_held _).trans ?_⟩
  split <;> simp

theorem execMdcMissResume_held (a_p) (a_trk) (s : State) : ∃ t, execMdcMissResume a_p a_trk s = .next t ∧ t.held = s.held := by
  unfold execMdcMissResume
  refine ⟨_, rfl, (State.pump_held _).trans ?_⟩
  split <;> simp

theorem execFillResume_held (a_p) (a_trk) (s : State) : ∃ t, execFillResume a_p a_trk s = .next t ∧ t.held = s.held := by
  unfold execFillResume
  refine ⟨_, rfl, (State.pump_held _).trans ?_⟩
  split <;> simp

theorem execStackDataStaged_held (a_p) (a_trk) (a_err) (s : State) : ∃ t, execStackDataStaged a_p a_trk a_err s = .next t ∧ t.held = s.held := by
  unfold execStackDataStaged
  (try dsimp only)
  refine ⟨_, rfl, ?_⟩
  refine (State.pump_held _).trans ?_
  split
  · rfl
  · split
    · rfl
    · split
      · rfl
      · next h => exact (State.staged_held ..).trans (State.chanSlot_held _ _ _ _ h)

theorem execMdwqWrite_held (a_p) (a_ix) (s : State) : ∃ t, execMdwqWrite a_p a_ix s = .next t ∧ t.held = s.held := by
  unfold execMdwqWrite
  refine ⟨_, rfl, ?_⟩
  split
  · rfl
  · split
    · next t h =>
      have ht : t.held = s.held := by
        split at h
        · exact State.chanSlot_held _ _ _ _ h
        · cases h
      rw [State.stackUsed_held, State.updPan_held, ht]
    · rfl

theorem execWbSend_held (a_p) (s : State) : ∃ t, execWbSend a_p s = .next t ∧ t.held = s.held := by
  unfold execWbSend
  refine ⟨_, rfl, ?_⟩
  repeat' split
  all_goals simp

theorem execMemdata_held (a_p) (a_trk) (a_line) (a_psn) (a_st) (s : State) : ∃ t, execMemdata a_p a_trk a_line a_psn a_st s = .next t ∧ t.held = s.held := by
  unfold execMemdata
  (try dsimp only)
  refine ⟨_, rfl, ?_⟩
  refine (State.pump_held _).trans ?_
  split
  · exact State.s2mOther_held ..
  · split
    · rfl
    · split
      · exact State.deliver_held ..
      · split
        · rfl
        · split
          · exact State.memSays_held _ _ _ _ _ _ _ (fun t => State.readEnds_held ..)
          · exact State.memSays_held _ _ _ _ _ _ _ (fun t => State.readEnds_held ..)

theorem execCmp_held (a_p) (a_psi) (a_ltag) (a_st) (s : State) : ∃ t, execCmp a_p a_psi a_ltag a_st s = .next t ∧ t.held = s.held := by
  unfold execCmp
  (try dsimp only)
  refine ⟨_, rfl, ?_⟩
  refine (State.pump_held _).trans ?_
  split
  · exact State.s2mOther_held ..
  · split
    · rfl
    · split
      · rfl
      · split
        · exact State.wbDone_held ..
        · split
          · rfl
          · exact State.memSays_held _ _ _ _ _ _ _ (fun t => State.wbDone_held ..)

theorem execAtomicResult_held (a_p) (a_trk) (a_line) (a_st) (s : State) : ∃ t, execAtomicResult a_p a_trk a_line a_st s = .next t ∧ t.held = s.held := by
  unfold execAtomicResult
  (try dsimp only)
  refine ⟨_, rfl, ?_⟩
  refine (State.pump_held _).trans ?_
  split
  · exact State.s2mOther_held ..
  · split
    · rfl
    · split
      · rfl
      · split
        · split
          · rfl
          · exact State.memSays_held _ _ _ _ _ _ _ (fun u => by
              rw [State.wakeStage_held, State.atomDone_held]
              split <;> simp)
        · exact State.atomDone_held ..

theorem execAck_held (a_dst) (a_q) (s : State) : ∃ t, execAck a_dst a_q s = .next t ∧ t.held = s.held := by
  exact ⟨_, rfl, by simp ⟩

theorem execNotPresent_held (a_dst) (a_q) (s : State) : ∃ t, execNotPresent a_dst a_q s = .next t ∧ t.held = s.held := by
  exact ⟨_, rfl, by simp ⟩

theorem execAckdata_held (a_dst) (a_q) (s : State) : ∃ t, execAckdata a_dst a_q s = .next t ∧ t.held = s.held := by
  exact ⟨_, rfl, by simp ⟩

theorem execGrantSent_held (a_port) (a_dst) (a_tag) (s : State) : ∃ t, execGrantSent a_port a_dst a_tag s = .next t ∧ t.held = s.held := by
  unfold execGrantSent
  (try dsimp only)
  refine ⟨_, rfl, ?_⟩
  refine (State.pump_held _).trans ?_
  split
  · rfl
  · split
    · rfl
    · next h =>
      split
      · rw [State.notice_held, State.sendNow_held _ _ _ _ h]
      · exact State.sendNow_held _ _ _ _ h

theorem execDmark_held (a_p) (a_agent) (a_tag) (a_lost) (s : State) : ∃ t, execDmark a_p a_agent a_tag a_lost s = .next t ∧ t.held = s.held := by
  unfold execDmark
  (try dsimp only)
  refine ⟨_, rfl, ?_⟩
  refine (State.pump_held _).trans ?_
  split
  · rfl
  · next h =>
    have h1 := State.takePanNote_held _ _ _ _ h
    split
    · exact h1
    · split
      · exact (State.count_held ..).trans h1
      · simp only [h1, ↓held_mk, ↓held_eta, held_eta, held_ite, held_ite2, ite_self, held_foldl, held_foldl1, held_foldl2, forUpTo_held, State.count_held, State.openHold_held, State.progress_held, State.pump_held, State.updTrk_held, State.wrKey_held]

theorem execHoldWindowEnd_held (a_p) (a_psi) (a_ltag) (s : State) : ∃ t, execHoldWindowEnd a_p a_psi a_ltag s = .next t ∧ t.held = s.held := by
  unfold execHoldWindowEnd
  refine ⟨_, rfl, (State.pump_held _).trans ?_⟩
  split
  · rfl
  · exact held_foldl _ _ _ (fun t h => by rw [State.releaseHeld_held, State.updPan_held])

theorem execWdone_held (a_agent) (a_tag) (s : State) : ∃ t, execWdone a_agent a_tag s = .next t ∧ t.held = s.held := by
  exact ⟨_, rfl, by simp ⟩

theorem execSnoopTimeout_held (a_dst) (a_ix) (a_tgt) (s : State) : ∃ t, execSnoopTimeout a_dst a_ix a_tgt s = .next t ∧ t.held = s.held := by
  unfold execSnoopTimeout
  refine ⟨_, rfl, (State.pump_held _).trans ?_⟩
  repeat' split
  all_goals simp

theorem execTmo_held (a_agent) (s : State) : ∃ t, execTmo a_agent s = .next t ∧ t.held = s.held := by
  unfold execTmo
  refine ⟨_, rfl, (State.pump_held _).trans ?_⟩
  simp only [held_ite, State.declareDead_held, State.setRf_held, State.takeNote_held, ite_self]

theorem execGone_held (a_p) (a_agent) (s : State) : ∃ t, execGone a_p a_agent s = .next t ∧ t.held = s.held := by
  unfold execGone
  (try dsimp only)
  refine ⟨_, rfl, ?_⟩
  refine (State.pump_held _).trans ?_
  split
  · next h => rw [State.goneAt_held, State.takePanNote_held _ _ _ _ h]
  · rfl

theorem execCleaned_held (a_dev) (a_agent) (s : State) : ∃ t, execCleaned a_dev a_agent s = .next t ∧ t.held = s.held := by
  exact ⟨_, rfl, by simp ⟩

theorem execUngone_held (a_p) (a_agent) (s : State) : ∃ t, execUngone a_p a_agent s = .next t ∧ t.held = s.held := by
  unfold execUngone
  (try dsimp only)
  refine ⟨_, rfl, ?_⟩
  refine (State.pump_held _).trans ?_
  split
  · next h => rw [State.updPan_held, State.takePanNote_held _ _ _ _ h]
  · rfl

theorem execCleanupTmo_held (a_agent) (a_dev) (s : State) : ∃ t, execCleanupTmo a_agent a_dev s = .next t ∧ t.held = s.held := by
  unfold execCleanupTmo
  refine ⟨_, rfl, (State.pump_held _).trans ?_⟩
  split
  · rw [State.reported_held, State.hingeRec_held]
  · rfl

theorem execPfault_held (a_sdev) (a_agent) (a_cause) (a_time) (a_unit) (a_addr) (s : State) : ∃ t, execPfault a_sdev a_agent a_cause a_time a_unit a_addr s = .next t ∧ t.held = s.held := by
  exact ⟨_, rfl, by simp ⟩

theorem execLogFull_held (s : State) : ∃ t, execLogFull s = .next t ∧ t.held = s.held := by
  exact ⟨_, rfl, by simp ⟩

theorem execCombIdleWriteback_held (a_p) (a_psi) (a_ltag) (s : State) : ∃ t, execCombIdleWriteback a_p a_psi a_ltag s = .next t ∧ t.held = s.held := by
  unfold execCombIdleWriteback
  refine ⟨_, rfl, ?_⟩
  split <;> simp

theorem execPanAtomCtl_held (a_p) (a_v) (s : State) : ∃ t, execPanAtomCtl a_p a_v s = .next t ∧ t.held = s.held := by
  exact ⟨_, rfl, by simp ⟩

theorem execAncientBitSet_held (s : State) : ∃ t, execAncientBitSet s = .next t ∧ t.held = s.held := by
  exact ⟨_, rfl, by simp ⟩

theorem execArbGrace_held (a_b) (a_n) (a_port) (a_queue) (a_cells) (s : State) : ∃ t, execArbGrace a_b a_n a_port a_queue a_cells s = .next t ∧ t.held = s.held := by
  unfold execArbGrace
  refine ⟨_, rfl, ?_⟩
  split
  · rfl
  · split <;> simp

theorem execArbCutoff_held (a_b) (a_n) (a_port) (s : State) : ∃ t, execArbCutoff a_b a_n a_port s = .next t ∧ t.held = s.held := by
  exact ⟨_, rfl, by simp ⟩

theorem execArbPrivLimit_held (a_b) (a_n) (a_r) (s : State) : ∃ t, execArbPrivLimit a_b a_n a_r s = .next t ∧ t.held = s.held := by
  unfold execArbPrivLimit
  refine ⟨_, rfl, (State.pump_held _).trans ?_⟩
  split <;> simp

theorem execArbCommitNow_held (a_b) (s : State) : ∃ t, execArbCommitNow a_b s = .next t ∧ t.held = s.held := by
  exact ⟨_, rfl, by simp ⟩

theorem execArbCommitTimed_held (a_b) (s : State) : ∃ t, execArbCommitTimed a_b s = .next t ∧ t.held = s.held := by
  exact ⟨_, rfl, by simp ⟩

theorem execArbCommitInstant_held (a_b) (s : State) : ∃ t, execArbCommitInstant a_b s = .next t ∧ t.held = s.held := by
  unfold execArbCommitInstant
  refine ⟨_, rfl, ?_⟩
  split
  · split
    · exact State.arbCommit_held _ _
    · rfl
  · rfl

theorem execBucketLeak_held (a_b) (s : State) : ∃ t, execBucketLeak a_b s = .next t ∧ t.held = s.held := by
  unfold execBucketLeak
  refine ⟨_, rfl, ?_⟩
  split
  · exact State.leak_held _ _
  · rfl

theorem execBedErase_held (a_b) (a_v) (s : State) : ∃ t, execBedErase a_b a_v s = .next t ∧ t.held = s.held := by
  exact ⟨_, rfl, by simp ⟩

theorem execRefresh_held (a_b) (a_ch) (s : State) : ∃ t, execRefresh a_b a_ch s = .next t ∧ t.held = s.held := by
  exact ⟨_, rfl, by simp ⟩

theorem execRakeRowVisit_held (a_b) (a_ch) (a_errs) (a_written) (s : State) : ∃ t, execRakeRowVisit a_b a_ch a_errs a_written s = .next t ∧ t.held = s.held := by
  unfold execRakeRowVisit
  (try dsimp only)
  refine ⟨_, rfl, ?_⟩
  refine (State.pump_held _).trans ?_
  split
  · next t h =>
    have ht : t.held = s.held := by
      split at h
      · exact State.chanSlot_held _ _ _ _ h
      · cases h
    simp only [ht, ↓held_mk, ↓held_eta, held_eta, held_ite, held_ite2, ite_self, held_foldl, held_foldl1, held_foldl2, forUpTo_held, State.pump_held, State.rakePassEnd_held, State.rakeRow_held, State.wrKey_held]
  · rfl

theorem execRakeStartNow_held (a_b) (s : State) : ∃ t, execRakeStartNow a_b s = .next t ∧ t.held = s.held := by
  exact ⟨_, rfl, by simp ⟩

theorem execRakeStartTimed_held (a_b) (s : State) : ∃ t, execRakeStartTimed a_b s = .next t ∧ t.held = s.held := by
  exact ⟨_, rfl, by simp ⟩

theorem execRakeStartInstant_held (a_b) (s : State) : ∃ t, execRakeStartInstant a_b s = .next t ∧ t.held = s.held := by
  unfold execRakeStartInstant
  refine ⟨_, rfl, ?_⟩
  split <;> simp

theorem execWriteEnc_held (a_b) (a_v) (s : State) : ∃ t, execWriteEnc a_b a_v s = .next t ∧ t.held = s.held := by
  exact ⟨_, rfl, by simp ⟩

theorem execWriteData_held (a_b) (a_v) (s : State) : ∃ t, execWriteData a_b a_v s = .next t ∧ t.held = s.held := by
  exact ⟨_, rfl, by simp ⟩

theorem execWriteCheck_held (a_b) (a_v) (s : State) : ∃ t, execWriteCheck a_b a_v s = .next t ∧ t.held = s.held := by
  exact ⟨_, rfl, by simp ⟩

theorem execWriteRaw_held (a_b) (a_v) (s : State) : ∃ t, execWriteRaw a_b a_v s = .next t ∧ t.held = s.held := by
  exact ⟨_, rfl, by simp ⟩

theorem execRead_held (a_b) (a_v) (s : State) : ∃ t, execRead a_b a_v s = .next t ∧ t.held = s.held := by
  exact ⟨_, rfl, by simp ⟩

theorem execChkOpDone_held (a_b) (s : State) : ∃ t, execChkOpDone a_b s = .next t ∧ t.held = s.held := by
  exact ⟨_, rfl, by simp ⟩

theorem execSramSweep_held (a_unit) (a_id) (a_word) (a_dbl) (a_sel) (s : State) : ∃ t, execSramSweep a_unit a_id a_word a_dbl a_sel s = .next t ∧ t.held = s.held := by
  exact ⟨_, rfl, by simp ⟩

theorem execLaneBlock_held (a_l) (a_blks) (a_skew) (s : State) : ∃ t, execLaneBlock a_l a_blks a_skew s = .next t ∧ t.held = s.held := by
  unfold execLaneBlock
  refine ⟨_, rfl, (State.pump_held _).trans ?_⟩
  split <;> simp

theorem execCodeword_held (a_l) (a_sync) (a_errs) (a_seqd) (s : State) : ∃ t, execCodeword a_l a_sync a_errs a_seqd s = .next t ∧ t.held = s.held := by
  have hf : ∀ (xs : List Nat) (w : Nat) (r : Bool), (xs.foldl (fun t j => t.count (linkUnit a_l) (0x100 + symLane a_l w r j)) s).held =
      s.held := fun xs w r => held_foldl _ _ _ (fun t j => State.count_held _ _ _ _)
  unfold execCodeword
  refine ⟨_, rfl, (State.pump_held _).trans ?_⟩
  split <;> simp only [held_ite, ite_self, State.updLk_held, State.setLk_held, State.retrain_held, State.askReplay_held,
    State.count_held, hf]

theorem execLinkStateTimeout_held (a_l) (s : State) : ∃ t, execLinkStateTimeout a_l s = .next t ∧ t.held = s.held := by
  exact ⟨_, rfl, by simp ⟩

theorem execConfigPauseEnd_held (a_l) (s : State) : ∃ t, execConfigPauseEnd a_l s = .next t ∧ t.held = s.held := by
  unfold execConfigPauseEnd
  refine ⟨_, rfl, (State.pump_held _).trans ?_⟩
  split <;> simp

theorem execClosedSignalDetect_held (a_l) (s : State) : ∃ t, execClosedSignalDetect a_l s = .next t ∧ t.held = s.held := by
  exact ⟨_, rfl, by simp ⟩

theorem execCfg_held (a_l) (a_flit) (s : State) : ∃ t, execCfg a_l a_flit s = .next t ∧ t.held = s.held := by
  unfold execCfg
  refine ⟨_, rfl, (State.pump_held _).trans ?_⟩
  repeat' split
  all_goals simp

theorem execCfgAck_held (a_l) (a_flit) (s : State) : ∃ t, execCfgAck a_l a_flit s = .next t ∧ t.held = s.held := by
  exact ⟨_, rfl, by simp ⟩

theorem execMsg_held (a_l) (a_flit) (a_pay) (s : State) : ∃ t, execMsg a_l a_flit a_pay s = .next t ∧ t.held = s.held := by
  unfold execMsg
  (try dsimp only)
  refine ⟨_, rfl, ?_⟩
  refine (State.pump_held _).trans ?_
  split
  · rfl
  · generalize hr' : s.sequence a_l a_flit a_pay = r
    have hr : r.2.held = s.held := by rw [← hr', State.sequence_held]
    clear hr'
    split
    · exact hr
    · split
      · split
        · exact (State.malformedFlit_held ..).trans hr
        · exact (State.hingeMsgs_held ..).trans hr
      · split
        · exact (State.malformedFlit_held ..).trans hr
        · exact (State.knMsgs_held ..).trans hr

theorem execIdle_held (a_l) (a_flit) (s : State) : ∃ t, execIdle a_l a_flit s = .next t ∧ t.held = s.held := by
  exact ⟨_, rfl, by simp ⟩

theorem execReplayReq_held (a_l) (a_flit) (s : State) : ∃ t, execReplayReq a_l a_flit s = .next t ∧ t.held = s.held := by
  exact ⟨_, rfl, by simp ⟩

theorem execReplayReqRepeat_held (a_l) (s : State) : ∃ t, execReplayReqRepeat a_l s = .next t ∧ t.held = s.held := by
  unfold execReplayReqRepeat
  refine ⟨_, rfl, (State.pump_held _).trans ?_⟩
  split <;> simp

theorem execUnusedCtl_held (a_l) (a_flit) (s : State) : ∃ t, execUnusedCtl a_l a_flit s = .next t ∧ t.held = s.held := by
  exact ⟨_, rfl, by simp ⟩

theorem execRetrainReturn_held (a_l) (s : State) : ∃ t, execRetrainReturn a_l s = .next t ∧ t.held = s.held := by
  exact ⟨_, rfl, by simp ⟩

theorem execRetrainLimit_held (a_l) (s : State) : ∃ t, execRetrainLimit a_l s = .next t ∧ t.held = s.held := by
  exact ⟨_, rfl, by simp ⟩

theorem execPortReset_held (a_l) (a_flit) (s : State) : ∃ t, execPortReset a_l a_flit s = .next t ∧ t.held = s.held := by
  exact ⟨_, rfl, by simp ⟩

theorem execPortResetDetect_held (a_l) (s : State) : ∃ t, execPortResetDetect a_l s = .next t ∧ t.held = s.held := by
  unfold execPortResetDetect
  refine ⟨_, rfl, (State.pump_held _).trans ?_⟩
  split <;> simp

theorem execLinkCtlReset_held (a_r) (s : State) : ∃ t, execLinkCtlReset a_r s = .next t ∧ t.held = s.held := by
  exact ⟨_, rfl, by simp ⟩

theorem execLinkCtlClose_held (a_r) (s : State) : ∃ t, execLinkCtlClose a_r s = .next t ∧ t.held = s.held := by
  exact ⟨_, rfl, by simp ⟩

theorem execLinkCtlOpen_held (a_r) (s : State) : ∃ t, execLinkCtlOpen a_r s = .next t ∧ t.held = s.held := by
  exact ⟨_, rfl, by simp ⟩

theorem execCloseReq_held (a_l) (a_flit) (s : State) : ∃ t, execCloseReq a_l a_flit s = .next t ∧ t.held = s.held := by
  unfold execCloseReq
  refine ⟨_, rfl, (State.pump_held _).trans ?_⟩
  split
  · rfl
  · split <;> simp

theorem execCloseReady_held (a_l) (a_flit) (s : State) : ∃ t, execCloseReady a_l a_flit s = .next t ∧ t.held = s.held := by
  unfold execCloseReady
  refine ⟨_, rfl, (State.pump_held _).trans ?_⟩
  split
  · rfl
  · split <;> simp

theorem execCloseDone_held (a_l) (a_flit) (s : State) : ∃ t, execCloseDone a_l a_flit s = .next t ∧ t.held = s.held := by
  unfold execCloseDone
  refine ⟨_, rfl, (State.pump_held _).trans ?_⟩
  split
  · rfl
  · split <;> simp

theorem execCloseTmo_held (a_r) (s : State) : ∃ t, execCloseTmo a_r s = .next t ∧ t.held = s.held := by
  unfold execCloseTmo
  refine ⟨_, rfl, (State.pump_held _).trans ?_⟩
  split
  · simp only [held_ite, ite_self, State.closeEnd_held, State.logD_held]
  · simp only [held_ite, ite_self, State.klClosed_held, State.logD_held]

theorem execElectricalIdleEntry_held (a_r) (s : State) : ∃ t, execElectricalIdleEntry a_r s = .next t ∧ t.held = s.held := by
  unfold execElectricalIdleEntry
  refine ⟨_, rfl, (State.pump_held _).trans ?_⟩
  split <;> simp

theorem execKnuckleMessage_held (a_l) (a_m) (s : State) : ∃ t, execKnuckleMessage a_l a_m s = .next t ∧ t.held = s.held := by
  exact ⟨_, rfl, by simp ⟩

theorem execGroupSnoop_held (a_sdev) (a_excl) (a_addr) (a_htag) (s : State) : ∃ t, execGroupSnoop a_sdev a_excl a_addr a_htag s = .next t ∧ t.held = s.held := by
  unfold execGroupSnoop
  refine ⟨_, rfl, (State.pump_held _).trans ?_⟩
  split <;> simp

theorem execGack_held (a_sdev) (a_htag) (s : State) : ∃ t, execGack a_sdev a_htag s = .next t ∧ t.held = s.held := by
  unfold execGack
  extract_lets p k mine settle
  have hs : ∀ (t : State) u v, (settle t u v).held = t.held := by
    intro t u v
    simp only [settle, State.progress_held, State.updTrk_held]
  clear_value settle
  refine ⟨_, rfl, (State.pump_held _).trans ?_⟩
  split
  · rfl
  · next h =>
    have h1 := State.takePanNote_held _ _ _ _ h
    split
    · exact h1
    · split
      · exact (State.strayGack_held ..).trans h1
      · split
        · exact (hs _ _ _).trans h1
        · split
          · exact (hs _ _ _).trans h1
          · exact (State.strayGack_held ..).trans h1

theorem execRouteCommitNow_held (s : State) : ∃ t, execRouteCommitNow s = .next t ∧ t.held = s.held := by
  exact ⟨_, rfl, by simp ⟩

theorem execRouteCommitTimed_held (s : State) : ∃ t, execRouteCommitTimed s = .next t ∧ t.held = s.held := by
  exact ⟨_, rfl, by simp ⟩

theorem execRouteCommitInstant_held (s : State) : ∃ t, execRouteCommitInstant s = .next t ∧ t.held = s.held := by
  unfold execRouteCommitInstant
  refine ⟨_, rfl, (State.pump_held _).trans ?_⟩
  split <;> simp

theorem execPreviousTableExpiry_held (s : State) : ∃ t, execPreviousTableExpiry s = .next t ∧ t.held = s.held := by
  unfold execPreviousTableExpiry
  refine ⟨_, rfl, ?_⟩
  split <;> simp

theorem execKnMarkTmo_held (a_p) (a_trk) (s : State) : ∃ t, execKnMarkTmo a_p a_trk s = .next t ∧ t.held = s.held := by
  unfold execKnMarkTmo
  refine ⟨_, rfl, (State.pump_held _).trans ?_⟩
  split
  · rfl
  · split
    · rw [State.progress_held, State.updTrk_held, State.logErr_held]
    · rfl

theorem execKnReqTmo_held (a_port) (a_src) (a_tag) (s : State) : ∃ t, execKnReqTmo a_port a_src a_tag s = .next t ∧ t.held = s.held := by
  unfold execKnReqTmo
  refine ⟨_, rfl, (State.pump_held _).trans ?_⟩
  split <;> simp

theorem execPostedRequestTmo_held (a_port) (a_src) (a_tag) (s : State) : ∃ t, execPostedRequestTmo a_port a_src a_tag s = .next t ∧ t.held = s.held := by
  unfold execPostedRequestTmo
  refine ⟨_, rfl, (State.pump_held _).trans ?_⟩
  split <;> simp

theorem execHostBar2Access_held (a_dev) (a_off) (a_wr) (a_w32) (a_v) (s : State) (h : s.held.keyOk = true) : ∃ t, execHostBar2Access a_dev a_off a_wr a_w32 a_v s = .next t ∧ t.held = s.held := by
  unfold execHostBar2Access
  refine ⟨_, rfl, (State.pump_held _).trans ?_⟩
  dsimp only
  split
  · rfl
  · split
    · exact State.bar0_held _ _ h
    · exact (State.fwdQueue_held _).trans (Eq.trans rfl rfl)

theorem execMrd_held (s : State) : ∃ t, execMrd s = .next t ∧ t.held = s.held := by
  refine ⟨_, rfl, (State.pump_held _).trans (State.takeMgmt_held _ _ _ (fun l m t => ?_))⟩
  dsimp only
  split
  · rw [State.reply_held, State.readReg_held, State.learnHead_held]
  · rw [State.reply_held, State.learnHead_held]

theorem execMwr_held (s : State) (h : s.held.keyOk = true) : ∃ t, execMwr s = .next t ∧ t.held = s.held := by
  unfold execMwr
  refine ⟨_, rfl, (State.pump_held _).trans ?_⟩
  unfold State.takeMgmt
  split
  · rfl
  · split
    · dsimp only
      generalize ht : State.learnHead _ _ = t1
      have h1 : t1.held = s.held := by rw [← ht, State.learnHead_held, held_mk, held_eta]
      clear ht
      split
      · rw [State.reply_held, State.hostWrite_held _ _ _ _ _ (by rw [h1]; exact h), h1]
      · rw [State.reply_held, h1]
    · rfl

theorem execMcpl_held (s : State) : ∃ t, execMcpl s = .next t ∧ t.held = s.held := by
  refine ⟨_, rfl, (State.pump_held _).trans (State.takeMgmt_held _ _ _ (fun l m t => ?_))⟩
  split
  · exact State.fwdDone_held _ _ _ _
  · rfl

theorem execMcplTimeout_held (a_mtag) (s : State) : ∃ t, execMcplTimeout a_mtag s = .next t ∧ t.held = s.held := by
  unfold execMcplTimeout
  refine ⟨_, rfl, (State.pump_held _).trans ?_⟩
  split <;> simp

theorem execMvec_held (s : State) : ∃ t, execMvec s = .next t ∧ t.held = s.held := by
  refine ⟨_, rfl, (State.pump_held _).trans (State.takeMgmt_held _ _ _ (fun l m t => ?_))⟩
  dsimp only
  split
  · rw [State.count_held, held_mk, held_eta]
  · rfl

theorem execUnusedMgmtOpcode_held (s : State) : ∃ t, execUnusedMgmtOpcode s = .next t ∧ t.held = s.held := by
  exact ⟨_, rfl, (State.pump_held _).trans (State.takeMgmt_held _ _ _ (fun l m t => State.count_held _ _ _ _))⟩

theorem execMpEnumeration_held (a_m) (a_half) (a_speed) (a_width) (a_dev) (s : State) : ∃ t, execMpEnumeration a_m a_half a_speed a_width a_dev s = .next t ∧ t.held = s.held := by
  unfold execMpEnumeration
  refine ⟨_, rfl, (State.pump_held _).trans ?_⟩
  dsimp only
  split
  · rfl
  · split
    · rw [State.mpUnquarantine_held, State.mpRec_held, State.setHalf_held]
    · generalize hs : (if a_speed = 1 then _ else s) = s1
      have h1 : s1.held = s.held := by
        rw [← hs]
        split
        · exact State.mpRec_held _ _ _ _ _ _
        · rfl
      clear hs
      split
      · rw [State.mpUnquarantine_held, State.setHalf_held, h1]
      · rw [State.mpRec_held, State.mpUnquarantine_held, State.setHalf_held, h1]

theorem execMpLinkDown_held (a_m) (a_half) (s : State) : ∃ t, execMpLinkDown a_m a_half s = .next t ∧ t.held = s.held := by
  unfold execMpLinkDown
  refine ⟨_, rfl, (State.pump_held _).trans ?_⟩
  split
  · rw [State.halfDown_held, State.mpRec_held, State.setHalf_held]
  · rfl

theorem execMpCompletionTimeout_held (a_m) (a_ix) (s : State) : ∃ t, execMpCompletionTimeout a_m a_ix s = .next t ∧ t.held = s.held := by
  unfold execMpCompletionTimeout
  refine ⟨_, rfl, (State.pump_held _).trans ?_⟩
  split <;> simp

theorem execMpLinkReset_held (a_m) (s : State) : ∃ t, execMpLinkReset a_m s = .next t ∧ t.held = s.held := by
  exact ⟨_, rfl, by simp ⟩

theorem execViralIndication_held (a_m) (a_half) (s : State) : ∃ t, execViralIndication a_m a_half s = .next t ∧ t.held = s.held := by
  exact ⟨_, rfl, by simp ⟩

theorem execMpEvent_held (a_m) (a_half) (a_recs) (s : State) : ∃ t, execMpEvent a_m a_half a_recs s = .next t ∧ t.held = s.held := by
  unfold execMpEvent
  refine ⟨_, rfl, (State.pump_held _).trans ?_⟩
  split
  · exact held_foldl _ _ _ (fun t e => State.mpEvent_held _ _ _ _)
  · rfl

theorem execMpIoAddr_held (a_m) (a_v) (s : State) : ∃ t, execMpIoAddr a_m a_v s = .next t ∧ t.held = s.held := by
  exact ⟨_, rfl, by simp ⟩

theorem execMpIoDone_held (a_m) (a_status) (a_data) (s : State) : ∃ t, execMpIoDone a_m a_status a_data s = .next t ∧ t.held = s.held := by
  exact ⟨_, rfl, by simp ⟩

theorem execAddR_held (a_e) (a_a) (s : State) : ∃ t, execAddR a_e a_a s = .next t ∧ t.held = s.held := by
  exact ⟨_, rfl, by simp ⟩

theorem execSubR_held (a_e) (a_a) (s : State) : ∃ t, execSubR a_e a_a s = .next t ∧ t.held = s.held := by
  exact ⟨_, rfl, by simp ⟩

theorem execAndR_held (a_e) (a_a) (s : State) : ∃ t, execAndR a_e a_a s = .next t ∧ t.held = s.held := by
  exact ⟨_, rfl, by simp ⟩

theorem execOrR_held (a_e) (a_a) (s : State) : ∃ t, execOrR a_e a_a s = .next t ∧ t.held = s.held := by
  exact ⟨_, rfl, by simp ⟩

theorem execXorR_held (a_e) (a_a) (s : State) : ∃ t, execXorR a_e a_a s = .next t ∧ t.held = s.held := by
  exact ⟨_, rfl, by simp ⟩

theorem execAndn_held (a_e) (a_a) (s : State) : ∃ t, execAndn a_e a_a s = .next t ∧ t.held = s.held := by
  exact ⟨_, rfl, by simp ⟩

theorem execSll_held (a_e) (a_a) (s : State) : ∃ t, execSll a_e a_a s = .next t ∧ t.held = s.held := by
  exact ⟨_, rfl, by simp ⟩

theorem execSrl_held (a_e) (a_a) (s : State) : ∃ t, execSrl a_e a_a s = .next t ∧ t.held = s.held := by
  exact ⟨_, rfl, by simp ⟩

theorem execSra_held (a_e) (a_a) (s : State) : ∃ t, execSra a_e a_a s = .next t ∧ t.held = s.held := by
  exact ⟨_, rfl, by simp ⟩

theorem execClt_held (a_e) (a_a) (s : State) : ∃ t, execClt a_e a_a s = .next t ∧ t.held = s.held := by
  exact ⟨_, rfl, by simp ⟩

theorem execCltu_held (a_e) (a_a) (s : State) : ∃ t, execCltu a_e a_a s = .next t ∧ t.held = s.held := by
  exact ⟨_, rfl, by simp ⟩

theorem execMin_held (a_e) (a_a) (s : State) : ∃ t, execMin a_e a_a s = .next t ∧ t.held = s.held := by
  exact ⟨_, rfl, by simp ⟩

theorem execMax_held (a_e) (a_a) (s : State) : ∃ t, execMax a_e a_a s = .next t ∧ t.held = s.held := by
  exact ⟨_, rfl, by simp ⟩

theorem execMinu_held (a_e) (a_a) (s : State) : ∃ t, execMinu a_e a_a s = .next t ∧ t.held = s.held := by
  exact ⟨_, rfl, by simp ⟩

theorem execMaxu_held (a_e) (a_a) (s : State) : ∃ t, execMaxu a_e a_a s = .next t ∧ t.held = s.held := by
  exact ⟨_, rfl, by simp ⟩

theorem execClz_held (a_e) (a_a) (s : State) : ∃ t, execClz a_e a_a s = .next t ∧ t.held = s.held :=
  ⟨_, rfl, State.runUn_held ..⟩

theorem execPopc_held (a_e) (a_a) (s : State) : ∃ t, execPopc a_e a_a s = .next t ∧ t.held = s.held :=
  ⟨_, rfl, State.runUn_held ..⟩

theorem execBswap_held (a_e) (a_a) (s : State) : ∃ t, execBswap a_e a_a s = .next t ∧ t.held = s.held :=
  ⟨_, rfl, State.runUn_held ..⟩

theorem execMul_held (a_e) (a_a) (s : State) : ∃ t, execMul a_e a_a s = .next t ∧ t.held = s.held := by
  exact ⟨_, rfl, by simp ⟩

theorem execMulh_held (a_e) (a_a) (s : State) : ∃ t, execMulh a_e a_a s = .next t ∧ t.held = s.held :=
  ⟨_, rfl, State.runBin_held ..⟩

theorem execMulhu_held (a_e) (a_a) (s : State) : ∃ t, execMulhu a_e a_a s = .next t ∧ t.held = s.held :=
  ⟨_, rfl, State.runBin_held ..⟩

theorem execDiv_held (a_e) (a_a) (s : State) : ∃ t, execDiv a_e a_a s = .next t ∧ t.held = s.held :=
  ⟨_, rfl, State.runBin_held ..⟩

theorem execDivu_held (a_e) (a_a) (s : State) : ∃ t, execDivu a_e a_a s = .next t ∧ t.held = s.held :=
  ⟨_, rfl, State.runBin_held ..⟩

theorem execRem_held (a_e) (a_a) (s : State) : ∃ t, execRem a_e a_a s = .next t ∧ t.held = s.held :=
  ⟨_, rfl, State.runBin_held ..⟩

theorem execRemu_held (a_e) (a_a) (s : State) : ∃ t, execRemu a_e a_a s = .next t ∧ t.held = s.held :=
  ⟨_, rfl, State.runBin_held ..⟩

theorem execAddi_held (a_e) (a_a) (s : State) : ∃ t, execAddi a_e a_a s = .next t ∧ t.held = s.held := by
  exact ⟨_, rfl, by simp ⟩

theorem execAndi_held (a_e) (a_a) (s : State) : ∃ t, execAndi a_e a_a s = .next t ∧ t.held = s.held := by
  exact ⟨_, rfl, by simp ⟩

theorem execOri_held (a_e) (a_a) (s : State) : ∃ t, execOri a_e a_a s = .next t ∧ t.held = s.held := by
  exact ⟨_, rfl, by simp ⟩

theorem execXori_held (a_e) (a_a) (s : State) : ∃ t, execXori a_e a_a s = .next t ∧ t.held = s.held := by
  exact ⟨_, rfl, by simp ⟩

theorem execClti_held (a_e) (a_a) (s : State) : ∃ t, execClti a_e a_a s = .next t ∧ t.held = s.held := by
  exact ⟨_, rfl, by simp ⟩

theorem execCltiu_held (a_e) (a_a) (s : State) : ∃ t, execCltiu a_e a_a s = .next t ∧ t.held = s.held := by
  exact ⟨_, rfl, by simp ⟩

theorem execAddhi_held (a_e) (a_a) (s : State) : ∃ t, execAddhi a_e a_a s = .next t ∧ t.held = s.held := by
  exact ⟨_, rfl, by simp ⟩

theorem execSlli_held (a_e) (a_a) (s : State) : ∃ t, execSlli a_e a_a s = .next t ∧ t.held = s.held := by
  exact ⟨_, rfl, by simp ⟩

theorem execSrli_held (a_e) (a_a) (s : State) : ∃ t, execSrli a_e a_a s = .next t ∧ t.held = s.held := by
  exact ⟨_, rfl, by simp ⟩

theorem execSrai_held (a_e) (a_a) (s : State) : ∃ t, execSrai a_e a_a s = .next t ∧ t.held = s.held := by
  exact ⟨_, rfl, by simp ⟩

theorem execLb_held (a_e) (a_a) (s : State) : ∃ t, execLb a_e a_a s = .next t ∧ t.held = s.held := by
  exact ⟨_, rfl, State.runLoad_held _ _ _ _ _ _⟩

theorem execLbu_held (a_e) (a_a) (s : State) : ∃ t, execLbu a_e a_a s = .next t ∧ t.held = s.held := by
  exact ⟨_, rfl, State.runLoad_held _ _ _ _ _ _⟩

theorem execLh_held (a_e) (a_a) (s : State) : ∃ t, execLh a_e a_a s = .next t ∧ t.held = s.held := by
  exact ⟨_, rfl, State.runLoad_held _ _ _ _ _ _⟩

theorem execLhu_held (a_e) (a_a) (s : State) : ∃ t, execLhu a_e a_a s = .next t ∧ t.held = s.held := by
  exact ⟨_, rfl, State.runLoad_held _ _ _ _ _ _⟩

theorem execLw_held (a_e) (a_a) (s : State) : ∃ t, execLw a_e a_a s = .next t ∧ t.held = s.held := by
  exact ⟨_, rfl, State.runLoad_held _ _ _ _ _ _⟩

theorem execLwu_held (a_e) (a_a) (s : State) : ∃ t, execLwu a_e a_a s = .next t ∧ t.held = s.held := by
  exact ⟨_, rfl, State.runLoad_held _ _ _ _ _ _⟩

theorem execLd_held (a_e) (a_a) (s : State) : ∃ t, execLd a_e a_a s = .next t ∧ t.held = s.held := by
  exact ⟨_, rfl, State.runLoad_held _ _ _ _ _ _⟩

theorem execSb_held (a_e) (a_a) (s : State) (h : s.held.keyOk = true) : ∃ t, execSb a_e a_a s = .next t ∧ t.held = s.held := by
  exact ⟨_, rfl, State.runStore_held _ _ _ _ _ h⟩

theorem execSh_held (a_e) (a_a) (s : State) (h : s.held.keyOk = true) : ∃ t, execSh a_e a_a s = .next t ∧ t.held = s.held := by
  exact ⟨_, rfl, State.runStore_held _ _ _ _ _ h⟩

theorem execSw_held (a_e) (a_a) (s : State) (h : s.held.keyOk = true) : ∃ t, execSw a_e a_a s = .next t ∧ t.held = s.held := by
  exact ⟨_, rfl, State.runStore_held _ _ _ _ _ h⟩

theorem execSd_held (a_e) (a_a) (s : State) (h : s.held.keyOk = true) : ∃ t, execSd a_e a_a s = .next t ∧ t.held = s.held := by
  exact ⟨_, rfl, State.runStore_held _ _ _ _ _ h⟩

theorem execAmoAdd_held (a_e) (a_a) (s : State) : ∃ t, execAmoAdd a_e a_a s = .next t ∧ t.held = s.held := by
  exact ⟨_, rfl, by simp ⟩

theorem execAmoAnd_held (a_e) (a_a) (s : State) : ∃ t, execAmoAnd a_e a_a s = .next t ∧ t.held = s.held := by
  exact ⟨_, rfl, by simp ⟩

theorem execAmoOr_held (a_e) (a_a) (s : State) : ∃ t, execAmoOr a_e a_a s = .next t ∧ t.held = s.held := by
  exact ⟨_, rfl, by simp ⟩

theorem execAmoXor_held (a_e) (a_a) (s : State) : ∃ t, execAmoXor a_e a_a s = .next t ∧ t.held = s.held := by
  exact ⟨_, rfl, by simp ⟩

theorem execAmoSmin_held (a_e) (a_a) (s : State) : ∃ t, execAmoSmin a_e a_a s = .next t ∧ t.held = s.held := by
  exact ⟨_, rfl, by simp ⟩

theorem execAmoSmax_held (a_e) (a_a) (s : State) : ∃ t, execAmoSmax a_e a_a s = .next t ∧ t.held = s.held := by
  exact ⟨_, rfl, by simp ⟩

theorem execAmoUmin_held (a_e) (a_a) (s : State) : ∃ t, execAmoUmin a_e a_a s = .next t ∧ t.held = s.held := by
  exact ⟨_, rfl, by simp ⟩

theorem execAmoUmax_held (a_e) (a_a) (s : State) : ∃ t, execAmoUmax a_e a_a s = .next t ∧ t.held = s.held := by
  exact ⟨_, rfl, by simp ⟩

theorem execAmoSwap_held (a_e) (a_a) (s : State) : ∃ t, execAmoSwap a_e a_a s = .next t ∧ t.held = s.held := by
  exact ⟨_, rfl, by simp ⟩

theorem execAmoCas_held (a_e) (a_a) (s : State) : ∃ t, execAmoCas a_e a_a s = .next t ∧ t.held = s.held := by
  exact ⟨_, rfl, by simp ⟩

theorem execBeq_held (a_e) (a_a) (s : State) : ∃ t, execBeq a_e a_a s = .next t ∧ t.held = s.held := by
  exact ⟨_, rfl, by simp ⟩

theorem execBne_held (a_e) (a_a) (s : State) : ∃ t, execBne a_e a_a s = .next t ∧ t.held = s.held := by
  exact ⟨_, rfl, by simp ⟩

theorem execBlt_held (a_e) (a_a) (s : State) : ∃ t, execBlt a_e a_a s = .next t ∧ t.held = s.held := by
  exact ⟨_, rfl, by simp ⟩

theorem execBge_held (a_e) (a_a) (s : State) : ∃ t, execBge a_e a_a s = .next t ∧ t.held = s.held := by
  exact ⟨_, rfl, by simp ⟩

theorem execBltu_held (a_e) (a_a) (s : State) : ∃ t, execBltu a_e a_a s = .next t ∧ t.held = s.held := by
  exact ⟨_, rfl, by simp ⟩

theorem execBgeu_held (a_e) (a_a) (s : State) : ∃ t, execBgeu a_e a_a s = .next t ∧ t.held = s.held := by
  exact ⟨_, rfl, by simp ⟩

theorem execBra_held (a_e) (a_off) (s : State) : ∃ t, execBra a_e a_off s = .next t ∧ t.held = s.held :=
  ⟨_, rfl, State.runJ_held ..⟩

theorem execCall_held (a_e) (a_off) (s : State) : ∃ t, execCall a_e a_off s = .next t ∧ t.held = s.held :=
  ⟨_, rfl, State.runJ_held ..⟩

theorem execJmp_held (a_e) (a_a) (s : State) : ∃ t, execJmp a_e a_a s = .next t ∧ t.held = s.held :=
  ⟨_, rfl, State.runJr_held ..⟩

theorem execCallr_held (a_e) (a_a) (s : State) : ∃ t, execCallr a_e a_a s = .next t ∧ t.held = s.held :=
  ⟨_, rfl, State.runJr_held ..⟩

theorem execLoop_held (a_e) (a_a) (s : State) : ∃ t, execLoop a_e a_a s = .next t ∧ t.held = s.held := by
  exact ⟨_, rfl, State.runLoop_held _ _ _ _ _ _⟩

theorem execLoopi_held (a_e) (a_a) (s : State) : ∃ t, execLoopi a_e a_a s = .next t ∧ t.held = s.held := by
  exact ⟨_, rfl, State.runLoop_held _ _ _ _ _ _⟩

theorem execCrc32c_held (a_e) (a_a) (s : State) : ∃ t, execCrc32c a_e a_a s = .next t ∧ t.held = s.held := by
  exact ⟨_, rfl, State.runG_held _ _ _ _ _⟩

theorem execBmov_held (a_e) (a_a) (s : State) : ∃ t, execBmov a_e a_a s = .next t ∧ t.held = s.held := by
  unfold execBmov
  refine ⟨_, rfl, State.runIns_held _ _ _ _ ?_⟩
  dsimp only
  split
  · rfl
  · split
    · rfl
    · split
      · exact State.drain_held _ _
      · exact (State.bmove_held _ _ _ _ _).trans (State.drain_held _ _)

theorem execFadd_held (a_e) (a_a) (s : State) : ∃ t, execFadd a_e a_a s = .next t ∧ t.held = s.held :=
  ⟨_, rfl, State.runF2_held ..⟩

theorem execFsub_held (a_e) (a_a) (s : State) : ∃ t, execFsub a_e a_a s = .next t ∧ t.held = s.held := by
  exact ⟨_, rfl, by simp ⟩

theorem execFmul_held (a_e) (a_a) (s : State) : ∃ t, execFmul a_e a_a s = .next t ∧ t.held = s.held :=
  ⟨_, rfl, State.runF2_held ..⟩

theorem execFdiv_held (a_e) (a_a) (s : State) : ∃ t, execFdiv a_e a_a s = .next t ∧ t.held = s.held :=
  ⟨_, rfl, State.runF2_held ..⟩

theorem execFsqrt_held (a_e) (a_a) (s : State) : ∃ t, execFsqrt a_e a_a s = .next t ∧ t.held = s.held := by
  exact ⟨_, rfl, by simp ⟩

theorem execFmin_held (a_e) (a_a) (s : State) : ∃ t, execFmin a_e a_a s = .next t ∧ t.held = s.held := by
  exact ⟨_, rfl, by simp ⟩

theorem execFmax_held (a_e) (a_a) (s : State) : ∃ t, execFmax a_e a_a s = .next t ∧ t.held = s.held := by
  exact ⟨_, rfl, by simp ⟩

theorem execFeq_held (a_e) (a_a) (s : State) : ∃ t, execFeq a_e a_a s = .next t ∧ t.held = s.held :=
  ⟨_, rfl, State.runFb_held ..⟩

theorem execFlt_held (a_e) (a_a) (s : State) : ∃ t, execFlt a_e a_a s = .next t ∧ t.held = s.held := by
  exact ⟨_, rfl, by simp ⟩

theorem execFle_held (a_e) (a_a) (s : State) : ∃ t, execFle a_e a_a s = .next t ∧ t.held = s.held := by
  exact ⟨_, rfl, by simp ⟩

theorem execFcvtI_held (a_e) (a_a) (s : State) : ∃ t, execFcvtI a_e a_a s = .next t ∧ t.held = s.held := by
  exact ⟨_, rfl, by simp ⟩

theorem execFcvtF_held (a_e) (a_a) (s : State) : ∃ t, execFcvtF a_e a_a s = .next t ∧ t.held = s.held := by
  exact ⟨_, rfl, by simp ⟩

theorem execFcvtP_held (a_e) (a_a) (s : State) : ∃ t, execFcvtP a_e a_a s = .next t ∧ t.held = s.held := by
  exact ⟨_, rfl, by simp ⟩

theorem execFneg_held (a_e) (a_a) (s : State) : ∃ t, execFneg a_e a_a s = .next t ∧ t.held = s.held := by
  exact ⟨_, rfl, by simp ⟩

theorem execFabs_held (a_e) (a_a) (s : State) : ∃ t, execFabs a_e a_a s = .next t ∧ t.held = s.held := by
  exact ⟨_, rfl, by simp ⟩

theorem execMfs_held (a_e) (a_a) (s : State) : ∃ t, execMfs a_e a_a s = .next t ∧ t.held = s.held := by
  unfold execMfs
  refine ⟨_, rfl, State.runIns_held _ _ _ _ ?_⟩
  dsimp only
  split
  · rfl
  · exact State.priv_keeps _ _ _ _ (State.setG_held _ _ _ _)

theorem execMts_held (a_e) (a_a) (s : State) : ∃ t, execMts a_e a_a s = .next t ∧ t.held = s.held := by
  unfold execMts
  refine ⟨_, rfl, State.runIns_held _ _ _ _ ?_⟩
  dsimp only
  split
  · rfl
  · exact State.priv_keeps _ _ _ _ (State.updEng_held _ _ _)

theorem execMode_held (a_e) (a_a) (s : State) : ∃ t, execMode a_e a_a s = .next t ∧ t.held = s.held := by
  unfold execMode
  refine ⟨_, rfl, State.runIns_held _ _ _ _ (State.priv_keeps _ _ _ _ ?_)⟩
  exact State.updEng_held _ _ _

theorem execResume_held (a_e) (a_a) (s : State) : ∃ t, execResume a_e a_a s = .next t ∧ t.held = s.held := by
  unfold execResume
  refine ⟨_, rfl, State.runIns_held _ _ _ _ (State.priv_keeps _ _ _ _ ?_)⟩
  dsimp only [Done.keeps]
  split
  · rw [State.updEng_held, State.free_held, State.updEng_held]
  · exact State.updEng_held _ _ _

theorem execTrap_held (a_e) (a_a) (s : State) : ∃ t, execTrap a_e a_a s = .next t ∧ t.held = s.held :=
  ⟨_, rfl, State.runTrap_held ..⟩

theorem execDebug_held (a_e) (a_a) (s : State) : ∃ t, execDebug a_e a_a s = .next t ∧ t.held = s.held :=
  ⟨_, rfl, State.runTrap_held ..⟩

theorem execIflush_held (a_e) (a_a) (s : State) : ∃ t, execIflush a_e a_a s = .next t ∧ t.held = s.held := by
  unfold execIflush
  refine ⟨_, rfl, State.runIns_held _ _ _ _ (State.priv_keeps _ _ _ _ ?_)⟩
  exact State.drainCode_held _ _

theorem execFenceInstruction_held (a_e) (a_rd) (a_rs) (s : State) : ∃ t, execFenceInstruction a_e a_rd a_rs s = .next t ∧ t.held = s.held := by
  exact ⟨_, rfl, State.runFence_held _ _ _ _ _ _ (fun t => State.drain_held t _)⟩

theorem execFenceDevice_held (a_e) (a_rd) (a_rs) (s : State) : ∃ t, execFenceDevice a_e a_rd a_rs s = .next t ∧ t.held = s.held := by
  exact ⟨_, rfl, State.runFence_held _ _ _ _ _ _ (fun t => State.drain_held t _)⟩

theorem execFenceCode_held (a_e) (a_rd) (a_rs) (s : State) : ∃ t, execFenceCode a_e a_rd a_rs s = .next t ∧ t.held = s.held := by
  exact ⟨_, rfl, State.runFence_held _ _ _ _ _ _ (fun _ => rfl)⟩

theorem execStep_held (a_e) (a_a) (s : State) : ∃ t, execStep a_e a_a s = .next t ∧ t.held = s.held := by
  unfold execStep
  refine ⟨_, rfl, State.runIns_held _ _ _ _ (State.priv_keeps _ _ _ _ ?_)⟩
  exact (State.engCount_held _ _ _ _).trans ((State.updPan_held _ _ _).trans ((State.updEng_held _ _ _).trans (State.drain_held _ _)))

theorem execWait_held (a_e) (a_a) (s : State) : ∃ t, execWait a_e a_a s = .next t ∧ t.held = s.held := by
  unfold execWait
  refine ⟨_, rfl, State.runIns_held _ _ _ _ (State.priv_keeps _ _ _ _ ?_)⟩
  exact (State.updEng_held _ _ _).trans (State.drain_held _ _)

theorem execWaitWake_held (a_e) (s : State) : ∃ t, execWaitWake a_e s = .next t ∧ t.held = s.held := by
  exact ⟨_, rfl, by simp ⟩

theorem execInterruptEntry_held (a_e) (s : State) : ∃ t, execInterruptEntry a_e s = .next t ∧ t.held = s.held := by
  exact ⟨_, rfl, by simp ⟩

theorem execPanEvtCur_held (a_p) (a_q) (s : State) : ∃ t, execPanEvtCur a_p a_q s = .next t ∧ t.held = s.held := by
  exact ⟨_, rfl, by simp ⟩

theorem execSnp_held (a_p) (s : State) : ∃ t, execSnp a_p s = .next t ∧ t.held = s.held := by
  unfold execSnp
  refine ⟨_, rfl, (State.pump_held _).trans ?_⟩
  split
  · rfl
  · exact State.engCmd_held _ _ _ _ (fun w => State.engSnp_held _ _ _ _ _)

theorem execGsnp_held (a_p) (s : State) : ∃ t, execGsnp a_p s = .next t ∧ t.held = s.held := by
  unfold execGsnp
  refine ⟨_, rfl, (State.pump_held _).trans ?_⟩
  split
  · rfl
  · exact State.engCmd_held _ _ _ _ (fun w => State.engGsnp_held _ _ _ _ _)

theorem execSetQuota_held (a_p) (a_err) (s : State) : ∃ t, execSetQuota a_p a_err s = .next t ∧ t.held = s.held := by
  exact ⟨_, rfl, (State.pump_held _).trans (State.engCmd_held _ _ _ _ (fun w => State.setQuota_held _ _ _ _))⟩

theorem execSetFlush_held (a_p) (a_err) (a_errs) (s : State) : ∃ t, execSetFlush a_p a_err a_errs s = .next t ∧ t.held = s.held := by
  unfold execSetFlush
  (try dsimp only)
  refine ⟨_, rfl, ?_⟩
  refine (State.pump_held _).trans ?_
  refine State.engCmd_held _ _ _ _ (fun w => ?_)
  generalize hs : s.combDrain ↑a_p = s0
  have h0 : s0.held = s.held := by rw [← hs, State.combDrain_held]
  clear hs
  split
  · simp only [h0, ↓held_mk, ↓held_eta, held_eta, held_ite, held_ite2, ite_self, held_foldl, held_foldl1, held_foldl2, forUpTo_held, State.bring_held, State.combDrain_held, State.flushWays_held, State.pump_held, State.wake_held, State.wrKey_held]
  · have hb := State.bring_held s0 (↑a_p) (cmdPsi w) a_err
    split
    · next h => rw [h] at hb; exact hb.trans h0
    · next h => rw [h] at hb; exact hb.trans h0
    · next h => rw [h] at hb; rw [State.flushWays_held]; exact hb.trans h0

theorem execSetClean_held (a_p) (a_err) (s : State) : ∃ t, execSetClean a_p a_err s = .next t ∧ t.held = s.held := by
  exact ⟨_, rfl, (State.pump_held _).trans (State.engCmd_held _ _ _ _ (fun w => State.setClean_held _ _ _ _))⟩

theorem execLineClear_held (a_p) (s : State) : ∃ t, execLineClear a_p s = .next t ∧ t.held = s.held := by
  exact ⟨_, rfl, (State.pump_held _).trans (State.engCmd_held _ _ _ _ (fun w => State.lineClear_held _ _ _ _))⟩

theorem execLineUe_held (a_p) (a_err) (a_errs) (s : State) : ∃ t, execLineUe a_p a_err a_errs s = .next t ∧ t.held = s.held := by
  refine ⟨_, rfl, (State.pump_held _).trans (State.engCmd_held _ _ _ _ (fun w => ?_))⟩
  have hb := State.bring_held s a_p (cmdPsi w) a_err
  split
  · rfl
  · split
    · next h => rw [h] at hb; exact hb
    · next h => rw [h] at hb; exact hb
    · next h => rw [h] at hb; rw [State.lineUeAct_held]; exact hb

theorem execComplete_held (a_p) (s : State) : ∃ t, execComplete a_p s = .next t ∧ t.held = s.held := by
  exact ⟨_, rfl, (State.pump_held _).trans (State.engCmd_held _ _ _ _ (fun w => State.complete_held _ _))⟩

theorem execHalt_held (a_p) (s : State) : ∃ t, execHalt a_p s = .next t ∧ t.held = s.held := by
  refine ⟨_, rfl, (State.pump_held _).trans (State.engCmd_held _ _ _ _ (fun w => ?_))⟩
  exact State.engHalt_held _ _ _ _

theorem execEngCmdBad_held (a_p) (s : State) : ∃ t, execEngCmdBad a_p s = .next t ∧ t.held = s.held := by
  unfold execEngCmdBad
  refine ⟨_, rfl, (State.pump_held _).trans ?_⟩
  split
  · rfl
  · dsimp only
    split
    · next h =>
      split at h
      · rw [State.logD_held, State.updPan_held, State.slot_held _ _ _ _ _ h]
      · cases h
    · rfl

theorem execKick_held (a_p) (a_bits) (s : State) : ∃ t, execKick a_p a_bits s = .next t ∧ t.held = s.held := by
  exact ⟨_, rfl, by simp ⟩

theorem execSweep_held (a_p) (s : State) : ∃ t, execSweep a_p s = .next t ∧ t.held = s.held := by
  exact ⟨_, rfl, by simp ⟩

theorem execDevAddrProbe_held (a_spa) (s : State) : ∃ t, execDevAddrProbe a_spa s = .next t ∧ t.held = s.held := by
  exact ⟨_, rfl, by simp ⟩

theorem execAddrProbeDone_held (s : State) : ∃ t, execAddrProbeDone s = .next t ∧ t.held = s.held := by
  exact ⟨_, rfl, by simp ⟩

theorem execPanMdProbe_held (a_p) (a_v) (s : State) : ∃ t, execPanMdProbe a_p a_v s = .next t ∧ t.held = s.held := by
  exact ⟨_, rfl, by simp ⟩

theorem execMdProbeDone_held (a_p) (a_err) (s : State) : ∃ t, execMdProbeDone a_p a_err s = .next t ∧ t.held = s.held := by
  unfold execMdProbeDone
  refine ⟨_, rfl, ?_⟩
  split
  · rfl
  · next v _ =>
    dsimp only
    generalize v % 2 ^ 20 = psi
    split
    · exact State.mdAnswer_held _ _ _ _ _
    · split
      · exact State.mdAnswer_held _ _ _ _ _
      · split
        · rw [State.loseSet_held, State.mdAnswer_held, State.readBlock_held]
        · rw [State.mdAnswer_held, State.readBlock_held]

theorem execSmRun_held (a_c) (a_run) (s : State) : ∃ t, execSmRun a_c a_run s = .next t ∧ t.held = s.held := by
  exact ⟨_, rfl, by simp ⟩

theorem execRestart_held (a_c) (s : State) : ∃ t, execRestart a_c s = .next t ∧ t.held = s.held := by
  exact ⟨_, rfl, by simp ⟩

theorem execSmTimerCmp_held (a_c) (a_v) (s : State) : ∃ t, execSmTimerCmp a_c a_v s = .next t ∧ t.held = s.held := by
  exact ⟨_, rfl, by simp ⟩

theorem execSmTimer_held (a_c) (s : State) : ∃ t, execSmTimer a_c s = .next t ∧ t.held = s.held := by
  unfold execSmTimer
  refine ⟨_, rfl, ?_⟩
  split <;> simp

theorem execSmTick_held (s : State) : ∃ t, execSmTick s = .next t ∧ t.held = s.held := by
  exact ⟨_, rfl, by simp ⟩

theorem execSmDoorbell_held (a_c) (a_bits) (s : State) : ∃ t, execSmDoorbell a_c a_bits s = .next t ∧ t.held = s.held := by
  exact ⟨_, rfl, by simp ⟩

theorem execSmDoorbellAck_held (a_c) (a_bits) (s : State) : ∃ t, execSmDoorbellAck a_c a_bits s = .next t ∧ t.held = s.held := by
  exact ⟨_, rfl, by simp ⟩

theorem execSmMsg_held (a_c) (a_v) (s : State) : ∃ t, execSmMsg a_c a_v s = .next t ∧ t.held = s.held := by
  exact ⟨_, rfl, by simp ⟩

theorem execTickEdge_held (s : State) : ∃ t, execTickEdge s = .next t ∧ t.held = s.held := by
  unfold execTickEdge
  refine ⟨_, rfl, (State.pump_held _).trans ?_⟩
  split
  · rfl
  · split <;> simp

theorem execTickMissing_held (s : State) : ∃ t, execTickMissing s = .next t ∧ t.held = s.held := by
  exact ⟨_, rfl, by simp ⟩

theorem execFreeTick_held (s : State) : ∃ t, execFreeTick s = .next t ∧ t.held = s.held := by
  exact ⟨_, rfl, by simp ⟩

theorem execFrame_held (a_time) (a_fseq) (s : State) : ∃ t, execFrame a_time a_fseq s = .next t ∧ t.held = s.held := by
  exact ⟨_, rfl, by simp ⟩

theorem execBadFrame_held (s : State) : ∃ t, execBadFrame s = .next t ∧ t.held = s.held := by
  exact ⟨_, rfl, by simp ⟩

theorem execApplyNow_held (s : State) : ∃ t, execApplyNow s = .next t ∧ t.held = s.held := by
  exact ⟨_, rfl, by simp ⟩

theorem execApplyTimed_held (s : State) : ∃ t, execApplyTimed s = .next t ∧ t.held = s.held := by
  exact ⟨_, rfl, by simp ⟩

theorem execJumpApply_held (s : State) : ∃ t, execJumpApply s = .next t ∧ t.held = s.held := by
  unfold execJumpApply
  refine ⟨_, rfl, (State.pump_held _).trans ?_⟩
  split
  · rfl
  · dsimp only
    rw [State.timePasses_held, State.reschedule_held, State.logD_held, State.dropWindows_held, State.count_held, State.updMt_held]
    generalize hs : State.moveStamps _ _ = s3
    have h3 : s3.held = s.held := by rw [← hs, State.moveStamps_held, State.updMt_held]
    clear hs
    rw [held_mk, held_eta, h3]

theorem execSnapNow_held (s : State) : ∃ t, execSnapNow s = .next t ∧ t.held = s.held := by
  exact ⟨_, rfl, by simp ⟩

theorem execSnapTimed_held (s : State) : ∃ t, execSnapTimed s = .next t ∧ t.held = s.held := by
  exact ⟨_, rfl, by simp ⟩

theorem execSnapshotInstant_held (s : State) : ∃ t, execSnapshotInstant s = .next t ∧ t.held = s.held := by
  unfold execSnapshotInstant
  refine ⟨_, rfl, (State.pump_held _).trans ?_⟩
  split
  · rfl
  · split
    · rfl
    · simp only [held_ite, State.snapSkip_held, State.capturing_held, State.dumpSkip_held, State.snapMark_held, ite_self]

theorem execHarvestFlip_held (s : State) : ∃ t, execHarvestFlip s = .next t ∧ t.held = s.held := by
  unfold execHarvestFlip
  refine ⟨_, rfl, (State.pump_held _).trans ?_⟩
  split <;> simp

theorem execDumpComplete_held (a_ok) (a_m) (s : State) : ∃ t, execDumpComplete a_ok a_m s = .next t ∧ t.held = s.held := by
  unfold execDumpComplete
  refine ⟨_, rfl, (State.pump_held _).trans ?_⟩
  split
  · rfl
  · split <;> simp

theorem execHvDumpConfig_held (a_base) (a_v) (s : State) : ∃ t, execHvDumpConfig a_base a_v s = .next t ∧ t.held = s.held := by
  exact ⟨_, rfl, by simp ⟩

theorem execBwWindowEnd_held (a_b) (s : State) : ∃ t, execBwWindowEnd a_b s = .next t ∧ t.held = s.held := by
  exact ⟨_, rfl, by simp ⟩

theorem execBwCtl_held (a_b) (a_win) (s : State) : ∃ t, execBwCtl a_b a_win s = .next t ∧ t.held = s.held := by
  exact ⟨_, rfl, by simp ⟩

theorem execModeCommitNow_held (a_req) (s : State) : ∃ t, execModeCommitNow a_req s = .next t ∧ t.held = s.held := by
  exact ⟨_, rfl, by simp ⟩

theorem execModeCommitTimed_held (a_req) (s : State) : ∃ t, execModeCommitTimed a_req s = .next t ∧ t.held = s.held := by
  exact ⟨_, rfl, by simp ⟩

theorem execModeRequestInstant_held (s : State) : ∃ t, execModeRequestInstant s = .next t ∧ t.held = s.held := by
  exact ⟨_, rfl, by simp ⟩

theorem execModeTransitionDone_held (s : State) : ∃ t, execModeTransitionDone s = .next t ∧ t.held = s.held := by
  unfold execModeTransitionDone
  refine ⟨_, rfl, (State.pump_held _).trans ?_⟩
  split
  · rfl
  · split <;> simp

theorem execTrainingComplete_held (s : State) : ∃ t, execTrainingComplete s = .next t ∧ t.held = s.held := by
  unfold execTrainingComplete
  (try dsimp only)
  refine ⟨_, rfl, ?_⟩
  refine (State.pump_held _).trans ?_
  split
  · exact State.enterMode_held ..
  · rfl

theorem execTrainTimeout_held (s : State) : ∃ t, execTrainTimeout s = .next t ∧ t.held = s.held := by
  exact ⟨_, rfl, by simp ⟩

theorem execBistGo_held (a_sel) (s : State) : ∃ t, execBistGo a_sel s = .next t ∧ t.held = s.held := by
  exact ⟨_, rfl, by simp ⟩

theorem execBistDone_held (a_id) (a_fails) (s : State) : ∃ t, execBistDone a_id a_fails s = .next t ∧ t.held = s.held := by
  unfold execBistDone
  refine ⟨_, rfl, (State.pump_held _).trans ?_⟩
  dsimp only
  split
  · rfl
  · generalize hs : List.foldl (fun t i => State.bistZero t i) s _ = s1
    have h1 : s1.held = s.held := by rw [← hs]; exact held_foldl _ _ _ (fun t i => State.bistZero_held t i)
    clear hs
    generalize hs : (List.foldl _ (s1, []) a_fails) = r
    have h2 : r.1.held = s.held := by
      rw [← hs, heldFst_foldl _ (fun acc f => by split <;> simp only [State.logD_held]), h1]
    clear hs
    rw [State.cmdsGo_held, held_mk, ← h2, held_eta]

theorem execSluiceStep_held (a_d) (s : State) : ∃ t, execSluiceStep a_d s = .next t ∧ t.held = s.held := by
  exact ⟨_, rfl, by simp ⟩

theorem execShedSample_held (a_a) (a_bn) (s : State) : ∃ t, execShedSample a_a a_bn s = .next t ∧ t.held = s.held := by
  exact ⟨_, rfl, by simp ⟩

theorem execShedDiscClear_held (s : State) : ∃ t, execShedDiscClear s = .next t ∧ t.held = s.held := by
  exact ⟨_, rfl, by simp ⟩

theorem execBedStepChange_held (s : State) : ∃ t, execBedStepChange s = .next t ∧ t.held = s.held := by
  unfold execBedStepChange
  refine ⟨_, rfl, (State.pump_held _).trans ?_⟩
  split
  · rfl
  · dsimp only
    generalize hs : forUpTo 8 (fun b t => State.clamp t b) s = s1
    have h1 : s1.held = s.held := by rw [← hs]; exact forUpTo_held _ _ _ (fun b t => State.clamp_held t b)
    clear hs
    split
    · exact h1
    · split
      · exact (State.updBed_held _ _ _).trans ((State.updSl_held _ _).trans h1)
      · exact (State.updBed_held _ _ _).trans ((State.updSl_held _ _).trans h1)

theorem execVrSettleDone_held (a_b) (s : State) : ∃ t, execVrSettleDone a_b s = .next t ∧ t.held = s.held := by
  unfold execVrSettleDone
  refine ⟨_, rfl, ?_⟩
  split <;> simp

theorem execClockSwitchDone_held (a_b) (s : State) : ∃ t, execClockSwitchDone a_b s = .next t ∧ t.held = s.held := by
  unfold execClockSwitchDone
  refine ⟨_, rfl, ?_⟩
  split <;> simp

theorem execSlBedReq_held (a_b) (a_v) (s : State) : ∃ t, execSlBedReq a_b a_v s = .next t ∧ t.held = s.held := by
  exact ⟨_, rfl, by simp ⟩

theorem execStepCommitNow_held (s : State) : ∃ t, execStepCommitNow s = .next t ∧ t.held = s.held := by
  exact ⟨_, rfl, by simp ⟩

theorem execStepCommitTimed_held (s : State) : ∃ t, execStepCommitTimed s = .next t ∧ t.held = s.held := by
  exact ⟨_, rfl, by simp ⟩

theorem execStepCommitInstant_held (s : State) : ∃ t, execStepCommitInstant s = .next t ∧ t.held = s.held := by
  unfold execStepCommitInstant
  refine ⟨_, rfl, ?_⟩
  split <;> simp

theorem execVrAlert_held (a_addr) (a_status) (s : State) : ∃ t, execVrAlert a_addr a_status s = .next t ∧ t.held = s.held := by
  exact ⟨_, rfl, by simp ⟩

theorem execThermalRead_held (a_r) (s : State) : ∃ t, execThermalRead a_r s = .next t ∧ t.held = s.held := by
  unfold execThermalRead
  refine ⟨_, rfl, (State.pump_held _).trans ?_⟩
  dsimp only
  split
  · rfl
  · rw [State.thermalCause_held, forUpTo_held _ _ _ (fun b t => State.tripBed_held t b)]
    generalize hs : forUpTo 8 _ s = s1
    have h1 : s1.held = s.held := by rw [← hs]; exact forUpTo_held _ _ _ (fun b t => State.updBed_held _ _ _)
    clear hs
    generalize hs : List.foldl _ ((none : Option Nat), s1) _ = r
    have h2 : r.2.held = s.held := by
      rw [← hs, heldSnd_foldl _ (fun acc q => by exact State.skewPair_held _ _ _ _), h1]
    clear hs
    split
    · rw [State.thermTrip_held, h2]
    · exact h2

theorem execThermalCapUpdate_held (s : State) : ∃ t, execThermalCapUpdate s = .next t ∧ t.held = s.held := by
  unfold execThermalCapUpdate
  refine ⟨_, rfl, (State.pump_held _).trans ?_⟩
  split
  · rfl
  · rw [State.applyLean_held]
    exact forUpTo_held _ _ _ (fun b t => State.capStep_held t b)

theorem execStackRestEntry_held (a_b) (s : State) : ∃ t, execStackRestEntry a_b s = .next t ∧ t.held = s.held := by
  exact ⟨_, rfl, by simp ⟩

theorem execStackRestExit_held (a_b) (s : State) : ∃ t, execStackRestExit a_b s = .next t ∧ t.held = s.held := by
  unfold execStackRestExit
  refine ⟨_, rfl, (State.pump_held _).trans ?_⟩
  dsimp only
  split
  · split
    · rw [forUpTo_held _ _ _ (fun c t => held_foldl _ _ _ (fun u k => State.progress_held _ _ _)), State.setBed_held]
    · exact State.setBed_held _ _ _
  · rfl

theorem execWake_held (a_b) (s : State) : ∃ t, execWake a_b s = .next t ∧ t.held = s.held := by
  exact ⟨_, rfl, by simp ⟩

theorem execMpPowerDown_held (a_m) (s : State) : ∃ t, execMpPowerDown a_m s = .next t ∧ t.held = s.held := by
  exact ⟨_, rfl, by simp ⟩

theorem execMpPowerUp_held (a_m) (s : State) : ∃ t, execMpPowerUp a_m s = .next t ∧ t.held = s.held := by
  exact ⟨_, rfl, by simp ⟩

theorem execCorePowerDown_held (a_c) (s : State) : ∃ t, execCorePowerDown a_c s = .next t ∧ t.held = s.held := by
  exact ⟨_, rfl, by simp ⟩

theorem execCorePowerUp_held (a_c) (s : State) : ∃ t, execCorePowerUp a_c s = .next t ∧ t.held = s.held := by
  exact ⟨_, rfl, by simp ⟩

theorem execParitySweep_held (a_flips) (s : State) : ∃ t, execParitySweep a_flips s = .next t ∧ t.held = s.held := by
  unfold execParitySweep
  extract_lets s1
  have h1 : s1.held = s.held := by
    simp only [s1]
    split
    · exact held_foldl _ _ _ (fun t f => State.upset_held ..)
    · rfl
  clear_value s1
  refine ⟨_, rfl, (State.pump_held _).trans ?_⟩
  split
  · rw [State.count_held, State.sweepGrants_held]
    exact (held_foldl _ _ _ (fun t o => State.parityFault_held ..)).trans h1
  · exact h1

theorem execRegisterWrite_held (a_w) (a_off) (a_v) (a_full) (s : State) (h : s.held.keyOk = true) : ∃ t, execRegisterWrite a_w a_off a_v a_full s = .next t ∧ t.held = s.held := by
  unfold execRegisterWrite
  refine ⟨_, rfl, (State.pump_held _).trans ?_⟩
  split
  · exact State.busWrite_held _ _ _ _ _ h
  · rfl

theorem execUndefinedAccess_held (a_w) (a_off) (a_wr) (s : State) (h : s.held.keyOk = true) : ∃ t, execUndefinedAccess a_w a_off a_wr s = .next t ∧ t.held = s.held := by
  unfold execUndefinedAccess
  (try dsimp only)
  refine ⟨_, rfl, ?_⟩
  refine (State.pump_held _).trans ?_
  repeat' split
  all_goals first | rfl | (simp only [↓held_mk, ↓held_eta, held_eta, held_ite, held_ite2, ite_self, held_foldl, held_foldl1, held_foldl2, forUpTo_held, State.busAccess_held, State.pump_held, State.wrKey_held, h, State.bar0_held, State.busWrite_held, State.hostWrite_held, State.coreStore_held, State.runStore_held, State.loadEnd_held, State.writeReg_held]; done) | (simp_all only [↓held_mk, ↓held_eta, held_eta, held_ite, held_ite2, ite_self, held_foldl, held_foldl1, held_foldl2, forUpTo_held, State.busAccess_held, State.pump_held, State.wrKey_held, h, State.bar0_held, State.busWrite_held, State.hostWrite_held, State.coreStore_held, State.runStore_held, State.loadEnd_held, State.writeReg_held]; done)

theorem execLock_held (s : State) : ∃ t, execLock s = .next t ∧ t.held = s.held := by
  exact ⟨_, rfl, by simp ⟩

theorem execMbxSel_held (a_m) (a_w) (a_src) (s : State) : ∃ t, execMbxSel a_m a_w a_src s = .next t ∧ t.held = s.held := by
  exact ⟨_, rfl, by simp ⟩

theorem execMbxDone_held (a_m) (a_w) (s : State) : ∃ t, execMbxDone a_m a_w s = .next t ∧ t.held = s.held := by
  exact ⟨_, rfl, by simp ⟩

theorem execMbxFill_held (a_m) (s : State) : ∃ t, execMbxFill a_m s = .next t ∧ t.held = s.held := by
  exact ⟨_, rfl, by simp ⟩

theorem execMbxDataRead_held (a_m) (a_k) (a_w) (s : State) : ∃ t, execMbxDataRead a_m a_k a_w s = .next t ∧ t.held = s.held := by
  exact ⟨_, rfl, by simp ⟩

theorem execAcquire_held (a_n) (a_w) (s : State) : ∃ t, execAcquire a_n a_w s = .next t ∧ t.held = s.held := by
  exact ⟨_, rfl, by simp ⟩

theorem execRelease_held (a_n) (a_w) (s : State) : ∃ t, execRelease a_n a_w s = .next t ∧ t.held = s.held := by
  exact ⟨_, rfl, by simp ⟩

theorem execMgmtEndpointReset_held (s : State) : ∃ t, execMgmtEndpointReset s = .next t ∧ t.held = s.held := by
  unfold execMgmtEndpointReset
  refine ⟨_, rfl, (State.pump_held _).trans ?_⟩
  split
  · exact State.latBreakOf_held _ _
  · rfl

theorem execImageWindowWrite_held (a_k) (a_v) (s : State) (h : s.held.keyOk = true) : ∃ t, execImageWindowWrite a_k a_v s = .next t ∧ t.held = s.held := by
  unfold execImageWindowWrite
  (try dsimp only)
  refine ⟨_, rfl, ?_⟩
  refine (State.pump_held _).trans ?_
  repeat' split
  all_goals first | rfl | (simp only [↓held_mk, ↓held_eta, held_eta, held_ite, held_ite2, ite_self, held_foldl, held_foldl1, held_foldl2, forUpTo_held, State.pump_held, State.wrKey_held, h, State.bar0_held, State.busWrite_held, State.hostWrite_held, State.coreStore_held, State.runStore_held, State.loadEnd_held, State.writeReg_held]; done) | (simp_all only [↓held_mk, ↓held_eta, held_eta, held_ite, held_ite2, ite_self, held_foldl, held_foldl1, held_foldl2, forUpTo_held, State.pump_held, State.wrKey_held, h, State.bar0_held, State.busWrite_held, State.hostWrite_held, State.coreStore_held, State.runStore_held, State.loadEnd_held, State.writeReg_held]; done)

theorem execAuthKey_held (a_k) (a_v) (a_w) (s : State) (h : s.held.keyOk = true) : ∃ t, execAuthKey a_k a_v a_w s = .next t ∧ t.held = s.held := by
  unfold execAuthKey
  (try dsimp only)
  refine ⟨_, rfl, ?_⟩
  repeat' split
  all_goals first | rfl | (simp only [↓held_mk, ↓held_eta, held_eta, held_ite, held_ite2, ite_self, held_foldl, held_foldl1, held_foldl2, forUpTo_held, State.busAccess_held, State.pump_held, State.wrKey_held, h, State.bar0_held, State.busWrite_held, State.hostWrite_held, State.coreStore_held, State.runStore_held, State.loadEnd_held, State.writeReg_held]; done) | (simp_all only [↓held_mk, ↓held_eta, held_eta, held_ite, held_ite2, ite_self, held_foldl, held_foldl1, held_foldl2, forUpTo_held, State.busAccess_held, State.pump_held, State.wrKey_held, h, State.bar0_held, State.busWrite_held, State.hostWrite_held, State.coreStore_held, State.runStore_held, State.loadEnd_held, State.writeReg_held]; done)

theorem execImageLoad_held (a_c) (s : State) : ∃ t, execImageLoad a_c s = .next t ∧ t.held = s.held := by
  exact ⟨_, rfl, by simp ⟩

theorem execLoadComplete_held (s : State) (h : s.held.keyOk = true) : ∃ t, execLoadComplete s = .next t ∧ t.held = s.held := by
  unfold execLoadComplete
  refine ⟨_, rfl, (State.pump_held _).trans ?_⟩
  split
  · exact State.loadEnd_held _ h
  · rfl

theorem execDeviceReset_held (a_c) (s : State) : ∃ t, execDeviceReset a_c s = .next t ∧ t.held = s.held := by
  exact ⟨_, rfl, by simp ⟩

theorem execModeChange_held (a_c) (s : State) : ∃ t, execModeChange a_c s = .next t ∧ t.held = s.held := by
  exact ⟨_, rfl, by simp ⟩

theorem execKeyRotate_held (a_c) (s : State) : ∃ t, execKeyRotate a_c s = .next t ∧ t.held = s.held := by
  exact ⟨_, rfl, by simp ⟩

theorem execClearPoison_held (a_c) (s : State) : ∃ t, execClearPoison a_c s = .next t ∧ t.held = s.held := by
  exact ⟨_, rfl, by simp ⟩

theorem execSluiceOverride_held (a_c) (s : State) : ∃ t, execSluiceOverride a_c s = .next t ∧ t.held = s.held := by
  exact ⟨_, rfl, by simp ⟩

theorem execFirmwareLoad_held (a_c) (s : State) : ∃ t, execFirmwareLoad a_c s = .next t ∧ t.held = s.held := by
  exact ⟨_, rfl, by simp ⟩

theorem execLatchBreak_held (a_c) (s : State) : ∃ t, execLatchBreak a_c s = .next t ∧ t.held = s.held := by
  exact ⟨_, rfl, by simp ⟩

theorem execRetireMemport_held (a_c) (s : State) : ∃ t, execRetireMemport a_c s = .next t ∧ t.held = s.held := by
  exact ⟨_, rfl, by simp ⟩

theorem execRetireBed_held (a_c) (s : State) : ∃ t, execRetireBed a_c s = .next t ∧ t.held = s.held := by
  exact ⟨_, rfl, by simp ⟩

theorem execBadOpcode_held (a_opc) (a_c) (s : State) : ∃ t, execBadOpcode a_opc a_c s = .next t ∧ t.held = s.held := by
  unfold execBadOpcode
  refine ⟨_, rfl, (State.pump_held _).trans ?_⟩
  split
  · rfl
  · split <;> simp

theorem execRegisterRead_held (a_w) (a_off) (a_w32) (a_long) (s : State) (h : s.held.keyOk = true) : ∃ t, execRegisterRead a_w a_off a_w32 a_long s = .next t ∧ t.held = s.held := by
  unfold execRegisterRead
  refine ⟨_, rfl, (State.pump_held _).trans ?_⟩
  split
  · rfl
  · split
    · split
      · rw [State.hostAbort_held, State.count_held]
      · exact State.bar0_held _ _ h
    · split
      · exact State.readReg_held _ _ _ _
      · rfl

theorem execStackInitComplete_held (a_p) (s : State) : ∃ t, execStackInitComplete a_p s = .next t ∧ t.held = s.held := by
  exact ⟨_, rfl, by simp ⟩

theorem execVoutModeRead_held (a_addr) (s : State) : ∃ t, execVoutModeRead a_addr s = .next t ∧ t.held = s.held := by
  exact ⟨_, rfl, by simp ⟩

theorem execRailOutOfRange_held (s : State) : ∃ t, execRailOutOfRange s = .next t ∧ t.held = s.held := by
  exact ⟨_, rfl, by simp ⟩

theorem execTapInstruction_held (a_i) (s : State) : ∃ t, execTapInstruction a_i s = .next t ∧ t.held = s.held := by
  exact ⟨_, rfl, by simp ⟩

end Sys2Proof.Machine
end

