-- ==== Sys2Proof/Laws/Still.lean ====
section
/-! SUPPORT. What the sending of messages and the writing of records that are not fatal leave unchanged. One lemma for each
operation. -/

set_option linter.unusedSimpArgs false
set_option linter.unusedVariables false

namespace Sys2Proof.Machine

/-- What the sending of messages leaves unchanged; requests leave the memory ports with it. -/
structure Still where
  pending : List Instr
  svc : Nat
  regs : Sparse (BitVec 64)
  parity : Sparse (Option Bool)
  mt : MtUnit
  mode : ModeUnit
  sl : Sluice
  ru : RegUnit
  img : ImageUnit
  pans : Sparse Pan
  deriving DecidableEq

/-- The part of a state that the sending of messages leaves unchanged. -/
def State.still (s : State) : Still := ⟨s.pending, s.svc, s.regs, s.parity, s.mt, s.mode, s.sl, s.ru, s.img, s.pans⟩

@[simp] theorem still_mk (a b c d e f g h i j k l m n o p q r t u) :
    State.still ⟨a, b, c, d, e, f, g, h, i, j, k, l, m, n, o, p, q, r, t, u⟩ = ⟨a, c, d, e, f, g, j, k, l, n⟩ := Eq.trans rfl rfl
@[simp] theorem still_eta (s : State) :
    (⟨s.pending, s.svc, s.regs, s.parity, s.mt, s.mode, s.sl, s.ru, s.img, s.pans⟩ : Still) = s.still := Eq.trans rfl rfl
@[simp] theorem still_ite (c : Prop) [Decidable c] (a b : State) : (if c then a else b).still = if c then a.still else b.still := by split <;> rfl
@[simp] theorem still_ite2 {α : Type} (c : Prop) [Decidable c] (a b : α × State) : (if c then a else b).2.still = if c then a.2.still else b.2.still := by split <;> rfl
@[simp] theorem still_foldl {α : Type} (l : List α) (g : State → α → State) (s : State) (h : ∀ t a, (g t a).still = t.still) :
    (l.foldl g s).still = s.still := by
  induction l generalizing s with
  | nil => rfl
  | cons a l ih => simp [ih, h]
@[simp] theorem still_foldl2 {α β : Type} (l : List α) (g : β × State → α → β × State) (s : β × State) (h : ∀ t a, (g t a).2.still = t.2.still) :
    (l.foldl g s).2.still = s.2.still := by
  induction l generalizing s with
  | nil => rfl
  | cons a l ih => simp [ih, h]
@[simp] theorem still_foldl1 {α β : Type} (l : List α) (g : State × β → α → State × β) (s : State × β) (h : ∀ t a, (g t a).1.still = t.1.still) :
    (l.foldl g s).1.still = s.1.still := by
  induction l generalizing s with
  | nil => rfl
  | cons a l ih => simp [ih, h]
@[simp] theorem forUpTo_still (n : Nat) (f : Nat → State → State) (s : State) (h : ∀ k t, (f k t).still = t.still) :
    (forUpTo n f s).still = s.still := still_foldl _ _ _ (fun t a => h a t)


@[simp] theorem State.setBed_still (s : State) (b) (x) : (State.setBed s b x).still = s.still := by
  simp only [State.setBed, ne_eq, Nat.reduceEqDiff, not_false_eq_true, ↓still_mk, ↓still_eta, still_eta, still_ite, still_ite2, ite_self, still_foldl, still_foldl1, still_foldl2, forUpTo_still]

@[simp] theorem State.restExits_still (s : State) : (State.restExits s).still = s.still := by
  simp [State.restExits]

@[simp] theorem State.updBed_still (s : State) (b) (f) : (State.updBed s b f).still = s.still := by
  simp only [State.updBed, ne_eq, Nat.reduceEqDiff, not_false_eq_true, ↓still_mk, ↓still_eta, still_eta, still_ite, still_ite2, ite_self, still_foldl, still_foldl1, still_foldl2, forUpTo_still, State.setBed_still]

@[simp] theorem State.setBadBase_still (s : State) (v) : (State.setBadBase s v).still = s.still := by
  simp only [State.setBadBase, ne_eq, Nat.reduceEqDiff, not_false_eq_true, ↓still_mk, ↓still_eta, still_eta, still_ite, still_ite2, ite_self, still_foldl, still_foldl1, still_foldl2, forUpTo_still]

@[simp] theorem State.checkRing_still (s : State) : (State.checkRing s).still = s.still := by
  simp only [State.checkRing, ne_eq, Nat.reduceEqDiff, not_false_eq_true, ↓still_mk, ↓still_eta, still_eta, still_ite, still_ite2, ite_self, still_foldl, still_foldl1, still_foldl2, forUpTo_still, State.setBadBase_still]

@[simp] theorem State.setEng_still (s : State) (e) (x) : (State.setEng s e x).still = s.still := by
  simp only [State.setEng, ne_eq, Nat.reduceEqDiff, not_false_eq_true, ↓still_mk, ↓still_eta, still_eta, still_ite, still_ite2, ite_self, still_foldl, still_foldl1, still_foldl2, forUpTo_still]

@[simp] theorem State.updEng_still (s : State) (e) (f) : (State.updEng s e f).still = s.still := by
  simp only [State.updEng, ne_eq, Nat.reduceEqDiff, not_false_eq_true, ↓still_mk, ↓still_eta, still_eta, still_ite, still_ite2, ite_self, still_foldl, still_foldl1, still_foldl2, forUpTo_still, State.setEng_still]

@[simp] theorem State.coreEdge_still (s : State) (bit) : (State.coreEdge s bit).still = s.still := by
  simp [State.coreEdge]

@[simp] theorem State.count_still (s : State) (u) (e) (n) : (State.count s u e n).still = s.still := by
  simp only [State.count, ne_eq, Nat.reduceEqDiff, not_false_eq_true, ↓still_mk, ↓still_eta, still_eta, still_ite, still_ite2, ite_self, still_foldl, still_foldl1, still_foldl2, forUpTo_still]

@[simp] theorem State.setKn_still (s : State) (l) (x) : (State.setKn s l x).still = s.still := by
  simp only [State.setKn, ne_eq, Nat.reduceEqDiff, not_false_eq_true, ↓still_mk, ↓still_eta, still_eta, still_ite, still_ite2, ite_self, still_foldl, still_foldl1, still_foldl2, forUpTo_still]

@[simp] theorem State.setArb_still (s : State) (a) (x) : (State.setArb s a x).still = s.still := by
  simp only [State.setArb, ne_eq, Nat.reduceEqDiff, not_false_eq_true, ↓still_mk, ↓still_eta, still_eta, still_ite, still_ite2, ite_self, still_foldl, still_foldl1, still_foldl2, forUpTo_still]

@[simp] theorem State.award_still (s : State) (a) (l) (w) : (State.award s a l w).still = s.still := by
  unfold State.award
  dsimp only
  repeat' split
  all_goals first | rfl | (simp only [ne_eq, Nat.reduceEqDiff, not_false_eq_true, ↓still_mk, ↓still_eta, still_eta, still_ite, still_ite2, ite_self, still_foldl, still_foldl1, still_foldl2, forUpTo_still, State.setArb_still, State.count_still]; done) | (simp_all only [ne_eq, Nat.reduceEqDiff, not_false_eq_true, ↓still_mk, ↓still_eta, still_eta, still_ite, still_ite2, ite_self, still_foldl, still_foldl1, still_foldl2, forUpTo_still, State.setArb_still, State.count_still]; done)

@[simp] theorem State.grant1_still (s : State) (a) (num) (group) (stamp) : (State.grant1 s a num group stamp).still = s.still := by
  simp only [State.grant1, ne_eq, Nat.reduceEqDiff, not_false_eq_true, ↓still_mk, ↓still_eta, still_eta, still_ite, still_ite2, ite_self, still_foldl, still_foldl1, still_foldl2, forUpTo_still, State.award_still]

@[simp] theorem State.kwrite_still (s : State) (l) (e) : (State.kwrite s l e).still = s.still := by
  simp only [State.kwrite, ne_eq, Nat.reduceEqDiff, not_false_eq_true, ↓still_mk, ↓still_eta, still_eta, still_ite, still_ite2, ite_self, still_foldl, still_foldl1, still_foldl2, forUpTo_still, State.setKn_still, State.grant1_still]

@[simp] theorem State.pushMgmt_still (s : State) (m) : (State.pushMgmt s m).2.still = s.still := by
  simp only [State.pushMgmt, ne_eq, Nat.reduceEqDiff, not_false_eq_true, ↓still_mk, ↓still_eta, still_eta, still_ite, still_ite2, ite_self, still_foldl, still_foldl1, still_foldl2, forUpTo_still, State.kwrite_still]

@[simp] theorem State.vecMsg_still (s : State) (v) : (State.vecMsg s v).2.still = s.still := by
  unfold State.vecMsg
  repeat' split
  all_goals first | rfl | (simp only [ne_eq, Nat.reduceEqDiff, not_false_eq_true, ↓still_mk, ↓still_eta, still_eta, still_ite, still_ite2, ite_self, still_foldl, still_foldl1, still_foldl2, forUpTo_still, State.pushMgmt_still, State.count_still]; done) | (simp_all only [ne_eq, Nat.reduceEqDiff, not_false_eq_true, ↓still_mk, ↓still_eta, still_eta, still_ite, still_ite2, ite_self, still_foldl, still_foldl1, still_foldl2, forUpTo_still, State.pushMgmt_still, State.count_still]; done)

@[simp] theorem State.raiseVecs_still (s : State) (vs) : (State.raiseVecs s vs).2.still = s.still := by
  simp [State.raiseVecs]

@[simp] theorem State.logCore_still (s : State) (i) : (State.logCore s i).2.still = s.still := by
  simp only [State.logCore, ne_eq, Nat.reduceEqDiff, not_false_eq_true, ↓still_mk, ↓still_eta, still_eta, still_ite, still_ite2, ite_self, still_foldl, still_foldl1, still_foldl2, forUpTo_still, State.coreEdge_still, State.raiseVecs_still, State.count_still]

@[simp] theorem State.logRaw_still (s : State) (i) : (State.logRaw s i).still = s.still := by
  simp only [State.logRaw, ne_eq, Nat.reduceEqDiff, not_false_eq_true, ↓still_mk, ↓still_eta, still_eta, still_ite, still_ite2, ite_self, still_foldl, still_foldl1, still_foldl2, forUpTo_still, State.logCore_still]

theorem State.logErr_still (s : State) (i) (h : i.cls ≠ 3) : (s.logErr i).still = s.still := by
  unfold State.logErr
  dsimp only
  rw [if_neg h]
  exact State.logRaw_still _ _

theorem State.logD_still (s : State) (unit cls code detail) (h : cls ≠ 3) : (s.logD unit cls code detail).still = s.still :=
  State.logErr_still _ _ h

@[simp] theorem State.setMp_still (s : State) (m x) : (s.setMp m x).still = s.still := Eq.trans rfl rfl

@[simp] theorem State.updMp_still (s : State) (m f) : (s.updMp m f).still = s.still := Eq.trans rfl rfl

@[simp] theorem State.updKn_still (s : State) (l) (f) : (State.updKn s l f).still = s.still := by
  simp only [State.updKn, ne_eq, Nat.reduceEqDiff, not_false_eq_true, ↓still_mk, ↓still_eta, still_eta, still_ite, still_ite2, ite_self, still_foldl, still_foldl1, still_foldl2, forUpTo_still, State.setKn_still]

@[simp] theorem State.undeliv_still (s : State) (from_) : (State.undeliv s from_).still = s.still := by
  unfold State.undeliv
  repeat' split
  all_goals first | rfl | (simp only [ne_eq, Nat.reduceEqDiff, not_false_eq_true, ↓still_mk, ↓still_eta, still_eta, still_ite, still_ite2, ite_self, still_foldl, still_foldl1, still_foldl2, forUpTo_still, State.updKn_still, State.setKn_still, State.logD_still, State.count_still]; done) | (simp_all only [ne_eq, Nat.reduceEqDiff, not_false_eq_true, ↓still_mk, ↓still_eta, still_eta, still_ite, still_ite2, ite_self, still_foldl, still_foldl1, still_foldl2, forUpTo_still, State.updKn_still, State.setKn_still, State.logD_still, State.count_still]; done)

@[simp] theorem State.toQueue_still (s : State) (port pan vc b stamp) : (s.toQueue port pan vc b stamp).still = s.still := Eq.trans rfl rfl

@[simp] theorem State.setQueue_still (s : State) (b) (n) (q) : (State.setQueue s b n q).still = s.still := by
  simp only [State.setQueue, ne_eq, Nat.reduceEqDiff, not_false_eq_true, ↓still_mk, ↓still_eta, still_eta, still_ite, still_ite2, ite_self, still_foldl, still_foldl1, still_foldl2, forUpTo_still, State.updBed_still]

@[simp] theorem State.ansPut_still (s : State) (port : Nat) (a : Ans) (stamp : BitVec 16) : (State.ansPut s port a stamp).still = s.still := by
  first
  | (simp [State.ansPut]; done)
  | (unfold State.ansPut; repeat' split
     all_goals first | (simp [*]; done) | rfl)
  | (unfold State.ansPut; dsimp only; repeat' split
     all_goals first | (simp [*]; done) | (simp_all; done) | rfl)

@[simp] theorem State.kput_still (s : State) (l) (b) (re) (from_) (esc) (pan) (stamp) : (State.kput s l b re from_ esc pan stamp).still = s.still := by
  simp only [State.kput, ne_eq, Nat.reduceEqDiff, not_false_eq_true, ↓still_mk, ↓still_eta, still_eta, still_ite, still_ite2, ite_self, still_foldl, still_foldl1, still_foldl2, forUpTo_still, State.kwrite_still]

@[simp] theorem State.ksendRaw_still (s : State) (b) (pan) : (State.ksendRaw s b pan).still = s.still := by
  unfold State.ksendRaw
  repeat' split
  all_goals first | rfl | (simp only [ne_eq, Nat.reduceEqDiff, not_false_eq_true, ↓still_mk, ↓still_eta, still_eta, still_ite, still_ite2, ite_self, still_foldl, still_foldl1, still_foldl2, forUpTo_still, State.undeliv_still, State.kput_still]; done) | (simp_all only [ne_eq, Nat.reduceEqDiff, not_false_eq_true, ↓still_mk, ↓still_eta, still_eta, still_ite, still_ite2, ite_self, still_foldl, still_foldl1, still_foldl2, forUpTo_still, State.undeliv_still, State.kput_still]; done)

@[simp] theorem State.noteHere_still (s : State) (port n stamp) : (s.noteHere port n stamp).still = s.still := by
  unfold State.noteHere
  split
  case h_2 => exact forUpTo_still _ _ _ (fun p t => State.toQueue_still ..)
  case h_3 => exact forUpTo_still _ _ _ (fun p t => State.toQueue_still ..)
  all_goals simp

@[simp] theorem State.xbarOut_still (s : State) (n) : (State.xbarOut s n).still = s.still := by
  simp only [State.xbarOut, ne_eq, Nat.reduceEqDiff, not_false_eq_true, ↓still_mk, ↓still_eta, still_eta, still_ite, still_ite2, ite_self, still_foldl, still_foldl1, still_foldl2, forUpTo_still, State.count_still]

@[simp] theorem State.notice_still (s : State) (d : Nat) (agent : BitVec 12) (b : NoteBody) (pan : Option Nat) : (State.notice s d agent b pan).still = s.still := by
  first
  | rfl
  | (simp [State.notice]; done)
  | (unfold State.notice; repeat' split
     all_goals first | rfl | (simp [*]; done))
  | (unfold State.notice; dsimp only; repeat' split
     all_goals first | rfl | (simp [*]; done) | (simp_all; done))

@[simp] theorem State.setHinge_still (s : State) (p) (x) : (State.setHinge s p x).still = s.still := by
  simp only [State.setHinge, ne_eq, Nat.reduceEqDiff, not_false_eq_true, ↓still_mk, ↓still_eta, still_eta, still_ite, still_ite2, ite_self, still_foldl, still_foldl1, still_foldl2, forUpTo_still]

@[simp] theorem State.toPort_still (s : State) (m) (src) (stamp) : (State.toPort s m src stamp).still = s.still := by
  unfold State.toPort
  dsimp only
  repeat' split
  all_goals first | rfl | (simp only [ne_eq, Nat.reduceEqDiff, not_false_eq_true, ↓still_mk, ↓still_eta, still_eta, still_ite, still_ite2, ite_self, still_foldl, still_foldl1, still_foldl2, forUpTo_still, State.notice_still, State.setHinge_still, State.count_still]; done) | (simp_all only [ne_eq, Nat.reduceEqDiff, not_false_eq_true, ↓still_mk, ↓still_eta, still_eta, still_ite, still_ite2, ite_self, still_foldl, still_foldl1, still_foldl2, forUpTo_still, State.notice_still, State.setHinge_still, State.count_still]; done)

@[simp] theorem State.portSays_still (s : State) (m) : (State.portSays s m).still = s.still := by
  simp only [State.portSays, ne_eq, Nat.reduceEqDiff, not_false_eq_true, ↓still_mk, ↓still_eta, still_eta, still_ite, still_ite2, ite_self, still_foldl, still_foldl1, still_foldl2, forUpTo_still, State.toPort_still]

@[simp] theorem State.onUndeliverable_still (s : State) (b : KBody) (from_ : Option Nat) : (State.onUndeliverable s b from_).still = s.still := by
  first
  | (simp [State.onUndeliverable]; done)
  | (unfold State.onUndeliverable; repeat' split
     all_goals first | (simp [*]; done) | rfl)
  | (unfold State.onUndeliverable; dsimp only; repeat' split
     all_goals first | (simp [*]; done) | (simp_all; done) | rfl)

@[simp] theorem State.updHinge_still (s : State) (p) (f) : (State.updHinge s p f).still = s.still := by
  simp only [State.updHinge, ne_eq, Nat.reduceEqDiff, not_false_eq_true, ↓still_mk, ↓still_eta, still_eta, still_ite, still_ite2, ite_self, still_foldl, still_foldl1, still_foldl2, forUpTo_still, State.setHinge_still]

@[simp] theorem State.ksend_still (s : State) (b) (pan) : (State.ksend s b pan).still = s.still := by
  unfold State.ksend
  repeat' split
  all_goals first | rfl | (simp only [ne_eq, Nat.reduceEqDiff, not_false_eq_true, ↓still_mk, ↓still_eta, still_eta, still_ite, still_ite2, ite_self, still_foldl, still_foldl1, still_foldl2, forUpTo_still, State.undeliv_still, State.onUndeliverable_still, State.kput_still, State.portSays_still]; done) | (simp_all only [ne_eq, Nat.reduceEqDiff, not_false_eq_true, ↓still_mk, ↓still_eta, still_eta, still_ite, still_ite2, ite_self, still_foldl, still_foldl1, still_foldl2, forUpTo_still, State.undeliv_still, State.onUndeliverable_still, State.kput_still, State.portSays_still]; done)

@[simp] theorem State.sendKn_still (s : State) (l) (e) : (State.sendKn s l e).still = s.still := by
  simp only [State.sendKn, ne_eq, Nat.reduceEqDiff, not_false_eq_true, ↓still_mk, ↓still_eta, still_eta, still_ite, still_ite2, ite_self, still_foldl, still_foldl1, still_foldl2, forUpTo_still, State.setKn_still, State.count_still]

@[simp] theorem State.pumpKn_still (s : State) (l skip n) : (s.pumpKn l skip n).still = s.still := by
  induction n generalizing s skip with
  | zero => simp only [State.pumpKn]
  | succ k ih =>
    unfold State.pumpKn
    dsimp only
    repeat' split
    all_goals first | rfl | simp only [ih, ne_eq, Nat.reduceEqDiff, not_false_eq_true, ↓still_mk, ↓still_eta, still_eta, still_ite, still_ite2, ite_self, still_foldl, still_foldl1, still_foldl2, forUpTo_still, State.award_still, State.sendKn_still]

@[simp] theorem State.knStalls_still (s : State) (l) : (State.knStalls s l).still = s.still := by
  simp [State.knStalls]

@[simp] theorem State.oweK_still (s : State) (l) (ch) (n) : (State.oweK s l ch n).still = s.still := by
  simp only [State.oweK, ne_eq, Nat.reduceEqDiff, not_false_eq_true, ↓still_mk, ↓still_eta, still_eta, still_ite, still_ite2, ite_self, still_foldl, still_foldl1, still_foldl2, forUpTo_still, State.updKn_still]

@[simp] theorem State.oweSrc_still (s : State) (src : Nat) (half : Bool) (ch : Nat) (n : Nat) : (State.oweSrc s src half ch n).still = s.still := by
  first
  | rfl
  | (simp [State.oweSrc]; done)
  | (unfold State.oweSrc; repeat' split
     all_goals first | rfl | (simp [*]; done))
  | (unfold State.oweSrc; dsimp only; repeat' split
     all_goals first | rfl | (simp [*]; done) | (simp_all; done))

@[simp] theorem State.pumpWrite_still (s : State) (l n) : (s.pumpWrite l n).still = s.still := by
  induction n generalizing s with
  | zero => rfl
  | succ k ih =>
    unfold State.pumpWrite
    dsimp only
    repeat' split
    all_goals first | rfl | (rw [ih]; simp; done)

@[simp] theorem State.sendKnuckle_still (s : State) (l) : (State.sendKnuckle s l).still = s.still := by
  simp only [State.sendKnuckle, ne_eq, Nat.reduceEqDiff, not_false_eq_true, ↓still_mk, ↓still_eta, still_eta, still_ite, still_ite2, ite_self, still_foldl, still_foldl1, still_foldl2, forUpTo_still, State.pumpKn_still, State.knStalls_still, State.pumpWrite_still, State.updKn_still]

@[simp] theorem State.hingeStalls_still (s : State) (p) : (State.hingeStalls s p).still = s.still := by
  simp [State.hingeStalls]

@[simp] theorem State.payHinge_still (s : State) (p) : (State.payHinge s p).still = s.still := by
  simp only [State.payHinge, ne_eq, Nat.reduceEqDiff, not_false_eq_true, ↓still_mk, ↓still_eta, still_eta, still_ite, still_ite2, ite_self, still_foldl, still_foldl1, still_foldl2, forUpTo_still, State.updHinge_still]

@[simp] theorem State.outArrived_still (s : State) (l) (m) (stamp) : (State.outArrived s l m stamp).still = s.still := by
  unfold State.outArrived
  repeat' split
  all_goals first | rfl | (simp only [ne_eq, Nat.reduceEqDiff, not_false_eq_true, ↓still_mk, ↓still_eta, still_eta, still_ite, still_ite2, ite_self, still_foldl, still_foldl1, still_foldl2, forUpTo_still, State.toPort_still]; done) | (simp_all only [ne_eq, Nat.reduceEqDiff, not_false_eq_true, ↓still_mk, ↓still_eta, still_eta, still_ite, still_ite2, ite_self, still_foldl, still_foldl1, still_foldl2, forUpTo_still, State.toPort_still]; done)

theorem State.kDeliver_still (s : State) (l e) (t : State) (h : s.kDeliver l e = some t) : t.still = s.still := by
  unfold State.kDeliver at h
  repeat' split at h
  all_goals first | (cases h; done) | (cases h; simp; done)

@[simp] theorem State.drainRx_still (s : State) (l) : (s.drainRx l).still = s.still := by
  unfold State.drainRx
  split
  · rfl
  · dsimp only
    rw [State.updKn_still]
    refine still_foldl1 _ _ _ (fun t e => ?_)
    split
    · rfl
    · split
      · next h => rw [State.oweK_still]; exact State.kDeliver_still _ _ _ _ h
      · rfl

@[simp] theorem State.markRefd_still (s : State) (c) : (State.markRefd s c).still = s.still := by
  unfold State.markRefd
  repeat' split
  all_goals first | rfl | (simp only [ne_eq, Nat.reduceEqDiff, not_false_eq_true, ↓still_mk, ↓still_eta, still_eta, still_ite, still_ite2, ite_self, still_foldl, still_foldl1, still_foldl2, forUpTo_still, State.updKn_still, State.updHinge_still]; done) | (simp_all only [ne_eq, Nat.reduceEqDiff, not_false_eq_true, ↓still_mk, ↓still_eta, still_eta, still_ite, still_ite2, ite_self, still_foldl, still_foldl1, still_foldl2, forUpTo_still, State.updKn_still, State.updHinge_still]; done)

@[simp] theorem State.refusals_still (s : State) (b) : (State.refusals s b).still = s.still := by
  simp [State.refusals]

@[simp] theorem State.forwarded_still (s : State) (p) (o) : (State.forwarded s p o).still = s.still := by
  simp only [State.forwarded, ne_eq, Nat.reduceEqDiff, not_false_eq_true, ↓still_mk, ↓still_eta, still_eta, still_ite, still_ite2, ite_self, still_foldl, still_foldl1, still_foldl2, forUpTo_still, State.portSays_still, State.updHinge_still]

@[simp] theorem State.candGone_still (s : State) (c) : (State.candGone s c).still = s.still := by
  unfold State.candGone
  repeat' split
  all_goals first | rfl | (simp only [ne_eq, Nat.reduceEqDiff, not_false_eq_true, ↓still_mk, ↓still_eta, still_eta, still_ite, still_ite2, ite_self, still_foldl, still_foldl1, still_foldl2, forUpTo_still, State.updKn_still, State.oweK_still, State.drainRx_still, State.updHinge_still, State.forwarded_still]; done) | (simp_all only [ne_eq, Nat.reduceEqDiff, not_false_eq_true, ↓still_mk, ↓still_eta, still_eta, still_ite, still_ite2, ite_self, still_foldl, still_foldl1, still_foldl2, forUpTo_still, State.updKn_still, State.oweK_still, State.drainRx_still, State.updHinge_still, State.forwarded_still]; done)

@[simp] theorem State.finishMsg_still (s : State) (b) (n) (body) : (State.finishMsg s b n body).still = s.still := by
  simp only [State.finishMsg, ne_eq, Nat.reduceEqDiff, not_false_eq_true, ↓still_mk, ↓still_eta, still_eta, still_ite, still_ite2, ite_self, still_foldl, still_foldl1, still_foldl2, forUpTo_still, State.setBed_still]

@[simp] theorem State.xbarIn_still (s : State) (n) : (State.xbarIn s n).still = s.still := by
  simp only [State.xbarIn, ne_eq, Nat.reduceEqDiff, not_false_eq_true, ↓still_mk, ↓still_eta, still_eta, still_ite, still_ite2, ite_self, still_foldl, still_foldl1, still_foldl2, forUpTo_still, State.count_still]

theorem State.brinePut_still (s : State) (p port vc body stamp) (t : State) (h : s.brinePut p port vc body stamp = some t) :
    t.still = s.still := by
  unfold State.brinePut at h
  dsimp only at h
  repeat' split at h
  all_goals first | (cases h; simp only [ne_eq, Nat.reduceEqDiff, not_false_eq_true, ↓still_mk, ↓still_eta, still_eta, still_ite, still_ite2, ite_self, still_foldl, still_foldl1, still_foldl2, forUpTo_still, State.setQueue_still, State.finishMsg_still, State.count_still, State.xbarIn_still]; done) | (cases h; done)

theorem State.nextIn_still (s : State) (b) (x) (h : s.nextIn b = some x) : x.2.still = s.still := by
  unfold State.nextIn at h
  dsimp only at h
  repeat' split at h
  all_goals first
    | (cases h; done)
    | (cases h; rfl)
    | (rw [Option.map_eq_some_iff] at h; obtain ⟨c, -, rfl⟩ := h; simp; done)

@[simp] theorem State.ingress_still (s : State) (b n) : (s.ingress b n).still = s.still := by
  induction n generalizing s with
  | zero => rfl
  | succ k ih =>
    unfold State.ingress
    split
    · rfl
    · next x hx =>
      split
      · rfl
      · next hb => rw [ih, State.candGone_still, State.brinePut_still _ _ _ _ _ _ _ hb, State.nextIn_still _ _ _ hx]

@[simp] theorem State.ingressAll_still (s : State) : (State.ingressAll s).still = s.still := by
  simp [State.ingressAll]

theorem State.transmit_still (s : State) (p m) (t : State) (h : s.transmit p m = some t) : t.still = s.still := by
  unfold State.transmit at h
  dsimp only at h
  split at h
  · cases h
  · cases h; simp only [ne_eq, Nat.reduceEqDiff, not_false_eq_true, ↓still_mk, ↓still_eta, still_eta, still_ite, still_ite2, ite_self, still_foldl, still_foldl1, still_foldl2, forUpTo_still, State.setHinge_still, State.count_still]

@[simp] theorem State.sendSlot_still (s : State) (p e asks w) : (s.sendSlot p e asks w).still = s.still := by
  unfold State.sendSlot
  extract_lets s1
  have h1 : s1.still = s.still := by simp only [s1, ne_eq, Nat.reduceEqDiff, not_false_eq_true, ↓still_mk, ↓still_eta, still_eta, still_ite, still_ite2, ite_self, still_foldl, still_foldl1, still_foldl2, forUpTo_still, State.updHinge_still, State.award_still]
  clear_value s1
  split
  · rfl
  · next h => rw [State.transmit_still _ _ _ _ h, State.updHinge_still, h1]

@[simp] theorem State.pumpPort_still (s : State) (p n) : (s.pumpPort p n).still = s.still := by
  induction n generalizing s with
  | zero => simp only [State.pumpPort]
  | succ k ih =>
    unfold State.pumpPort
    dsimp only
    repeat' split
    all_goals first | rfl | simp only [ih, ne_eq, Nat.reduceEqDiff, not_false_eq_true, ↓still_mk, ↓still_eta, still_eta, still_ite, still_ite2, ite_self, still_foldl, still_foldl1, still_foldl2, forUpTo_still, State.award_still, State.sendSlot_still]

@[simp] theorem State.sendHinge_still (s : State) (p) : (s.sendHinge p).still = s.still := by
  unfold State.sendHinge
  dsimp only
  rw [State.pumpPort_still, State.updHinge_still]

@[simp] theorem State.unitsWith_still (s t : State) (src half ch n) : (s.unitsWith t src half ch n).still = t.still := by
  unfold State.unitsWith
  split <;> simp

@[simp] theorem State.release_still (s : State) (p) : (s.release p).still = s.still := by
  unfold State.release
  refine still_foldl _ _ _ (fun t o => ?_)
  split
  · split <;> simp
  · rfl

@[simp] theorem State.mpSent_still (s : State) (m n) : (s.mpSent m n).still = s.still := by
  simp [State.mpSent]

@[simp] theorem State.mpIssue_still (s : State) (m : Nat) (r : MReq) : (State.mpIssue s m r).still = s.still := by
  first
  | rfl
  | (simp [State.mpIssue]; done)
  | (unfold State.mpIssue; repeat' split
     all_goals first | rfl | (simp [*]; done))
  | (unfold State.mpIssue; dsimp only; repeat' split
     all_goals first | rfl | (simp [*]; done) | (simp_all; done))

@[simp] theorem State.pumpMp_still (s : State) (m : Nat) (n : Nat) : (State.pumpMp s m n).still = s.still := by
  induction n generalizing s with
  | zero => rfl
  | succ k ih =>
    unfold State.pumpMp
    dsimp only
    repeat' split
    all_goals first | rfl | (simp [ih]; done)

@[simp] theorem State.pump_still (s : State) : (State.pump s).still = s.still := by
  first
  | (simp [State.pump]; done)
  | (unfold State.pump; repeat' split
     all_goals first | (simp [*]; done) | rfl)
  | (unfold State.pump; dsimp only; repeat' split
     all_goals first | (simp [*]; done) | (simp_all; done) | rfl)

end Sys2Proof.Machine
end

