-- ==== Sys2Proof/WellFormed.lean ====
section
/-! DEFINITION. Which commands are well formed: the shapes that a sender can give (R196, R244, R257, R261, R291, R434, R450,
R461, R462). -/

namespace Sys2Proof

/-- Arbiters of a block (R494). -/
def ArbBlk.count (b : ArbBlk) : Nat :=
  match b with
  | .pan _ => 5
  | .hp _ => 4
  | .kl _ => 2
  | .dev | .bed _ | .mp _ => 1

/-- A writer code that R461 gives a sender of register accesses: the host's two paths, the cores and the pan engines. -/
def isWriter (w : BitVec 8) : Bool :=
  let n := w.toNat
  decide (n ≤ 1) || (decide (4 ≤ n) && decide (n ≤ 7)) || (decide (0x40 ≤ n) && decide (n ≤ 0x7F))

/-- A notice's opcode names it; an unused one lies above the defined ones (R294). -/
def NoteBody.wf (b : NoteBody) : Bool :=
  match b with
  | .unused opc => decide (9 ≤ opc.toNat)
  | .dmark .. | .wdone .. | .tmo | .pfault .. | .gone .. | .cleaned | .ungone | .gsnp .. | .gack .. => true

/-- A Knuckle message travels on one of seven channels, in the class of its body (R291, R292). -/
def KMsg.wf (m : KMsg) : Bool :=
  decide (m.kvc.toNat ≤ 6) &&
    (match m.body with
    | .note n => n.body.wf
    | .mgmt _ => m.kvc == 6
    | .req _ | .out _ | .ans _ => true)

/-- What a port passes through has the class of its body (R291). -/
def Part.wf (m : Part) : Bool :=
  match m with
  | .msg (.note n) => n.body.wf
  | .msg (.req _) | .msg (.out _) | .msg (.ans _) | .msg (.mgmt _) | .mem _ => true

/-- A command is well formed: its lists have the lengths that the hardware gives them, and its codes are codes of the
specification. -/
def Instr.wf (i : Instr) : Bool :=
  match i with
  | .arbGrace b n _ _ c => decide (n.val < b.count) && c.m.wf
  | .arbCutoff b n _ => decide (n.val < b.count)
  | .arbPrivLimit b n _ => decide (n.val < b.count)
  | .rakeRowVisit _ _ errs written => (errs.map (·.1)).Nodup && written.Nodup
  | .sramSweep _ id _ _ _ => decide (1 ≤ id.toNat) && decide (id.toNat ≤ 11)
  | .laneBlock _ blks _ => blks.length == 16 || blks.length == 8
  | .codeword _ _ errs _ => errs.Nodup
  | .msg _ _ pay => decide (pay.length ≤ 4)
  | .knuckleMessage _ m => m.wf
  | .mpEvent _ _ recs => !recs.isEmpty
  | .setFlush _ _ errs => (errs.map (·.1)).Nodup
  | .lineUe _ _ errs => (errs.map (·.1)).Nodup
  | .bistDone id _ => decide (1 ≤ id.val)
  | .thermalRead r => r.length == 8 && r.all (fun b => b.die.length == 4 && b.stk.length == 3)
  | .registerWrite w _ _ _ => isWriter w
  | .undefinedAccess w _ _ => isWriter w
  | .mbxSel _ w _ => isWriter w
  | .mbxDone _ w => isWriter w
  | .mbxDataRead _ _ w => isWriter w
  | .acquire _ w => isWriter w
  | .release _ w => isWriter w
  | .authKey _ _ w => isWriter w
  | .registerRead w _ w32 long => isWriter w && !(w32 && long) && (!long || w == 0)
  | .powerOn | .powerOff | .rampToBlank .. | .pwrGoodLow | .devResetNAssert | .devResetNRelease ..
  | .hingeRequestReceived .. | .agentResponseReceived .. | .fence .. | .fenceDone .. | .rdshared .. | .rdown ..
  | .upgrade .. | .rdcurrent .. | .wrinvfull .. | .wrinvpart .. | .wrbackm .. | .atomich .. | .atomicm ..
  | .waitChainStart .. | .allocRetry .. | .mdcMissResume .. | .fillResume .. | .stackDataStaged .. | .mdwqWrite ..
  | .wbSend .. | .memdata .. | .cmp .. | .atomicResult .. | .ack .. | .notPresent .. | .ackdata .. | .grantSent ..
  | .dmark .. | .holdWindowEnd .. | .wdone .. | .snoopTimeout .. | .tmo .. | .gone .. | .cleaned .. | .ungone ..
  | .cleanupTmo .. | .pfault .. | .logFull | .combIdleWriteback .. | .panAtomCtl .. | .ancientBitSet
  | .arbCommitNow .. | .arbCommitTimed .. | .arbCommitInstant .. | .bucketLeak .. | .bedErase .. | .refresh ..
  | .rakeStartNow .. | .rakeStartTimed .. | .rakeStartInstant .. | .writeEnc .. | .writeData .. | .writeCheck ..
  | .writeRaw .. | .read .. | .chkOpDone .. | .linkStateTimeout .. | .configPauseEnd .. | .closedSignalDetect ..
  | .cfg .. | .cfgAck .. | .idle .. | .replayReq .. | .replayReqRepeat .. | .unusedCtl .. | .retrainReturn ..
  | .retrainLimit .. | .portReset .. | .portResetDetect .. | .linkCtlReset .. | .linkCtlClose .. | .linkCtlOpen ..
  | .closeReq .. | .closeReady .. | .closeDone .. | .closeTmo .. | .electricalIdleEntry .. | .groupSnoop ..
  | .gack .. | .routeCommitNow | .routeCommitTimed | .routeCommitInstant | .previousTableExpiry | .knMarkTmo ..
  | .knReqTmo .. | .postedRequestTmo .. | .hostBar2Access .. | .mrd | .mwr | .mcpl | .mcplTimeout .. | .mvec
  | .unusedMgmtOpcode | .mpEnumeration .. | .mpLinkDown .. | .mpCompletionTimeout .. | .mpLinkReset ..
  | .viralIndication .. | .mpIoAddr .. | .mpIoDone .. | .addR .. | .subR .. | .andR .. | .orR .. | .xorR ..
  | .andn .. | .sll .. | .srl .. | .sra .. | .clt .. | .cltu .. | .min .. | .max .. | .minu .. | .maxu .. | .clz ..
  | .popc .. | .bswap .. | .mul .. | .mulh .. | .mulhu .. | .div .. | .divu .. | .rem .. | .remu .. | .addi ..
  | .andi .. | .ori .. | .xori .. | .clti .. | .cltiu .. | .addhi .. | .slli .. | .srli .. | .srai .. | .lb ..
  | .lbu .. | .lh .. | .lhu .. | .lw .. | .lwu .. | .ld .. | .sb .. | .sh .. | .sw .. | .sd .. | .amoAdd ..
  | .amoAnd .. | .amoOr .. | .amoXor .. | .amoSmin .. | .amoSmax .. | .amoUmin .. | .amoUmax .. | .amoSwap ..
  | .amoCas .. | .beq .. | .bne .. | .blt .. | .bge .. | .bltu .. | .bgeu .. | .bra .. | .call .. | .jmp ..
  | .callr .. | .loop .. | .loopi .. | .crc32c .. | .bmov .. | .fadd .. | .fsub .. | .fmul .. | .fdiv ..
  | .fsqrt .. | .fmin .. | .fmax .. | .feq .. | .flt .. | .fle .. | .fcvtI .. | .fcvtF .. | .fcvtP .. | .fneg ..
  | .fabs .. | .mfs .. | .mts .. | .mode .. | .resume .. | .trap .. | .debug .. | .iflush .. | .fenceInstruction ..
  | .fenceDevice .. | .fenceCode .. | .step .. | .wait .. | .waitWake .. | .interruptEntry .. | .panEvtCur ..
  | .snp .. | .gsnp .. | .setQuota .. | .setClean .. | .lineClear .. | .complete .. | .halt .. | .engCmdBad ..
  | .kick .. | .sweep .. | .devAddrProbe .. | .addrProbeDone | .panMdProbe .. | .mdProbeDone .. | .smRun ..
  | .restart .. | .smTimerCmp .. | .smTimer .. | .smTick | .smDoorbell .. | .smDoorbellAck .. | .smMsg ..
  | .tickEdge | .tickMissing | .freeTick | .frame .. | .badFrame | .applyNow | .applyTimed | .jumpApply | .snapNow
  | .snapTimed | .snapshotInstant | .harvestFlip | .dumpComplete .. | .hvDumpConfig .. | .bwWindowEnd ..
  | .bwCtl .. | .modeCommitNow .. | .modeCommitTimed .. | .modeRequestInstant | .modeTransitionDone
  | .trainingComplete | .trainTimeout | .bistGo .. | .sluiceStep .. | .shedSample .. | .shedDiscClear
  | .bedStepChange | .vrSettleDone .. | .clockSwitchDone .. | .slBedReq .. | .stepCommitNow | .stepCommitTimed
  | .stepCommitInstant | .vrAlert .. | .thermalCapUpdate | .stackRestEntry .. | .stackRestExit .. | .wake ..
  | .mpPowerDown .. | .mpPowerUp .. | .corePowerDown .. | .corePowerUp .. | .paritySweep .. | .lock | .mbxFill ..
  | .mgmtEndpointReset | .imageWindowWrite .. | .imageLoad .. | .loadComplete | .deviceReset .. | .modeChange ..
  | .keyRotate .. | .clearPoison .. | .sluiceOverride .. | .firmwareLoad .. | .latchBreak .. | .retireMemport ..
  | .retireBed .. | .badOpcode .. | .stackInitComplete .. | .voutModeRead .. | .railOutOfRange | .tapInstruction .. => true

end Sys2Proof
end

