-- ==== Sys2Proof/Tests/Slice0.lean ====
section
/-! SUPPORT. Tests: what WellFormed refuses, the decoder, for every statement with hypotheses a state that meets them, and
steps whose results the specification gives. -/

open Sys2Proof Sys2Proof.Machine

namespace Sys2Proof.Tests

section
set_option Elab.async false

/-! ### Well-formedness: each check accepts a well-formed command and refuses an ill-formed one -/

theorem test_wf_arbiter_index : (Instr.arbCutoff (.pan 0) 4 0).wf = true ∧ (Instr.arbCutoff (.pan 0) 5 0).wf = false ∧
    (Instr.arbCutoff (.hp 0) 4 0).wf = false ∧ (Instr.arbCutoff (.kl 0) 2 0).wf = false ∧ (Instr.arbCutoff .dev 1 0).wf = false ∧
    (Instr.arbPrivLimit (.mp 0) 0 { r := .mgmt }).wf = true ∧ (Instr.arbPrivLimit (.bed 0) 1 { r := .mgmt }).wf = false ∧
    (Instr.arbGrace (.kl 7) 1 0 0 { m := .mem 0 }).wf = true ∧ (Instr.arbGrace (.kl 7) 2 0 0 { m := .mem 0 }).wf = false := by decide

theorem test_wf_notice : (Instr.arbGrace (.bed 0) 0 0 0 { m := .msg (.note { body := .unused 9 }) }).wf = true ∧
    (Instr.arbGrace (.bed 0) 0 0 0 { m := .msg (.note { body := .unused 8 }) }).wf = false := by decide

theorem test_wf_knuckle_message : (Instr.knuckleMessage 0 { kvc := 6, body := .mgmt {} }).wf = true ∧
    (Instr.knuckleMessage 0 { kvc := 5, body := .mgmt {} }).wf = false ∧
    (Instr.knuckleMessage 0 { kvc := 7, body := .req {} }).wf = false ∧
    (Instr.knuckleMessage 0 { kvc := 4, body := .note { body := .unused 8 } }).wf = false := by decide

theorem test_wf_error_lists : (Instr.rakeRowVisit 0 0 [(1, 1), (2, 1)] [0, 255]).wf = true ∧
    (Instr.rakeRowVisit 0 0 [(1, 1), (1, 2)] []).wf = false ∧ (Instr.rakeRowVisit 0 0 [] [7, 7]).wf = false ∧
    (Instr.codeword (.kl 0) 0xB [0, 543] true).wf = true ∧ (Instr.codeword (.kl 0) 0xB [5, 5] true).wf = false ∧
    (Instr.setFlush 0 0 [(0, 1), (0, 2)]).wf = false ∧ (Instr.lineUe 0 0 [(15, 1), (15, 2)]).wf = false := by decide

theorem test_wf_lengths : (Instr.laneBlock (.kl 0) (List.replicate 16 ⟨0, 0, 0⟩) 0).wf = true ∧
    (Instr.laneBlock (.hp 0 true) (List.replicate 8 ⟨0, 0, 0⟩) 0).wf = true ∧
    (Instr.laneBlock (.kl 0) (List.replicate 15 ⟨0, 0, 0⟩) 0).wf = false ∧ (Instr.msg (.kl 0) 0 [0, 0, 0, 0]).wf = true ∧
    (Instr.msg (.kl 0) 0 [0, 0, 0, 0, 0]).wf = false ∧ (Instr.mpEvent 0 false []).wf = false ∧
    (Instr.thermalRead (List.replicate 8 { die := [0, 0, 0, 0], stk := [0, 0, 0] })).wf = true ∧
    (Instr.thermalRead (List.replicate 7 { die := [0, 0, 0, 0], stk := [0, 0, 0] })).wf = false ∧
    (Instr.thermalRead (List.replicate 8 { die := [0, 0, 0], stk := [0, 0, 0] })).wf = false := by decide

theorem test_wf_ids : (Instr.sramSweep 0 1 0 true 0).wf = true ∧ (Instr.sramSweep 0 0 0 true 0).wf = false ∧
    (Instr.sramSweep 0 12 0 true 0).wf = false ∧ (Instr.bistDone 1 []).wf = true ∧ (Instr.bistDone 0 []).wf = false := by decide

theorem test_wf_writer : isWriter 0 = true ∧ isWriter 1 = true ∧ isWriter 2 = false ∧ isWriter 3 = false ∧ isWriter 4 = true ∧
    isWriter 7 = true ∧ isWriter 8 = false ∧ isWriter 0x3F = false ∧ isWriter 0x40 = true ∧ isWriter 0x7F = true ∧
    isWriter 0x80 = false := by decide

theorem test_wf_access : (Instr.registerWrite 2 0 0 true).wf = false ∧ (Instr.undefinedAccess 2 0 true).wf = false ∧
    (Instr.mbxSel 0 2 0).wf = false ∧ (Instr.mbxDone 0 2).wf = false ∧ (Instr.mbxDataRead 0 0 2).wf = false ∧
    (Instr.acquire 0 2).wf = false ∧ (Instr.release 0 2).wf = false ∧ (Instr.authKey 0 0 2).wf = false ∧
    (Instr.registerRead 0 0 false true).wf = true ∧ (Instr.registerRead 1 0 false true).wf = false ∧
    (Instr.registerRead 0 0 true true).wf = false ∧ (Instr.registerRead 2 0 false false).wf = false := by decide

/-- The table gives no row any bits, and so no word spells a command. -/
theorem test_no_word_spells_a_command : decodeTableWord 32 0 = none ∧ decodeTableWord 512 0xFFFFFFFF = none ∧
    (State.reset.withFetchWord 32 5).pending = [] := by decide +kernel

/-! ### Muzia engines -/

/-- The reset state with engine e as given. -/
def on (e : Nat) (x : Engine) : State := State.reset.setEng e x

/-- A running engine in privileged, in routine and in unprivileged mode. -/
def pv : Engine := { inReset := false }
def rt : Engine := { inReset := false, status := 2 }
def us : Engine := { inReset := false, status := 0 }

/-- The greatest negative number by -1, and a zero divisor. -/
def sArith : State := on 63 { us with g := [(1, 0x8000000000000000), (2, 0xFFFFFFFFFFFFFFFF)] }

theorem test_w_MuziaIntegerResults : sArith.fits 63 false false ∧ ({ rd := 3, rs := 1, rt := 0 } : RArgs).u = 0 ∧
    ({ rd := 3, rs := 1, sh := 63 } : ShArgs).u = 0 ∧ sArith.rg 63 1 = 0x8000000000000000 ∧ sArith.rg 63 2 = 0xFFFFFFFFFFFFFFFF ∧
    (on 64 us).fits 64 false false ∧ (clz64 1).toNat < 64 ∧ (clz64 0).toNat = 64 ∧ (7 : Nat) < 8 := by
  unfold State.fits; decide +kernel

/-- One pattern of each class of FP32: signaling and quiet NaN, infinity, zero, one and its negative, the greatest subnormal
number, and, for FCVT.I, a half, 2^62, 2^63, -2^63 and -2^64. -/
theorem test_w_MuziaFloatLaws :
    (0xFFFFFFFF < 2 ^ (fmtOf false).width ∧ 0xFFFFFFFFFFFFFFFF < 2 ^ (fmtOf true).width) ∧ (1 : BitVec 64) ≠ 0 ∧
    ((fmtOf false).dec 0x7F800001 = .nan true ∧ (fmtOf false).dec 0x7FC00000 = .nan false) ∧
    (fmtOf true).dec 0x7FF0000000000001 = .nan true ∧ ((fmtOf false).dec 0x3F800000).isNan = false ∧
    ((fmtOf false).dec 0x7F800000 = .inf false ∧ (fmtOf false).dec 0xFF800000 = .inf true) ∧
    ((fmtOf false).dec 0 = .fin false 0 (-149) ∧ (fmtOf false).dec 0x80000000 = .fin true 0 (-149)) ∧
    ((fmtOf false).dec 0x3F800000 = .fin false 0x800000 (-23) ∧ (fmtOf false).dec 0xBF800000 = .fin true 0x800000 (-23) ∧
      (fmtOf false).dec 0x007FFFFF = .fin false 0x7FFFFF (-149)) ∧
    (withSign false 0x800000 + withSign true 0x800000 = 0 ∧ withSign false 0x800000 + withSign false 0x800000 ≠ 0 ∧
      withSign true 0x800000 < withSign false 0x800000 ∧ withSign true 0 = withSign false 0) ∧
    ((fmtOf false).dec 0x3F000000 = .fin false 0x800000 (-24) ∧ (fmtOf false).dec 0x5E800000 = .fin false 0x800000 39 ∧
      (fmtOf false).dec 0x5F000000 = .fin false 0x800000 40 ∧ (fmtOf false).dec 0xDF000000 = .fin true 0x800000 40 ∧
      (fmtOf false).dec 0xDF800000 = .fin true 0x800000 41) ∧
    (-(2 ^ 63) * (2 : Int) ^ 24 ≤ withSign false 0x800000 ∧ withSign false 0x800000 ≤ (2 ^ 63 - 1) * (2 : Int) ^ 24) ∧
    (2 ^ 63 * (2 : Int) ^ 0 ≤ withSign false (0x800000 * 2 ^ 40) ∧ -(2 ^ 63) * (2 : Int) ^ 0 ≤ withSign true (0x800000 * 2 ^ 40) ∧
      withSign true (0x800000 * 2 ^ 41) ≤ -(2 ^ 63 + 1) * (2 : Int) ^ 0) := by decide +kernel

/-- R356, R357: 1 / 3 in FP32 rounds to 0x3EAAAAAB, inexact; the root of 4 is 2, exact; 2.5 to an integer, ties to even, is 2. -/
theorem test_float_values :
    (fmtOf false).divV .near ((fmtOf false).dec 0x3F800000) ((fmtOf false).dec 0x40400000) = (0x3EAAAAAB, flNX) ∧
    (fmtOf false).sqrtV .near ((fmtOf false).dec 0x40800000) = (0x40000000, 0) ∧ ((fmtOf false).dec 0x40200000).toInt .near = (2, flNX) := by decide +kernel

/-- A loop of level lv whose last instruction stands at 8, with n passes left. -/
def lp (a b : Nat) : Engine := { pv with
  pc := 8
  loops := [(0, { ls := 0, le := 8, lc := BitVec.ofNat 64 a }), (1, { ls := 4, le := 8, lc := BitVec.ofNat 64 b })] }

theorem test_w_MuziaNextAddress :
    (pv.slot = none ∧ pv.atLe 0 = false ∧ pv.atLe 1 = false) ∧
    ({ pv with status := 0x11 } : Engine).hact = true ∧
    ((lp 0 2).slot = none ∧ (lp 0 2).atLe 1 = true ∧ ((lp 0 2).loop 1).lc ≠ 1) ∧
    ((lp 0 1).atLe 1 = true ∧ ((lp 0 1).loop 1).lc = 1 ∧ (lp 0 1).atLe 0 = false) ∧
    ((lp 2 1).atLe 1 = true ∧ (lp 2 1).atLe 0 = true ∧ ((lp 2 1).loop 0).lc ≠ 1) ∧
    ((lp 2 0).atLe 1 = false ∧ (lp 2 0).atLe 0 = true) ∧ ((lp 1 0).atLe 0 = true ∧ ((lp 1 0).loop 0).lc = 1) ∧
    ((lp 1 1).atLe 1 = true ∧ ((lp 1 1).loop 1).lc = 1 ∧ (lp 1 1).atLe 0 = true ∧ ((lp 1 1).loop 0).lc = 1) ∧
    (let b : Slot := { owner := 0, target := some 16, link := true }
     ({ pv with slot := some b } : Engine).slot = some b ∧ b.target = some 16) ∧
    (let b : Slot := { owner := 0, target := none, link := false }
     ({ pv with slot := some b } : Engine).slot = some b ∧ ({ pv with slot := some b } : Engine).atLe 0 = false) := by
  decide +kernel

/-- The body of two levels that end at one instruction: the inner level counts down and goes back to its start (R340). -/
theorem test_loop_end : ((lp 2 2).complete false).pc = 4 ∧ (((lp 2 2).complete false).loop 1).lc = 1 := by decide +kernel

theorem test_w_MuziaTransfersAndLoops : (on 0 us).fits 0 true true ∧ ((on 0 us).rg 0 0 + (8 : BitVec 16).signExtend 64).toNat % 4 = 0 ∧
    2 ≤ ({ lv := true, rs := 0, imm := 0, len := 2 } : LArgs).len.toNat := by unfold State.fits; decide +kernel

theorem test_w_MuziaCrcAccumulator : (on 0 us).fits 0 false false ∧ ({ rd := 1, rs := 1, rt := 2, sz := 3 } : CrcArgs).u = 0 ∧
    ({ rd := 1, rs := 1, rt := 2, sz := 3, u := 1 } : CrcArgs).u ≠ 0 := by unfold State.fits; decide +kernel

/-- Loads of a core: from its SRAM, from its program store, and past a buffered store. -/
def sLoad : State := on 64 { pv with
  g := [(1, 0x200000)], sbuf := [{ addr := 0x200000, size := 8, val := 5 }, { addr := 0x200010, size := 4, val := 6 }] }

theorem test_w_MuziaLoads : sLoad.fits 64 false false ∧
    (let x := sLoad.effAddr 64 { rd := 2, rs := 1, imm := 8 }
     x % 8 = 0 ∧ mayLoad true 1 (zoneOf true x) 8 true = true ∧ (sLoad.loadFrom 64 x 8).1 = some 0) ∧
    mayLoad true 1 (zoneOf true 0x100000000) 4 true = true ∧ mayLoad false 1 (zoneOf false 0x20000) 4 true = false ∧
    (0xFF < 256 ^ 1) ∧
    ((sLoad.eng 64).sbuf.all (fun w => !w.overlaps 0x200018 8) = true ∧ sLoad.isUe 64 0x200018 = false) ∧
    (let w : SbEntry := { addr := 0x200000, size := 8, val := 5 }
     let y : SbEntry := { addr := 0x200010, size := 4, val := 6 }
     (sLoad.eng 64).sbuf = [] ++ w :: [y] ∧ [y].all (fun y => !y.overlaps 0x200004 4) = true ∧ w.overlaps 0x200004 4 = true ∧
     w.covers 0x200004 4 = true ∧
     (sLoad.eng 64).sbuf = [w] ++ y :: [] ∧ y.overlaps 0x200010 8 = true ∧ y.covers 0x200010 8 = false ∧
     ((sLoad.drainN 64 2).engCount 64 3 4).isUe 64 0x200010 = false) := by unfold State.fits; decide +kernel

/-- R381: a load that a younger store holds whole is served from it; one that it holds in part drains it first. -/
theorem test_load_forwarding : (sLoad.sramLoad 64 0x200004 4).1 = some 0 ∧ (sLoad.sramLoad 64 0x200000 4).1 = some 5 ∧
    (sLoad.sramLoad 64 0x200010 8).1 = some 6 ∧ ((sLoad.sramLoad 64 0x200010 8).2.eng 64).sbuf = [] := by decide +kernel

/-- A pan engine whose code-write window is full. -/
def sFullWin : State := on 0 { pv with
  cwin := (List.range 16).map (fun k => { dw := k, val := 0, lo := true, hi := true }) }

theorem test_w_MuziaStores : sLoad.fits 64 false false ∧ (zoneOf true 0x200000).isSram = true ∧
    mayStore true 1 (zoneOf true 0x200000) 8 0x200000 = true ∧ (sLoad.eng 64).sbuf.length < sbCap 64 ∧
    (zoneOf true 8 = .prog ∧ mayStore true 1 .prog 4 8 = true ∧ (sLoad.cwStore 64 8 4 7).isSome = true) ∧
    (zoneOf true (0x100000000 + smOff 0 0x28) = .regs ∧ mayStore true 1 .regs 8 0x100080028 = true) ∧
    (let w : SbEntry := { addr := 0x200010, size := 4, val := 6 }
     (sLoad.eng 64).sbuf = [{ addr := 0x200000, size := 8, val := 5 }] ++ [w] ∧ w.addr % w.size = 0 ∧ w.val < 256 ^ w.size) ∧
    (sLoad.eng 64).sbuf.all (fun w => w.addr / 8 != 1) = true ∧
    ((sFullWin.cwAt 0 0x100).isNone = true ∧ 16 ≤ (sFullWin.eng 0).cwin.length ∧ zoneOf false 0x100 = .prog) ∧
    ((sFullWin.eng 0).cwin.map (fun c => c.dw)).Nodup ∧
    (let s := on 64 { pv with g := [(1, 0x200000)], sbuf := List.replicate (sbCap 64) { addr := 0x200000, size := 8, val := 5 } }
     s.fits 64 false false ∧ sbCap 64 ≤ (s.eng 64).sbuf.length ∧
     (s.eng 64).sbuf = { addr := 0x200000, size := 8, val := 5 } :: (s.eng 64).sbuf.tail) ∧
    (mayStore false 0 (zoneOf false 0) 8 0 = false ∧ zoneOf false 0x4000 = .none) ∧
    ((zoneOf true 8).isSram = false ∧ 2 < (if zoneOf true 8 = .prog then 4 else 8)) := by unfold State.fits; decide +kernel

theorem test_w_MuziaAtomicsAndMoves : sLoad.fits 64 false false ∧ sramMay 1 (zoneOf true 0x200000) = true ∧
    (sLoad.rg 64 1).toNat % 8 = 0 ∧ (sLoad.drain 64).isUe 64 0x200000 = false ∧
    2 ≤ ({ rd := 2, rs := 1, rt := 3, sz := 2 } : AmoArgs).sz.toNat ∧
    (let s := on 67 { us with g := [(1, 0x200000), (2, 0x201000), (3, 16)] }
     s.fits 67 false false ∧ bmovSrcOk 0 0x200000 16 = true ∧ bmovDstOk 0 0x201000 16 = true ∧ bmovDstOk 0 0x2FFFF1 16 = false ∧
     ∀ i < 16, (s.drain 67).srcUe 67 (0x200000 + i) = false) := by unfold State.fits; decide +kernel

theorem test_w_MuziaFloatResults : (on 64 us).fits 64 false false ∧ isCore 64 = true ∧
    ({ rd := 1, rs := 2, rt := 0, p := true } : FArgs).rt = 0 := by unfold State.fits; decide +kernel

theorem test_w_MuziaSystemResults :
    (on 64 pv).fits 64 false false ∧ (spOf true 0x11 = some .fcsr ∧ SpReg.fcsr.mayRead 1 = true ∧ SpReg.fcsr.readOnly = false ∧
      SpReg.fcsr.mayWrite 1 = true) ∧
    ((on 0 pv).fits 0 false true ∧ spOf false 0 = some .status ∧ SpReg.status.mayWrite 1 = true ∧ badMode false 2 = false) ∧
    ((on 0 rt).fits 0 false true ∧ (on 0 rt).eng 0 = rt ∧ rt.mode = 2 ∧ badMode false 0 = false) ∧
    ((on 0 pv).fits 0 true true ∧ pv.mode = 1 ∧ badMode false (pv.estatus.toNat % 4) = false) ∧
    ((on 64 { pv with estatus := 2 }).fits 64 true true ∧ badMode true 2 = true) ∧
    ((on 64 { pv with waiting := true, imask := 1, ipend := 1 }).irq 64 = true) ∧
    ({ pv with waiting := true } : Engine).runs = true := by unfold State.fits; decide +kernel

theorem test_w_MuziaExceptionEntry : (0x0F < 0x10) ∧ ((on 0 us).eng 0).hact = false ∧ (on 0 us).err.log.length < 4095 ∧
    ((on 0 us).pan 0).slCount + 1 < 4 ∧ (4 ≤ (((on 0 us).setPan 0 { slCount := 3 }).pan 0).slCount + 1) ∧
    (on 0 us).mode.cur ≠ .off := by decide +kernel

theorem test_w_MuziaDoubleFault : ((on 67 { pv with status := 0x11 }).eng 67).hact = true ∧
    ((on 0 { pv with status := 0x11 }).eng 0).hact = true := by decide +kernel

/-- An engine at its step limit, out of its program store, at an uncorrectable word, and at the end of a loop in a delay slot. -/
def sLimit : State := on 0 { rt with count := 256 }
def sOut : State := on 0 { us with pc := 0x4000 }
def sUe : State := on 0 { us with ue := [0] }
def sForm : State := on 0 { lp 1 0 with status := 0, slot := some { owner := 4, target := some 0, link := false } }

theorem test_w_MuziaExceptionCauses :
    ((sLimit.eng 0).mode = 2 ∧ (sLimit.eng 0).count = 256 ∧ sLimit.alive = true ∧ (sLimit.eng 0).runs = true) ∧
    zoneOf false (sOut.eng 0).pc.toNat ≠ .prog ∧ sUe.isUe 0 0 = true ∧
    ((sForm.eng 0).atLe 0 = true ∧ (sForm.eng 0).slot.isSome = true) ∧
    ((on 0 us).fits 0 false false ∧ (on 0 us).fits 0 true true ∧ us.mode = 0 ∧
      ((on 0 us).rg 0 0 + (2 : BitVec 16).signExtend 64).toNat % 4 ≠ 0) ∧
    (let s := on 0 us
     (s.effAddr 0 { rd := 1, rs := 0, imm := 4 }) % 8 ≠ 0 ∧ zoneOf false (s.effAddr 0 { rd := 1, rs := 0, imm := 0x4000 }) = .none ∧
     zoneOf false (s.effAddr 0 { rd := 1, rs := 0, imm := 0 }) = .prog) ∧
    zoneOf true 0x100000 = .low := by unfold State.fits; decide +kernel

/-- A core with source 4 pending and enabled, and a pan engine with an event in its foreground queue. -/
def sIrq : State := on 64 { us with status := 4, imask := 0x10, ipend := 0x10 }
def sIrqPan : State := (on 5 { us with status := 4, imask := 1 }).setPan 5 { fg := [{ typ := 1 }] }

theorem test_w_MuziaTrapsAndInterrupts : (on 0 us).fits 0 true true ∧
    ((sIrq.eng 64).runs = true ∧ (sIrq.eng 64).ie = true ∧ (sIrq.eng 64).hact = false ∧ sIrq.irq 64 = true ∧
      sIrq.ipendOf 64 < 2 ^ 32 ∧ (sIrq.eng 64).slot = none ∧ (sIrq.eng 64).hold = false ∧ (sIrq.eng 64).mode ≠ 2) ∧
    ((sIrqPan.eng 5).ie = true ∧ sIrqPan.irq 5 = true ∧ sIrqPan.ipendOf 5 < 2 ^ 32) := by unfold State.fits; decide +kernel
/-- The command c ends at s in a state of which p holds. -/
def gives (c : Instr) (s : State) (p : State → Bool) : Bool :=
  match exec c s with
  | .next t => p t
  | .fault _ => false
  | .refused _ => false

/-- R358, R360: an unused field that is not 0 raises ILLEGAL: EPC is the address, ECAUSE 1, and the PC the handler's. -/
theorem test_illegal_entry : gives (.addR 0 { rd := 1, rs := 2, rt := 3, u := 1 }) (on 0 { us with pc := 0x40, evec := 0x1000 })
    (fun t => (t.eng 0).epc == 0x40 && (t.eng 0).ecause == 1 && (t.eng 0).pc == 0x1010 && (t.eng 0).mode == 1 && (t.eng 0).hact) =
    true := by decide +kernel

/-! ### Modes, commands and the image -/

/-- The reset state in mode m, and with a machine time of n nanoseconds. -/
def inMode (m : Mode) : State := { State.reset with mode := { cur := m } }
def at_ (n : Nat) (s : State) : State := { s with mt := { s.mt with tick := n } }

/-- One range of every system address, with this device as the home of all of it. -/
def homed (s : State) : State :=
  { s with img := { s.img with inForce := true, map := [(0, 1), (1, 0xFFFFFFFFFF000), (0x800, BitVec.ofNat 64 s.mode.devid)] } }

theorem test_w_PowerAndReset : (inMode .off).mode.cur = .off ∧ ((inMode .ramp).mode.inReset = false ∧
    (inMode .ramp).mode.railBad = false) ∧ State.reset.mode.cur ≠ .off ∧ State.reset.mode.cur ≠ .ramp ∧
    ({ cur := .blank, inReset := true } : ModeUnit).inReset = true ∧ keptOffset 0x50018 = true ∧ keptOffset 0x50020 = false ∧
    keptOffset (bedOff 7 (0xB40 + 8 * 35)) = true ∧ keptOffset (bedOff 7 (0xB40 + 8 * 36)) = false ∧ (7 : Nat) < 8 ∧
    (let s : State := { inMode .ramp with mode := { cur := .ramp, railBad := true, pwrLow := true } }
     s.mode.cur = .ramp ∧ s.mode.inReset = false ∧ s.mode.railBad = true ∧ s.mode.pwrLow = true) ∧
    ((inMode .service).sl.override_ = false ∧ ({ inMode .service with sl := { override_ := true } } : State).sl.override_ = true) ∧
    ((inMode .service).mode.inReset = false ∧ (inMode .service).mode.railBad = false) ∧
    ({ cur := .ramp, inReset := true } : ModeUnit).inReset = true := by
  decide +kernel

/-- R437: a device reset keeps the key registers and clears a register of a pan. -/
theorem test_device_reset_keeps : gives .devResetNAssert (((inMode .service).setReg 0x50000 7).setReg (panOff 3 0x510) 5)
    (fun t => t.rv 0x50000 == 7 && t.rv (panOff 3 0x510) == resetAt (panOff 3 0x510) && t.mode.cur == .blank && t.mode.inReset) =
    true := by decide +kernel

/-- The regulators' addresses read 0 with no image in force, and every stack is trained. -/
def trained : State := (List.range 8).foldl (fun s b => s.setBed b { init := [0, 1, 2, 3, 4, 5, 6, 7] })
  { State.reset with mode := { cur := .train, vrSeen := [0] } }

theorem test_w_ModeChanges :
    ((inMode .prove).alive = true ∧ (inMode .prove).mode.busy = false) ∧ (inMode .lean).mode.cur = .lean ∧
    ((inMode .service).mode.cur = .service ∧ (inMode .drain).mode.cur = .drain) ∧
    ((6 : BitVec 4) ≠ 7 ∧ (inMode .train).mode.cur ≠ .prove) ∧
    (let s := (inMode .service).setReg 0x310 1
     schedule s.now (s.rv 0x310) = .pending) ∧
    (let s := at_ 5 ((inMode .service).setReg 0x308 0x700)
     let u : State := { s with mode := { s.mode with pend := some 5 } }
     u.mode.cmdPend = none ∧ reached u.now 5 = true ∧ u.rf 0x308 11 8 = 7) ∧
    (let s : State := { State.reset with mode := { cur := .drain, busy := true, target := .hold } }
     s.mode.target = .hold ∧ s.flushed = true) ∧
    (let s : State := { trained with mode := { cur := .recover, busy := true, target := .prove } }
     s.mode.busy = true ∧ s.stacksReady = true) ∧
    (trained.mode.cur = .train ∧ trained.stacksReady = true ∧ trained.memReady = true ∧ trained.vrsReady = true) ∧
    (let s := at_ (2 ^ 40) (inMode .train)
     s.stacksReady = false ∧ max 1 (s.rf 0x308 47 32) * 1000000 ≤ dt s.mode.trainAt s.now) ∧
    (inMode .train).mode.vrSeen.contains 127 = false ∧
    ((inMode .test).alive = true ∧ (inMode .test).mode.bist = []) ∧
    (let s : State := { State.reset with mode := { cur := .test, bist := [1, 4] } }
     s.mode.bist.contains 4 = true ∧ s.mode.cmdWait = []) ∧
    (let s : State := { State.reset with mode := { cur := .test, bist := [1], cmdWait := [.hold] } }
     s.mode.bist = [1] ∧ s.mode.cmdWait = [.hold] ∧ s.mode.cur = .test ∧ s.mode.busy = false) := by decide +kernel

/-- R426: DRAIN is no mode that a request reaches from PROVE: REFUSED. -/
theorem test_mode_refused : gives (.modeCommitNow 7) (inMode .prove) (fun t => t.mode.refused && t.mode.cur == .prove) = true := by
  decide +kernel

/-- The reset state in mode m with the 256-bit key of RFC 3394, section 4.6, and the block c with the tag of opcode opc. -/
def keyed (m : Mode) : State :=
  let s := (inMode m).setReg 0x50000 0x0706050403020100 |>.setReg 0x50008 0x0F0E0D0C0B0A0908
    |>.setReg 0x50010 0x1716151413121110 |>.setReg 0x50018 0x1F1E1D1C1B1A1918
  { s with img := { s.img with keyWritten := 15, keySet := true } }
def signed (s : State) (opc : Nat) (c : CmdBlk) : CmdBlk := { c with tag := BitVec.ofNat 64 (s.block opc c).blkTag }
def blk : CmdBlk := { dev := 0, counter := 1, tag := 0 }

/-! A block with the right tag passes the checks if it passes all others: its tag is not computed. -/

/-- Every check of R483 but that of the tag passes. -/
def restOk (v : State) : Bool :=
  !v.img.authBusy && v.img.keySet && v.blkDev == v.me && (!v.img.cntExh || v.blkOpc == 4) &&
    (v.img.cntExh || decide (v.img.counter < v.blkWord 6)) && decide (1 ≤ v.blkOpc) && decide (v.blkOpc ≤ 10) && !v.badArg &&
    v.modeListed && v.ownCheck.isNone

theorem busAccess_frame (s : State) (w : Nat) : (s.busAccess w).img = s.img ∧ (s.busAccess w).mode = s.mode ∧
    (s.busAccess w).pans = s.pans ∧ ∀ o, (s.busAccess w).rv o = s.rv o := by
  have h : ∀ (s : State) (a : ArbId) (l : List Asker) (w : Asker), (s.award a l w).img = s.img ∧ (s.award a l w).mode = s.mode ∧
      (s.award a l w).pans = s.pans ∧ ∀ o, (s.award a l w).rv o = s.rv o := by
    intro s a l w
    unfold State.award State.setArb
    dsimp only
    split <;> simp <;> exact fun _ => rfl
  unfold State.busAccess State.grant1
  split
  · dsimp only
    refine ⟨(h _ _ _ _).1.trans ?_, (h _ _ _ _).2.1.trans ?_, (h _ _ _ _).2.2.1.trans ?_, fun o => ((h _ _ _ _).2.2.2 o).trans ?_⟩ <;> simp
  · simp

theorem setBlk_frame (l : List Nat) (f : Nat → Nat) (hc : Nat) (s : State) :
    let t := l.foldl (fun t k => (t.busAccess hc).setReg (mbxOff 0 (0x80 + 8 * k)) (f k)) s
    t.img = s.img ∧ t.mode = s.mode ∧ t.pans = s.pans ∧ (∀ o, (∀ k ∈ l, o ≠ mbxOff 0 (0x80 + 8 * k)) → t.rv o = s.rv o) ∧
      (l.Nodup → ∀ k ∈ l, t.rv (mbxOff 0 (0x80 + 8 * k)) = f k % 2 ^ 64) := by
  induction l generalizing s with
  | nil => simp
  | cons a r ih =>
    obtain ⟨h1, h2, h3, h4, h5⟩ := ih ((s.busAccess hc).setReg (mbxOff 0 (0x80 + 8 * a)) (f a))
    obtain ⟨g1, g2, g3, g4⟩ := busAccess_frame s hc
    refine ⟨h1.trans g1, h2.trans g2, h3.trans g3, fun o ho => ?_, fun hn k hk => ?_⟩
    · rw [List.foldl_cons, h4 o (fun k hk => ho k (List.mem_cons_of_mem _ hk)), State.rv_setReg_ne _ _ (ho a List.mem_cons_self), g4]
    · rw [List.nodup_cons] at hn
      rcases List.mem_cons.1 hk with rfl | hk
      · rw [List.foldl_cons, h4 _ (fun j hj e => ?_), State.rv_setReg]
        obtain rfl : k = j := by unfold mbxOff at e; omega
        exact hn.1 hj
      · exact h5 hn.2 k hk

theorem block_frame (s : State) (opc : Nat) (c : CmdBlk) :
    (s.block opc c).img = s.img ∧ (s.block opc c).mode = s.mode ∧ (s.block opc c).pans = s.pans ∧
      (s.block opc c).keyBytes = s.keyBytes ∧ ∀ k < 8, (s.block opc c).blkWord k = ((blkWords opc c).getD k 0).toNat := by
  obtain ⟨h1, h2, h3, h4, h5⟩ := setBlk_frame (List.range 8) (fun k => ((blkWords opc c).getD k 0).toNat) s.hostCode s
  obtain ⟨g1, g2, g3, g4⟩ := busAccess_frame (s.putBlk opc c) s.hostCode
  have key : ∀ o, o = 0x50000 ∨ o = 0x50008 ∨ o = 0x50010 ∨ o = 0x50018 → (s.block opc c).rv o = s.rv o := fun o ho =>
    (g4 o).trans (h4 o (fun k hk => by rw [List.mem_range] at hk; unfold mbxOff; omega))
  refine ⟨g1.trans h1, g2.trans h2, g3.trans h3, ?_, fun k hk => ?_⟩
  · simp [State.keyBytes, List.range_succ, key]
  · refine (g4 _).trans ((h5 (by decide) k (List.mem_range.2 hk)).trans ?_)
    exact Nat.mod_eq_of_lt (BitVec.isLt _)

theorem ofBytes_lt (l : List Nat) : ofBytes l < 256 ^ l.length := by
  induction l with
  | nil => simp [ofBytes]
  | cons b t ih => rw [ofBytes, List.length_cons, Nat.pow_succ]; omega

theorem tag_lt (key msg : List Nat) : tagOfBytes key msg < 2 ^ 64 := by
  unfold tagOfBytes
  refine Nat.lt_of_lt_of_le (ofBytes_lt _) (Nat.le_trans (Nat.pow_le_pow_right (by decide) ?_) (by decide : 256 ^ 8 ≤ 2 ^ 64))
  simp <;> omega

theorem blkTag_lt (s : State) : s.blkTag < 2 ^ 64 := tag_lt _ _

/-- A block with its tag passes the checks of R483 where it passes those but the tag's. -/
theorem accepts_signed {s : State} {opc : Nat} {c : CmdBlk} (ha : s.alive = true) (h : restOk (s.block opc c) = true) :
    s.accepts opc (signed s opc c) := by
  obtain ⟨u1, u2, u3, u4, u5⟩ := block_frame s opc (signed s opc c)
  obtain ⟨v1, v2, v3, v4, v5⟩ := block_frame s opc c
  have w : ∀ k < 7, (s.block opc (signed s opc c)).blkWord k = (s.block opc c).blkWord k := by
    intro k hk
    rw [u5 k (by omega), v5 k (by omega)]
    have e : ∀ j < 7, (blkWords opc (signed s opc c)).getD j 0 = (blkWords opc c).getD j 0 := by
      unfold signed blkWords
      intro j hj
      match j, hj with
      | 0, _ | 1, _ | 2, _ | 3, _ | 4, _ | 5, _ | 6, _ => simp only [List.getD_cons_zero, List.getD_cons_succ]
    rw [e k hk]
  have tag : (s.block opc (signed s opc c)).blkTag = (s.block opc c).blkTag := by
    unfold State.blkTag
    rw [u4, v4, List.map_congr_left (fun k hk => by rw [w k (List.mem_range.1 hk)])]
  have wt : (s.block opc (signed s opc c)).blkWord 7 = (s.block opc (signed s opc c)).blkTag := by
    have e : ((blkWords opc (signed s opc c)).getD 7 0) = BitVec.ofNat 64 (s.block opc c).blkTag := rfl
    rw [u5 7 (by decide), tag, e, BitVec.toNat_ofNat, Nat.mod_eq_of_lt (blkTag_lt _)]
  refine ⟨ha, ?_⟩
  generalize s.block opc (signed s opc c) = u at *
  generalize s.block opc c = v at *
  have arg : ∀ k < 6, u.blkArg k = v.blkArg k := fun k hk => w (k + 1) (by omega)
  have e : restOk u = restOk v := by
    have a0 := arg 0 (by decide)
    have a1 := arg 1 (by decide)
    have a2 := arg 2 (by decide)
    have a3 := arg 3 (by decide)
    have a4 := arg 4 (by decide)
    have w0 := w 0 (by decide)
    have w6 := w 6 (by decide)
    simp only [restOk, State.badArg, State.modeListed, State.ownCheck, State.fwOk, State.fwOff, State.fwLen, State.fwBody,
      State.homeOf, State.drained, State.noEvents, State.blkOpc, State.blkDev, State.me, a0, a1, a2, a3, a4, w0, w6, u1, v1,
      u2, v2, u3, v3, u4, v4, List.range_succ, List.range_zero, List.nil_append, List.cons_append, List.any_cons, List.any_nil,
      List.map_cons, List.map_nil]
    congr
  rw [← e] at h
  simp only [restOk, Bool.and_eq_true, Bool.not_eq_true', beq_iff_eq, decide_eq_true_eq, Bool.or_eq_true, Option.isNone_iff_eq_none] at h
  obtain ⟨⟨⟨⟨⟨⟨⟨⟨⟨b1, b2⟩, b3⟩, b4⟩, b5⟩, b6⟩, b7⟩, b8⟩, b9⟩, b10⟩ := h
  unfold State.cmdCheck
  dsimp only
  rw [if_neg (by simp [b1]), if_neg (by simp [b2]), if_neg (by simp [wt]), if_neg (by simp [b3]), if_neg, if_neg, if_neg,
    if_neg (by simp [b8]), if_neg (by simp [b9]), b10]
  · omega
  · rintro ⟨x, y⟩
    rcases b5 with b5 | b5
    · simp_all
    · omega
  · rintro ⟨x, y⟩
    rcases b4 with b4 | b4
    · simp_all
    · exact y b4
/-- The keyed state in mode m, homed, with code of one word for the pan engines at the start of the image window. -/
def ready (m : Mode) : State := let s := homed (keyed m); { s with img := { s.img with win := [(0, 4)] } }

/-- The new key of RFC 3394, section 4.6, wrapped. -/
def wrapped : CmdBlk := { blk with
  a0 := 0xF410B8C404F4C928, a1 := 0x26F887FB5CB3CCCB, a2 := 0x26D30ED8E286573F, a3 := 0x3BF4991AE7F0C7CB, a4 := 0x21DD027A9B8B98FB }

/-- RFC 3394, section 4.6: the wrapped key unwraps to the key data. -/
theorem test_key_unwrap : kwUnwrap (List.range 32) ([wrapped.a0, wrapped.a1, wrapped.a2, wrapped.a3, wrapped.a4].map
    (fun a => bytesOf a.toNat 8)).flatten = some [0x00, 0x11, 0x22, 0x33, 0x44, 0x55, 0x66, 0x77, 0x88, 0x99, 0xAA, 0xBB, 0xCC, 0xDD,
      0xEE, 0xFF, 0, 1, 2, 3, 4, 5, 6, 7, 8, 9, 10, 11, 12, 13, 14, 15] := by decide +kernel

theorem keyed_bytes (m : Mode) : (keyed m).keyBytes = List.range 32 := by cases m <;> decide +kernel

theorem test_w_CriticalCommandResults :
    (ready .blank).accepts 1 (signed (ready .blank) 1 { blk with a0 := 0xFFFFFFFF }) ∧
    (ready .hold).accepts 2 (signed (ready .hold) 2 blk) ∧
    ((ready .prove).accepts 3 (signed (ready .prove) 3 { blk with a0 := 9 }) ∧ (ready .prove).mode.bist = []) ∧
    (ready .service).accepts 3 (signed (ready .service) 3 { blk with a0 := 10 }) ∧
    (ready .service).accepts 3 (signed (ready .service) 3 { blk with a0 := 5 }) ∧
    (ready .service).accepts 5 (signed (ready .service) 5 { blk with a0 := 0xFFFFFFFFFFF80 }) ∧
    (ready .blank).accepts 6 (signed (ready .blank) 6 { blk with a0 := 1 }) ∧
    (ready .prove).accepts 7 (signed (ready .prove) 7 { blk with a0 := 1, a1 := 0x1000000000, a2 := 0xFCB809FDC6D7CB76 }) ∧
    (ready .blank).accepts 8 (signed (ready .blank) 8 { blk with a0 := 63 }) ∧
    (ready .test).accepts 9 (signed (ready .test) 9 { blk with a0 := 7 }) ∧
    (ready .service).accepts 10 (signed (ready .service) 10 { blk with a0 := 7 }) := by
  refine ⟨accepts_signed ?_ ?_, accepts_signed ?_ ?_, ⟨accepts_signed ?_ ?_, ?_⟩, accepts_signed ?_ ?_, accepts_signed ?_ ?_,
    accepts_signed ?_ ?_, accepts_signed ?_ ?_, accepts_signed ?_ ?_, accepts_signed ?_ ?_, accepts_signed ?_ ?_,
    accepts_signed ?_ ?_⟩ <;> decide +kernel

/-- DRAIN with a transaction of a pan, TEST with a test that runs, and an open and a shut pan. -/
def busyDrain : State := (ready .drain).setPan 3 { trks := [{ id := 2, psi := 1, tag := 1 }] }
def selfTesting : State := let s := ready .test; { s with mode := { s.mode with bist := [3] } }
def openPan (m : Mode) : State := (ready m).setPan 3 { dataEn := true }

theorem test_w_CriticalCommandResults_modes :
    ((ready .drain).accepts 3 (signed (ready .drain) 3 { blk with a0 := 9 }) ∧ (ready .drain).drained = true) ∧
    (busyDrain.accepts 3 (signed busyDrain 3 { blk with a0 := 9 }) ∧ busyDrain.drained = false) ∧
    ((ready .test).accepts 3 (signed (ready .test) 3 { blk with a0 := 5 }) ∧ (ready .test).mode.bist = []) ∧
    (selfTesting.accepts 3 (signed selfTesting 3 { blk with a0 := 5 }) ∧ selfTesting.mode.bist ≠ [] ∧ selfTesting.mode.cmdWait = []) ∧
    ((ready .recover).accepts 3 (signed (ready .recover) 3 { blk with a0 := 6 }) ∧ (ready .recover).mode.busy = false) ∧
    (ready .recover).accepts 3 (signed (ready .recover) 3 { blk with a0 := 7 }) ∧
    ((openPan .service).accepts 3 (signed (openPan .service) 3 { blk with a0 := 11 }) ∧
      (openPan .service).pans.any (fun x => x.2.dataEn) = true) ∧
    ((ready .train).accepts 3 (signed (ready .train) 3 { blk with a0 := 11 }) ∧
      (ready .train).pans.any (fun x => x.2.dataEn) = false) ∧
    ((ready .service).accepts 3 (signed (ready .service) 3 { blk with a0 := 0x1A, a1 := 1 }) ∧
      cmdModeOf ((0x1A : BitVec 64).toNat % 16) = some .recover ∧ (0x1A : BitVec 64).toNat.testBit 4 = true ∧
      schedule (ready .service).now 1 = .pending) ∧
    (let s := at_ 5 (inMode .service)
     let u : State := { s with mode := { s.mode with cmdPend := some (5, .recover) } }
     u.mode.pend = none ∧ reached u.now 5 = true ∧ u.mode.busy = false) := by
  refine ⟨⟨accepts_signed ?_ ?_, ?_⟩, ⟨accepts_signed ?_ ?_, ?_⟩, ⟨accepts_signed ?_ ?_, ?_⟩, ⟨accepts_signed ?_ ?_, ?_⟩,
    ⟨accepts_signed ?_ ?_, ?_⟩, accepts_signed ?_ ?_, ⟨accepts_signed ?_ ?_, ?_⟩, ⟨accepts_signed ?_ ?_, ?_⟩,
    ⟨accepts_signed ?_ ?_, ?_⟩, ?_⟩ <;> decide +kernel

/-- KEY_ROTATE: the wrapped key is accepted, and unwraps. -/
theorem test_w_CriticalCommandResults_rotate : (keyed .blank).accepts 4 (signed (keyed .blank) 4 wrapped) ∧
    (kwUnwrap (keyed .blank).keyBytes ([wrapped.a0, wrapped.a1, wrapped.a2, wrapped.a3, wrapped.a4].map
      (fun a => bytesOf a.toNat 8)).flatten).isSome = true := by
  have e : (kwUnwrap (keyed .blank).keyBytes ([wrapped.a0, wrapped.a1, wrapped.a2, wrapped.a3, wrapped.a4].map
      (fun a => bytesOf a.toNat 8)).flatten).isSome = true := by rw [keyed_bytes, test_key_unwrap]; rfl
  obtain ⟨-, -, -, h4, h5⟩ := block_frame (keyed .blank) 4 wrapped
  refine ⟨accepts_signed (by decide +kernel) ?_, e⟩
  have o : ((keyed .blank).block 4 wrapped).ownCheck = none := by
    unfold State.ownCheck
    rw [show ((keyed .blank).block 4 wrapped).blkOpc = 4 by decide +kernel]
    simp only [h4, State.blkArg, List.range_succ, List.range_zero, List.nil_append, List.cons_append, List.map_cons, List.map_nil,
      h5 1 (by decide), h5 2 (by decide), h5 3 (by decide), h5 4 (by decide), h5 5 (by decide)]
    rw [if_neg]
    rw [keyed_bytes, show ([bytesOf ((blkWords 4 wrapped).getD 1 0).toNat 8, bytesOf ((blkWords 4 wrapped).getD 2 0).toNat 8,
      bytesOf ((blkWords 4 wrapped).getD 3 0).toNat 8, bytesOf ((blkWords 4 wrapped).getD 4 0).toNat 8,
      bytesOf ((blkWords 4 wrapped).getD 5 0).toNat 8] : List (List Nat)) = [wrapped.a0, wrapped.a1, wrapped.a2, wrapped.a3,
      wrapped.a4].map (fun a => bytesOf a.toNat 8) from rfl, test_key_unwrap]
    simp
  unfold restOk
  rw [o]
  decide +kernel

theorem test_w_CriticalCommandResults_refused : State.reset.alive = true ∧ (State.reset.block 11 blk).cmdCheck = some 2 := by
  decide +kernel
/-! An image that passes every check: one regulator address for every bed, no ranges, a route to this device alone, and one word
of code for the pan engines and for the cores. Its CMAC is not computed. -/

def imgWords : Sparse (BitVec 64) :=
  [(0, 0x474D494E4F535550), (1, 0xFF00F64000010001), (2, 0x5BF8), (4, 0x10000000001), (5, 0xDAAD70DA00000040),
   (6, 0x14000000002), (7, 0xFD548A2500005800), (8, 0x594000000003), (9, 0x9BF8724600000200), (10, 0x5B4000000004),
   (11, 0xBCD65EF000000080), (12, 0x5BC000000005), (13, 0x8474360100000010), (14, 0x5BD000000006), (15, 0x7C0A758600000020),
   (16, 0x5BF000000007), (32, 0x808080808080808), (2856, 0x8000), (2920, 0x1111111111111111), (2921, 0xFFFFFFFFFFFFFFFF),
   (2924, 0x93A80000004B0), (2936, 0x4), (2938, 0x4)]

def imgTag : BitVec 64 := BitVec.ofNat 64 (tagOfBytes (List.range 32) (allBytes imgWords 2942))

/-- The state with that image in the window and its load in progress. -/
def imaged : State := let s := keyed .load; { s with img := { s.img with busy := true, total := 23544, win := imgWords ++ [(2942, imgTag)] } }

def imgSects : List Sect := [⟨1, 256, 64, 0xDAAD70DA⟩, ⟨2, 320, 0x5800, 0xFD548A25⟩, ⟨3, 22848, 512, 0x9BF87246⟩,
  ⟨4, 23360, 128, 0xBCD65EF0⟩, ⟨5, 23488, 16, 0x84743601⟩, ⟨6, 23504, 32, 0x7C0A7586⟩, ⟨7, 23536, 0, 0⟩]

/-- The register of CRC-32C after a list of bytes, each step computed before the next. -/
def crcEager (l : List Nat) (c : Nat) : Nat :=
  match l with
  | [] => c
  | b :: t => if c < 2 ^ 32 then crcEager t (crc32cByte c b) else c

theorem crcSteps_lt (n c : Nat) (h : c < 2 ^ 32) : crcSteps 0x82F63B78 c n < 2 ^ 32 := by
  induction n generalizing c with
  | zero => exact h
  | succ n ih =>
    refine ih _ ?_
    split
    · exact Nat.xor_lt_two_pow (by omega) (by decide)
    · omega

theorem crc_eager (l : List Nat) (c : Nat) (h : c < 2 ^ 32) : crc32cRun c l = crcEager l c := by
  induction l generalizing c with
  | nil => rfl
  | cons b t ih =>
    have b' : crc32cByte c b < 2 ^ 32 := crcSteps_lt 8 _ (Nat.xor_lt_two_pow h (by omega))
    rw [crcEager, if_pos h, ← ih _ b']
    rfl

theorem allBytes_of_none (n : Nat) : allBytes [] n = List.replicate (8 * n) 0 := by
  have h : ∀ k, bytesOf (dwOf [] k) 8 = List.replicate 8 0 := fun k => by
    simp only [dwOf, sget]
    decide
  induction n with
  | zero => rfl
  | succ n ih =>
    unfold allBytes at *
    rw [List.range_succ, List.map_append, List.flatten_append, ih, List.map_cons, List.map_nil, List.flatten_cons, h]
    rw [List.flatten_nil, List.append_nil, List.replicate_append_replicate, Nat.mul_succ]

theorem crc_zeros_more {a c d : Nat} (b : Nat) (hc : c < 2 ^ 32) (h : crcEager (List.replicate a 0) c = d) :
    crc32cRun c (List.replicate (a + b) 0) = crc32cRun d (List.replicate b 0) := by
  rw [← List.replicate_append_replicate, ← h, ← crc_eager _ c hc]
  exact List.foldl_append ..

theorem zeros_0 : crcEager (List.replicate 1024 0) 0xFFFFFFFF = 0x11512183 := by decide +kernel
theorem zeros_1 : crcEager (List.replicate 1024 0) 0x11512183 = 0x5B767CB0 := by decide +kernel
theorem zeros_2 : crcEager (List.replicate 1024 0) 0x5B767CB0 = 0xDF52BE5C := by decide +kernel
theorem zeros_3 : crcEager (List.replicate 1024 0) 0xDF52BE5C = 0x6706BE76 := by decide +kernel
theorem zeros_4 : crcEager (List.replicate 1024 0) 0x6706BE76 = 0xC8ACB935 := by decide +kernel
theorem zeros_5 : crcEager (List.replicate 1024 0) 0xC8ACB935 = 0xC5C91BBE := by decide +kernel
theorem zeros_6 : crcEager (List.replicate 1024 0) 0xC5C91BBE = 0xD3C33ED2 := by decide +kernel
theorem zeros_7 : crcEager (List.replicate 1024 0) 0xD3C33ED2 = 0x6FBBB9DC := by decide +kernel
theorem zeros_8 : crcEager (List.replicate 1024 0) 0x6FBBB9DC = 0x446BB5EB := by decide +kernel
theorem zeros_9 : crcEager (List.replicate 1024 0) 0x446BB5EB = 0x94DE4CDE := by decide +kernel
theorem zeros_10 : crcEager (List.replicate 1024 0) 0x94DE4CDE = 0x8BBF028D := by decide +kernel
theorem zeros_11 : crcEager (List.replicate 1024 0) 0x8BBF028D = 0xDEB3E59A := by decide +kernel
theorem zeros_12 : crcEager (List.replicate 1024 0) 0xDEB3E59A = 0x65E425CD := by decide +kernel
theorem zeros_13 : crcEager (List.replicate 1024 0) 0x65E425CD = 0xCFD50058 := by decide +kernel
theorem zeros_14 : crcEager (List.replicate 1024 0) 0xCFD50058 = 0x8E337ACB := by decide +kernel
theorem zeros_15 : crcEager (List.replicate 1024 0) 0x8E337ACB = 0x6B9BF47A := by decide +kernel
theorem zeros_16 : crcEager (List.replicate 1024 0) 0x6B9BF47A = 0xEA261619 := by decide +kernel
theorem zeros_17 : crcEager (List.replicate 1024 0) 0xEA261619 = 0xF229AC59 := by decide +kernel
theorem zeros_18 : crcEager (List.replicate 1024 0) 0xF229AC59 = 0xA0C2C2FC := by decide +kernel
theorem zeros_19 : crcEager (List.replicate 1024 0) 0xA0C2C2FC = 0x914BDD80 := by decide +kernel
theorem zeros_20 : crcEager (List.replicate 1024 0) 0x914BDD80 = 0x807E16A6 := by decide +kernel
theorem zeros_21 : crcEager (List.replicate 1024 0) 0x807E16A6 = 0x2AB75DA := by decide +kernel

theorem zeros_of_map : crc32cRun 0xFFFFFFFF (List.replicate 0x5800 0) = 0x2AB75DA := by
  refine (crc_zeros_more 21504 (by decide) zeros_0).trans ?_
  refine (crc_zeros_more 20480 (by decide) zeros_1).trans ?_
  refine (crc_zeros_more 19456 (by decide) zeros_2).trans ?_
  refine (crc_zeros_more 18432 (by decide) zeros_3).trans ?_
  refine (crc_zeros_more 17408 (by decide) zeros_4).trans ?_
  refine (crc_zeros_more 16384 (by decide) zeros_5).trans ?_
  refine (crc_zeros_more 15360 (by decide) zeros_6).trans ?_
  refine (crc_zeros_more 14336 (by decide) zeros_7).trans ?_
  refine (crc_zeros_more 13312 (by decide) zeros_8).trans ?_
  refine (crc_zeros_more 12288 (by decide) zeros_9).trans ?_
  refine (crc_zeros_more 11264 (by decide) zeros_10).trans ?_
  refine (crc_zeros_more 10240 (by decide) zeros_11).trans ?_
  refine (crc_zeros_more 9216 (by decide) zeros_12).trans ?_
  refine (crc_zeros_more 8192 (by decide) zeros_13).trans ?_
  refine (crc_zeros_more 7168 (by decide) zeros_14).trans ?_
  refine (crc_zeros_more 6144 (by decide) zeros_15).trans ?_
  refine (crc_zeros_more 5120 (by decide) zeros_16).trans ?_
  refine (crc_zeros_more 4096 (by decide) zeros_17).trans ?_
  refine (crc_zeros_more 3072 (by decide) zeros_18).trans ?_
  refine (crc_zeros_more 2048 (by decide) zeros_19).trans ?_
  refine (crc_zeros_more 1024 (by decide) zeros_20).trans ?_
  refine (crc_zeros_more 0 (by decide) zeros_21).trans ?_
  rfl

theorem test_crc_of_map : crc32c (allBytes (sslice imaged.img.win 40 2816) 2816) = 0xFD548A25 := by
  rw [show sslice imaged.img.win 40 2816 = [] by decide +kernel, allBytes_of_none, crc32c, show 8 * 2816 = 0x5800 from rfl,
    zeros_of_map]
  rfl

theorem imaged_layout : layout imaged.img.win 23544 = .ok imgSects := by
  have h : (match layout imaged.img.win 23544 with | .ok l => decide (l = imgSects) | .error _ => false) = true := by decide +kernel
  split at h
  · rename_i l e
    rw [e, of_decide_eq_true h]
  · exact absurd h (by decide)

theorem imaged_crc : badCrc imaged.img.win imgSects = none := by
  have h1 : crc32c (allBytes (sslice imaged.img.win (256 / 8) (64 / 8)) (64 / 8)) = 0xDAAD70DA := by
    rw [crc32c, crc_eager _ _ (by decide)]
    decide +kernel
  have h3 : crc32c (allBytes (sslice imaged.img.win (22848 / 8) (512 / 8)) (512 / 8)) = 0x9BF87246 := by
    rw [crc32c, crc_eager _ _ (by decide)]
    decide +kernel
  have h4 : crc32c (allBytes (sslice imaged.img.win (23360 / 8) (128 / 8)) (128 / 8)) = 0xBCD65EF0 := by
    rw [crc32c, crc_eager _ _ (by decide)]
    decide +kernel
  have h5 : crc32c (allBytes (sslice imaged.img.win (23488 / 8) (16 / 8)) (16 / 8)) = 0x84743601 := by
    rw [crc32c, crc_eager _ _ (by decide)]
    decide +kernel
  have h6 : crc32c (allBytes (sslice imaged.img.win (23504 / 8) (32 / 8)) (32 / 8)) = 0x7C0A7586 := by
    rw [crc32c, crc_eager _ _ (by decide)]
    decide +kernel
  have h7 : crc32c (allBytes (sslice imaged.img.win (23536 / 8) (0 / 8)) (0 / 8)) = 0x0 := by
    rw [crc32c, crc_eager _ _ (by decide)]
    decide +kernel
  have h2 : crc32c (allBytes (sslice imaged.img.win (320 / 8) (22528 / 8)) (22528 / 8)) = 0xFD548A25 := by
    rw [show 320 / 8 = 40 from rfl, show 22528 / 8 = 2816 from rfl]
    exact test_crc_of_map
  unfold badCrc imgSects
  rw [List.find?_eq_none.2 (by
    intro x hx
    simp only [List.mem_cons, List.not_mem_nil, or_false] at hx
    rw [bne_iff_ne, ne_eq, Decidable.not_not]
    rcases hx with rfl | rfl | rfl | rfl | rfl | rfl | rfl
    all_goals dsimp only
    · exact h1
    · exact h2
    · exact h3
    · exact h4
    · exact h5
    · exact h6
    · exact h7), Option.map_none]

theorem imaged_bodies : imaged.badBodies imgSects = none := by
  unfold State.badBodies
  dsimp only
  rw [imaged_crc]
  exact Option.isNone_iff_eq_none.1 (by decide +kernel)

theorem sget_append_ne {m : Sparse (BitVec 64)} {k n : Nat} (x : BitVec 64) (h : k ≠ n) : sget (m ++ [(n, x)]) k 0 = sget m k 0 := by
  induction m with
  | nil => simp [sget, Ne.symm h]
  | cons a t ih =>
    obtain ⟨i, v⟩ := a
    rw [List.cons_append, sget, sget, ih]

theorem sget_append_last {m : Sparse (BitVec 64)} {n : Nat} (x : BitVec 64) (h : ∀ p ∈ m, p.1 ≠ n) : sget (m ++ [(n, x)]) n 0 = x := by
  induction m with
  | nil => simp [sget]
  | cons a t ih =>
    obtain ⟨i, v⟩ := a
    rw [List.cons_append, sget, if_neg (fun e => h (i, v) (by simp) e), ih (fun p hp => h p (List.mem_cons_of_mem _ hp))]

theorem imaged_win : imaged.img.win = imgWords ++ [(2942, imgTag)] := by
  unfold imaged
  rfl

theorem imaged_bytes : allBytes imaged.img.win 2942 = allBytes imgWords 2942 := by
  rw [imaged_win]
  unfold allBytes dwOf
  rw [List.map_congr_left]
  intro k hk
  rw [List.mem_range] at hk
  rw [sget_append_ne imgTag (show k ≠ 2942 by omega)]

theorem imgWords_before : ∀ p ∈ imgWords, p.1 ≠ 2942 := by
  have h : imgWords.all (fun p => p.1 != 2942) = true := by decide +kernel
  intro p hp
  simpa using List.all_eq_true.1 h p hp

theorem imaged_word : dwOf imaged.img.win 2942 = imgTag.toNat := by
  unfold dwOf
  rw [imaged_win, sget_append_last imgTag imgWords_before]

theorem imaged_key : imaged.keyBytes = List.range 32 := by decide +kernel

theorem toNat_ofNat_of_lt (n : Nat) (h : n < 2 ^ 64) : (BitVec.ofNat 64 n).toNat = n := by
  rw [BitVec.toNat_ofNat, Nat.mod_eq_of_lt h]

theorem imgTag_nat : imgTag.toNat = tagOfBytes (List.range 32) (allBytes imgWords 2942) := by
  unfold imgTag
  exact toNat_ofNat_of_lt _ (tag_lt _ _)

/-- The tag stands after the words that it is the CMAC of. -/
theorem imaged_tag : tagOfBytes imaged.keyBytes (allBytes imaged.img.win 2942) = dwOf imaged.img.win 2942 := by
  rw [imaged_bytes, imaged_key, imaged_word, imgTag_nat]

theorem imaged_ok : imaged.checkImage imaged.img.total = .ok imgSects := by
  unfold State.checkImage
  dsimp only
  rw [show badHeader imaged.img.win = none by decide +kernel]
  dsimp only
  rw [if_neg (by decide +kernel), if_neg (by decide +kernel), show imaged.img.total = 23544 from rfl, imaged_layout]
  dsimp only
  rw [show 23544 / 8 - 1 = 2942 from rfl, if_neg (fun h => h imaged_tag), show imaged.staleGen (leOf imaged.img.win 10 2) = none by decide +kernel]
  have h := imaged_bodies
  generalize imaged.badBodies imgSects = x at *
  subst h
  rfl

theorem test_w_ImageAndCommandChecks_load : (imaged.mode.cur = .load ∧ imaged.img.busy = true ∧ imaged.holding = false) ∧
    imaged.checkImage imaged.img.total = .ok imgSects ∧
    (let s : State := { (keyed .load) with img := { (keyed .load).img with busy := true, win := [(0, 1)] } }
     (match s.checkImage s.img.total with | .ok _ => false | .error r => r.code == 2) = true) :=
  ⟨by decide +kernel, imaged_ok, by decide +kernel⟩

theorem test_w_ImageAndCommandChecks :
    (let s := keyed .blank
     (11 < 2 ^ 16 ∧ s.img.authBusy = false ∧ s.img.keySet = true ∧ s.img.cntExh = false) ∧
     (signed s 1 blk).dev.toNat = s.me ∧ ({ blk with dev := 1 } : CmdBlk).dev.toNat ≠ s.me ∧
     s.img.counter < blk.counter.toNat ∧ ({ blk with counter := 0 } : CmdBlk).counter.toNat ≤ s.img.counter ∧
     ({ blk with rsv := 1 } : CmdBlk).rsv ≠ 0 ∧ blk.a0.toNat < 2 ^ 32 ∧ s.mode.cur = .blank ∧ s.mode.busy = false ∧
     (keyed .load).mode.cur ≠ .blank) := by decide +kernel
/-! ### The home -/

/-- The state in SERVICE, homed. -/
def svc : State := homed (inMode .service)

/-- A read of line 0 by agent 1 in the queue of port 1 at pan 0, in mode m. -/
def aReq (opc : BitVec 4) : Req := { opc := opc, src := 1, tag := 5 }
def queued (s : State) (l : List BMsg) : State := s.updBed 0 (fun x => { x with queues := [(brineQ 0 1 0, { msgs := l })] })
def oneReq (s : State) (r : Req) : State := queued s [{ body := .req r }]
def withPan (s : State) (x : Pan) : State := s.setPan 0 x
def running : Trk := { id := 0, psi := psiOf 0, tag := tagOf 0, ph := .run }

/-- What a request of opcode opc at the head of its queue of pan 0 meets. -/
def admits (s : State) (opc : Nat) : Bool :=
  let m := (s.queue 0 (brineQ 0 1 0)).msgs.headD { body := .mem 0 false }
  !m.broken && (match m.request with | some r => r.opc.toNat == opc | none => false) && !m.partial_ && m.taken == none &&
    !s.throttled 0 && s.homeOpen && !s.switching 0
def slotOf (s : State) : Option State := s.slot (panArb 0 0) (s.admAskers 0) 1
def chainFull : Pan := { trks := (List.range 24).map (fun k => { running with id := k, ph := if k = 0 then .run else .chained, ord := k }) }

theorem test_w_HomeRequestTaken_simple : svc.homeOpen = true ∧ svc.switching 0 = false ∧ (svc.queue 0 (brineQ 0 1 0)).msgs = [] ∧
    (let m : BMsg := { body := .req (aReq 0), cells := [{ no := 0, rsv := false, link := 0x41 }] }
     m.broken = true ∧ ((queued svc [m]).queue 0 (brineQ 0 1 0)).msgs = m :: []) ∧
    (let m : BMsg := { body := .req (aReq 0), taken := some 7 }
     m.broken = false ∧ m.taken = some 7 ∧ m.partial_ = false) ∧
    ({ svc with sl := { duty := 0 } }.updBed 0 (fun x => { x with phase := 12 })).throttled 0 = true := by decide +kernel

theorem test_w_HomeRequestTaken :
    (∀ opc : Fin 6, admits (oneReq svc (aReq (BitVec.ofNat 4 opc))) opc = true ∧
      (slotOf (oneReq svc (aReq (BitVec.ofNat 4 opc)))).isSome = true ∧
      (svc.pan 0).newId false = some 0) ∧
    (admits (oneReq svc (aReq 7)) 7 = true ∧ reqAtomic (aReq 7) = true ∧ (svc.pan 0).combDue = false ∧
      (slotOf (oneReq svc (aReq 8))).isSome = true) ∧
    (let s := oneReq svc (aReq 0)
     (s.slot (panArb 0 0) (s.admAskers 0) 0) = none) ∧
    (let s := oneReq (homed (inMode .drain)) (aReq 3)
     s.mode.cur = .drain ∧ reqPosted (aReq 3) = false ∧ admits s 3 = true ∧ (slotOf s).isSome = true) ∧
    (let s := (oneReq (withPan svc chainFull) (aReq 0)).setReg (panOff 0 0x510) 0x170000
     s.chainMax 0 = 23 ∧ ((s.pan 0).chain (psiOf (s.localAddr 0)) (tagOf (s.localAddr 0))).length = 23 ∧
       (s.pan 0).mayStart { id := 0, rq := aReq 0, src := 1, psi := psiOf 0, tag := tagOf 0, ord := 0 } = false ∧
       decide (s.nackLimit 0 ≤ (aReq 0).ncnt.toNat) = false ∧ admits s 0 = true ∧ (slotOf s).isSome = true) := by
  decide +kernel

theorem test_w_HomeRequestTaken_wb :
    (let s := oneReq svc (aReq 6)
     admits s 6 = true ∧ (slotOf s).isSome = true ∧ (s.pan 0).lost.contains (psiOf 0) = false ∧
       (s.pan 0).trks.find? (fun u => u.holds (psiOf 0) (tagOf 0)) = none ∧ (s.pan 0).newId false = some 0) ∧
    (let s := oneReq (withPan svc { lost := [psiOf 0] }) (aReq 6)
     (slotOf s).isSome = true ∧ (s.pan 0).lost.contains (psiOf (s.localAddr 0)) = true) ∧
    (let s := oneReq (withPan svc { trks := [running] }) (aReq 6)
     (slotOf s).isSome = true ∧ (s.pan 0).trks.find? (fun u => u.holds (psiOf 0) (tagOf 0)) = some running ∧
       (s.meetWb 0 running (psiOf 0) (tagOf 0) (aReq 6) false).isSome = true) := by decide +kernel

/-- A pan with no free tracker entry, its stack resting. -/
def restFull : State := oneReq ((withPan svc { trks := (List.range 736).map (fun k => { running with id := k, tag := k + 1 }) }).updBed 0
  (fun x => { x with rest := 2 })) (aReq 0)

theorem test_w_HomeRequestTaken_rest : (restFull.pan 0).newId false = none ∧ (restFull.bed 0).rest ≠ 0 ∧ admits restFull 0 = true := by
  decide +kernel

theorem test_w_HomeRequestTaken_rest_slot : (slotOf restFull).isSome = true := by decide +kernel

/-- A requester of number n. -/
def anAsker (n : Nat) : Asker := { id := n, num := n, group := 0 }

theorem test_w_HomeWaits :
    ([anAsker 1, anAsker 2] ≠ [] ∧ (svc.winner (panArb 0 0) [anAsker 1, anAsker 2]) = some (anAsker 1)) ∧
    (let t : Trk := { running with id := 3, ph := .chained }
     let s := withPan svc { trks := [t] }
     s.homeOpen = true ∧ (((s.pan 0).chain (psiOf 0) (tagOf 0)).filter (fun t => (s.pan 0).mayStart t)) = [t] ∧
       s.winner (chainArb 0 (psiOf 0) (tagOf 0)) ([t].map Trk.asker) = some t.asker) ∧
    ((withPan svc { trks := [{ running with allocWait := true }] }).pan 0).trk 0 = some { running with allocWait := true } ∧
    ((withPan svc { trks := [{ running with ph := .mdWait }] }).mdAccess 0 0 false).1 = false ∧
    ((withPan svc { trks := [{ running with ph := .mdWait }], mdc := [(0, { valid := true })] }).mdAccess 0 0 false).1 = true ∧
    ({ running with wbFull := true } : Trk).ph = .run ∧
    (let s := fun (r : SRead) => withPan svc { trks := [{ running with reads := [r] }] }
     (s .md).stackUp 0 = true ∧ ((s .md).chanSlot 0 0).isSome = true ∧ ((s (.line 14)).chanSlot 0 0).isSome = true ∧
       ((s (.victim 3)).chanSlot 0 0).isSome = true) ∧
    (svc.setArb (panArb 0 0) { hold := some (2, 100) }).winner (panArb 0 0) [anAsker 1, anAsker 2] = some (anAsker 2) ∧
    ((svc.setArb (panArb 0 0) { hold := some (2, 100) }).arb (panArb 0 0)).hold = some (2, 100) := by decide +kernel

/-- A metadata block whose way 3 holds tag 9, valid and dirty. -/
def mdBlk : BitVec 1024 := mdSetWord 0 3 (Way.toNat { tag := 9, v := true, d := true, ust := 1 })

/-- Pan 0 with a block in the write queue that is due, an entry of the write buffer, and one of the combining buffer. -/
def bufs : State := at_ 5000 (withPan svc { mdwq := [{ psi := 0, blk := mdBlk, at_ := 4000 }], wb := [{ psi := 4, tag := 5, data := 7 }] })

/-- Pan 0 with a write of the buffer, a read and an atomic out at port 2, which has answered nothing yet. -/
def out (kind : Nat) (resent : Bool) : State :=
  (withPan svc { wb := [{ psi := 4, tag := 5, data := 7, sent := true, resent := resent }], trks := [{ running with atom := true, mem := true }] }).updMp 2
    (fun x => { x with reqs := [{ pan := 0, kind := kind, psi := 4, tag := 5, at_ := 0, resent := resent }] })

/-- Decoder 0 maps local memory to port 2; the port is retired. -/
def mapped (s : State) : State := ((s.setReg 0x2008 (2 ^ 45)).setReg 0x2010 1).setReg 0x2018 4
def retired (s : State) : State := let u := mapped s; { u with img := { u.img with retireMp := 4 } }

theorem test_w_PanBuffersAndMemory_ports :
    ((mapped bufs).homeOpen = true ∧ (mapped bufs).portGone 0 4 5 = none ∧ ((mapped bufs).pan 0).oldestHeld.isSome = true) ∧
    ((mapped bufs).linePort 0 4 5 = some (2, 0)) ∧
    ((retired bufs).portGone 0 4 5 = some (2, 0) ∧ (((retired bufs).updPan 0 (fun x => x.wbDrop 4 5)).faultTrk 0 4 5 2).isSome = true) ∧
    ((withPan { svc with mode := { cur := .service, busy := true, target := .hold } } { flushing := true }).pan 0).flushing = true ∧
    (let e : CombEntry := { psi := 0, tag := 9, data := 1, last := 0 }
     let s := fun (sent : Bool) => withPan svc { comb := [e], dataEn := true, wb := [{ psi := 0, tag := 9, data := 0, sent := sent }] }
     ((s false).pan 0).wbSent 0 9 = false ∧ ((s true).pan 0).wbSent 0 9 = true) ∧
    (let s := mapped (withPan svc { trks := [running] })
     (s.pan 0).trk 0 = some running ∧ s.linePort 0 running.psi running.tag = some (2, 0)) ∧
    (let rd := fun (r : MReq) => r.pan == 0 && r.trk == 0 && (r.kind == 0 || r.kind == 5)
     ((out 0 false).findMemReq rd).map (fun x => (x.2.kind, x.2.sent)) = some (0, true)) := by decide +kernel

theorem test_w_PanBuffersAndMemory :
    (bufs.stackUp 0 = true ∧ (bufs.pan 0).mdwq[0]? = some { psi := 0, blk := mdBlk, at_ := 4000 } ∧
      bufs.mdwqDue 0 0 { psi := 0, blk := mdBlk, at_ := 4000 } = true ∧ (bufs.chanSlot 0 1).isSome = true) ∧
    (bufs.pan 0).oldestHeld = some { psi := 4, tag := 5, data := 7 } ∧
    (let mine := fun (r : MReq) => r.pan == 0 && r.kind == 1 && r.psi == 4 && r.tag == 5
     ∀ b : Bool, (((out 1 b).pan 0).wbFind 4 5).isSome = true ∧ (((out 1 b).findMemReq mine).map (fun x => x.2.sent)) = some true ∧
       ((out 1 b).fromMem 0 2 1 0 false).isSome = true ∧
       ((((out 1 b).dropMemReq mine).updPan 0 (fun x => x.wbDrop 4 5)).combDrain 0 |>.faultTrk 0 4 5 1).isSome = true) ∧
    (let e : CombEntry := { psi := 0, tag := 9, data := 1, last := 0 }
     let s := (withPan svc { comb := [e] }).updBed 0 (fun x => { x with phase := 12 * 65536 })
     (s.pan 0).combFind 0 9 = some e ∧ s.combIdle 0 ≤ s.panCycles 0 - e.last ∧ (s.pan 0).dataEn = false ∧
       (((s.pan 0).combDrop 0 9).wbPut 0 9 e.data false s.stamp16).isSome = true) ∧
    (let e : CombEntry := { psi := 0, tag := 9, data := 1, last := 0 }
     let s := withPan svc { comb := [e], dataEn := true, mdc := [(0, { valid := true, blk := mdBlk })] }
     (s.mdLook 0 0).1 = some mdBlk ∧ (findWay mdBlk 9).map (fun x => (x.1, x.2.v)) = some (3, true)) ∧
    (let rd := fun (r : MReq) => r.pan == 0 && r.trk == 0 && (r.kind == 0 || r.kind == 5)
     ∀ b : Bool, (((out 0 b).findMemReq rd).map (fun x => (x.1, x.2.resent))) = some (2, b) ∧
       ((out 0 b).fromMem 0 2 2 0 true).isSome = true ∧ ((out 0 b).fromMem 0 2 1 0 false).isSome = true) ∧
    (let at_ := fun (r : MReq) => r.pan == 0 && r.trk == 0 && r.kind == 2
     (((out 2 false).findMemReq at_).map (fun x => x.2.sent)) = some true ∧ ((out 2 false).fromMem 0 2 2 0 true).isSome = true) := by
  decide +kernel

theorem test_w_PanAtomControl : svc.regOpen (panOff 0 0x800) = true ∧ (0x100001 : BitVec 64).toNat.testBit 0 = true ∧
    (∀ e ∈ ({ comb := [{ psi := 0, tag := 9, data := 1, last := 0 }] } : Pan).comb, svc.panCycles 0 - e.last < max 16 (bitsOf 0x100001 31 16)) ∧
    (0x100000 : BitVec 64).toNat.testBit 0 = false ∧
    { State.reset with mode := { cur := .test, bist := [4] } }.regOpen (panOff 0 0x800) = false := by decide +kernel
/-- An active link with credit on every channel. -/
def upLink : Link := { st := .active, credTx := (List.range 7).map (fun c => (c, 32)), credAdv := (List.range 7).map (fun c => (c, 32)) }

/-- The state s with agents 0 to 3 of port 0 present and its link active; agent 1 is no-cache where nc is true. -/
def ported (s : State) (nc : Bool := false) : State :=
  (s.setReg (hpOff 0 0) (if nc then 0x8080C080 else 0x80808080)).updHinge 0 (fun h => { h with link0 := upLink })
def hinged : State := ported svc
def atPort (s : State) (f : Hinge → Hinge) : State := s.updHinge 0 f

theorem test_w_HingeReception_up : hinged.portsRun = true ∧ ((hinged.hinge 0).linkOf 1).up = true ∧
    hinged.srcOk 0 1 none = true ∧ hinged.srcOk 0 5 none = false ∧ hinged.srcOk 0 0x41 none = false ∧
    ((atPort hinged (fun h => { h with gone := 2 })).hinge 0).gone.testBit 1 = true ∧
    ((atPort hinged (fun h => { h with dead := 2 })).hinge 0).dead.testBit 1 = true ∧
    ((atPort hinged (fun h => { h with closing := true })).hinge 0).closing = true := by decide +kernel

theorem test_w_HingeReception : (10 ≤ (10 : BitVec 4).toNat ∧ (9 : BitVec 4).toNat < 10) ∧
    ((ported (inMode .test)).portsRun = true ∧ (ported (inMode .test)).mode.cur = .test ∧ (ported (inMode .hold)).holding = true ∧
      (ported (inMode .drain)).mode.cur = .drain ∧ (ported (inMode .drain)).holding = false) ∧
    ((ported svc true).agNc 0 1 = true ∧ hinged.agNc 0 1 = false ∧ (ported svc true).srcOk 0 1 none = true) ∧
    (malformed { aop := 0x3F } 0 = true ∧ malformed {} 0 = false) ∧
    ((ported (inMode .service)).homeOf 0 = none ∧ (hinged.homeOf 0).isSome = true) ∧
    ((agentAns { isData := true }).isSome = true ∧ agentAns { opc := 2 } = none ∧ agentAns { isData := true, opc := 1 } = none) := by
  decide +kernel

/-- R125: a full port's seventeenth Fence of an agent is refused, and the sixteenth is held. -/
theorem test_fence_held : gives (.fence 0 1 { tag := 3 }) hinged (fun t => (t.hinge 0).fences.length == 1) = true := by decide +kernel

/-- A transaction of pan 0 whose grant of M to agent 1 awaits its mark. -/
def marking : State := withPan svc { trks := [{ running with rq := aReq 1, grant := some 2, responded := true }] }
/-- A grant in the egress queue of port 0, for a request outstanding there. -/
def granting : State := atPort hinged (fun h => { h with
  egress := [{ msg := .ack 1 5 2 }], outst := [{ src := 1, tag := 5, ocl := 0, posted := false, homeDev := 0, pan := 0, fwd := true, at_ := 0, order := 0 }] })

/-- The notice n at the head of the response queue of port 16 at pan 0. -/
def noted (s : State) (n : Notice) : State := s.updBed 0 (fun x => { x with queues := [(brineQ 0 16 1, { msgs := [{ body := .note n }] })] })

theorem test_w_NoticesAndPortAnswers :
    (let is := fun (n : Notice) => n.agent == 1 && n.body == .dmark 5 0 false
     marking.homeOpen = true ∧ ((noted marking { agent := 1, body := .dmark 5 0 false }).takePanNote 0 is).isSome = true ∧
       ({ marking with fab := { inWait := [{ port := 16, pan := 0, vc := 1, body := .note { agent := 1, body := .dmark 5 0 false } }] } }.takePanNote
         0 is).isNone = true ∧
       ((marking.pan 0).trks.find? (fun e => e.grant.isSome && e.mark.isNone && e.rq.src == 1 && e.rq.tag == 5)).isSome = true ∧
       ((marking.pan 0).trks.find? (fun e => e.grant.isSome && e.mark.isNone && e.rq.src == 2 && e.rq.tag == 5)) = none) ∧
    agDev 1 = svc.me ∧
    (let s := atPort hinged (fun h => { h with fences := [{ src := 1, tag := 7, order := 0 }] })
     let e : HEgress := { msg := .fenceDone 1 7 false 0, stamp := s.stamp16 }
     (s.hinge 0).fenceReady 1 = some { src := 1, tag := 7, order := 0 } ∧
       ((atPort s (fun h => { h with egress := [e] })).sendNow 0 e).isSome = true ∧
       ((atPort s (fun h => { h with egress := [e], link0 := { upLink with credTx := [] } })).sendNow 0 e).isNone = true) ∧
    (granting.sendNow 0 { msg := .ack 1 5 2 }).isSome = true := by decide +kernel

/-- An answer of kind k at the head of its queue from port 1 at destination dst. -/
def answered (s : State) (dst : Nat) (k : AnsKind) (bad : Bool := false) : State :=
  let a : Ans := { kind := k, src := 2, htag := 0 }
  let n := ansQueue dst 1 (ansVc a)
  s.updBed n.1 (fun x => { x with queues := [(n.2, { msgs := [{ body := .ans a, bad := bad }] })] })
/-- A snoop of pan 0 to the sharer 2, or to the owner, that is out since 0. -/
def snooping (own : Bool) : State := withPan svc { trks := [{ running with inv := { snps := [{ tgt := .agent 2, owner := own }] } }] }

theorem test_w_SnoopAnswerResults :
    (∀ k ∈ [AnsKind.ack, .notPresent, .ackData],
      let s := answered (snooping false) 0 k
      ((s.queue 0 (brineQ 0 1 (ansVc { kind := k }))).msgs).length = 1 ∧ (s.ansSlot 0 1 (ansVc { kind := k })).isSome = true ∧
      ((answered svc 64 k).queue 8 (ansQueue 64 1 (ansVc { kind := k })).2).msgs.length = 1) ∧
    ((svc.queue 0 (brineQ 0 1 1)).msgs = [] ∧ svc.homeOpen = true) ∧
    (let e : Trk := { running with inv := { snps := [{ tgt := .agent 2 }] } }
     ((snooping false).pan 0).trk 0 = some e ∧ e.inv.awaits 2 = some { tgt := .agent 2 }) ∧
    (let s := at_ (2 ^ 40) (snooping true)
     ((s.pan 0).trks.map (fun e => e.inv.snps.find? (s.overdue (.agent 2)))) = [some { tgt := .agent 2, owner := true }]) ∧
    (let v : Victim := { way := 3, ent := { tag := 4 }, inv := { snps := [{ tgt := .dev 3, op := .invData }] } }
     let s := at_ (2 ^ 40) (withPan svc { trks := [{ running with vict := some v }] })
     ((s.pan 0).trks.map (fun e => ((e.getInv true).snps.find? (s.overdue (.dev 3))).isSome && (e.inv.snps.find? (s.overdue (.dev 3))).isNone)) =
       [true]) ∧
    (svc.collFree = some 0 ∧
      { svc with fab := { coll := (List.range 256).map (fun k => (k, some { home := 0, htag := 0 })) } }.collFree = none) ∧
    (let s := withPan svc { trks := [{ running with inv := { snps := [{ tgt := .dev 3 }], grp := some 1, eng := true } }] }
     ((noted s { sdev := 3, body := .gack 0 }).takePanNote 0 (fun n => n.sdev == 3 && n.body == .gack 0)).isSome = true ∧
       (s.pan 0).trks.any (fun e => e.inv.snps.any (fun x => x.tgt == .dev 3 && x.st == .sent)) = true) := by decide +kernel

theorem test_w_GoneAndFaultResults :
    agDev 0x3F = svc.me ∧
    (let s := hinged.setRf (hpOff 0 0x700) 39 32 1
     max 1 (s.rf (hpOff 0 0x700) 39 32) ≤ satAdd (s.rf (hpOff 0 0x700) 15 8) 1 255 ∧ (s.hinge 0).dead.testBit 1 = false) ∧
    (let s := hinged.setRf (hpOff 0 0x700) 39 32 2
     ¬(max 1 (s.rf (hpOff 0 0x700) 39 32) ≤ satAdd (s.rf (hpOff 0 0x700) 15 8) 1 255)) ∧
    ((noted svc { agent := 1, body := .gone 1 }).takePanNote 0 (fun n => n.agent == 1 && (match n.body with | .gone _ => true | _ => false))).isSome = true ∧
    ((noted svc { agent := 1, body := .ungone }).takePanNote 0 (fun n => n.agent == 1 && n.body == .ungone)).isSome = true ∧
    (let s := at_ (2 ^ 40) (atPort hinged (fun h => { h with clean := [(1, ([3, 7], 0))] }))
     let c := sget (s.hinge 0).clean 1 ([], 0)
     c.1.contains 7 = true ∧ 200000000 + 2 * s.tmoNs ≤ dt c.2 s.now) ∧
    (let s := atPort hinged (fun h => { h with outst := [{ src := 1, tag := 5, ocl := 0, posted := true, homeDev := 0, pan := 0, fwd := true, at_ := 0, order := 0 }] })
     (s.hinge 0).outst.any (fun o => o.src == 1 && o.posted && o.addr.toNat / 128 == 127 / 128) = true ∧
       (hinged.hinge 0).outst = []) ∧
    (let s : State := { svc with err := { sinceFull := 1, log := List.replicate 4095 [] } }
     0 < s.err.sinceFull ∧ s.err.log.length < 4096) := by decide +kernel

/-! ### The stack -/

theorem test_w_StackCodeBeat : (List.range 16).length = 16 ∧ (∀ x ∈ List.range 16, x < 256) ∧ (17 < 18 ∧ 0 < 255 ∧ 255 < 256) := by
  decide +kernel

/-- R222: a beat with one wrong symbol names its layer and is corrected to what was written. -/
theorem test_beat : beatDecode (rsEncode (List.range 16)) none = .clean ∧
    beatDecode ((rsEncode (List.range 16)).set 17 0xAA) none ≠ .clean ∧
    (∀ e ∈ [1, 255], let c := rsEncode (List.range 16)
      beatFix (c.set 5 (5 ^^^ e)) (beatDecode (c.set 5 (5 ^^^ e)) none) = c) := by decide +kernel

theorem test_w_StackCodeSurvivesLayer : (17 : Nat) < 18 ∧ (∀ j, (fun _ : Nat => 255) j < 256) :=
  ⟨by decide, fun _ => by show 255 < 256; decide⟩

theorem test_w_StackCommandResults :
    (let s := at_ (2 ^ 40) (svc.setReg (bedOff 0 0xB00) (2 ^ 48))
     s.rf (bedOff 0 0xB00) 63 48 ≠ 0 ∧ s.rf (bedOff 0 0xB00) 63 48 * 1000000 ≤ dt (s.bed 0).leakAt s.now) ∧
    ((0x91 : BitVec 64).toNat.testBit 7 = true ∧ bitsOf 0x91 4 0 ≤ 17) ∧
    (let s := svc.updBed 0 (fun x => { x with init := [7], refs := [(7, 3)], refAt := [(7, 0)], hot := true })
     (s.bed 0).rest = 0 ∧ (s.bed 0).init.contains 7 = true ∧ 488 ≤ dt (sget (s.bed 0).refAt 7 0) (at_ 488 s).now) ∧
    (sramUnit 0x50 5 = true ∧ sramUnit 0x97 9 = true ∧ sramUnit 0x98 0xB = false ∧ sramUnit 0x20C 0xB = true ∧ sramUnit 0x206 0xA = true ∧
      sramUnit 0x3F 1 = true ∧ sramUnit 0x40 8 = false) ∧
    (let s : State := { (at_ 5 svc) with err := { sramAt := [(0x50, 5)] } }
     ¬(sget s.err.sramAt 0x50 0 = 0 ∨ 1000000 ≤ dt (sget s.err.sramAt 0x50 0 - 1) s.now)) := by decide +kernel

/-- A rake that has begun, whose first row is due, and one with no rake. -/
def raking : State := at_ (2 ^ 40) ((svc.setReg (bedOff 0 0xC80) 1).updBed 0 (fun x => { x with rakeT0 := some 0 }))
/-- The checker's state in TEST with a block in the row. -/
def testing : State := withPan (inMode .test) { testRow := [(0, some (beatsBlock (List.replicate 8 (rsEncode (List.replicate 16 7)))))] }

theorem test_w_RakeAndChecker :
    (let s := svc.setReg (bedOff 0 0xC88) 5
     schedule s.now (s.rv (bedOff 0 0xC88)) = .pending ∧ schedule (at_ 5 s).now (s.rv (bedOff 0 0xC88)) = .due ∧
       schedule (at_ 6 s).now (s.rv (bedOff 0 0xC88)) = .past ∧
       schedule s.now ((svc.setReg (bedOff 0 0xC88) (2 ^ 63 - 1)).rv (bedOff 0 0xC88)) = .refused) ∧
    (let s := at_ 9 (svc.updBed 0 (fun x => { x with rakePend := some 9 }))
     (s.bed 0).rakePend = some 9 ∧ reached s.now 9 = true) ∧
    (raking.rowDue 0 0 = true ∧ (raking.chanSlot 0 2).isSome = true ∧ svc.rowDue 0 0 = false) ∧
    (testing.alive = true ∧ testing.mode.cur = .test ∧ (testing.bed 0).chkBusy = false ∧ svc.mode.cur ≠ .test ∧
      (sget (testing.pan 0).testRow 0 none).isSome = true) := by decide +kernel
/-! ### Arbiters -/

theorem test_w_ArbiterResults_grant :
    (let l := [anAsker 1, anAsker 2]
     (l.map (fun y => y.num)).Nodup ∧ (l.map (fun y => y.id)).Nodup ∧ anAsker 2 ≠ anAsker 1 ∧ (panArb 0 0).line = 0 ∧ (∀ y ∈ l, y.num ≠ 3)) ∧
    (let m : Part := .msg (.ans { src := 1, hdev := 0, htag := 0 })
     (svc.partBody 0 16 (16 * 4 + 1) m).isSome = true ∧ svc.packerFree 0 65 16 (.ans { src := 1, hdev := 0, htag := 0 }) = true ∧ (svc.cands 0).any (fun c => c.port == 16) = false ∧
       (svc.brinePart 0 16 1 3 (.ans { src := 1 }) 0).isSome = true) ∧
    (let s := svc.updBed 0 (fun x => { x with graces := [{ port := 31, queue := 126, since := 0 }] })
     ((s.bed 0).graces.find? (fun g => g.port == 31)) = some { port := 31, queue := 126, since := 0 } ∧ (svc.bed 0).graces = []) ∧
    (let s := svc.setReg 0x1200 0x8800
     let b : KBody := .ans { src := 1, hdev := 0 }
     s.linkFor b false = some 0 ∧ s.isQuar 3 = false ∧ (s.kn 0).graces = [] ∧ (s.kn 0).wait = [] ∧ (23 : Fin 32).val < 24) := by
  decide +kernel

theorem test_w_ArbiterResults_limits :
    (let s := (svc.setReg (bedOff 7 0x908) 0).updBed 7 (fun x => { x with phase := 120, graces := [{ port := 0, since := 0, grace := some 0 }] })
     s.graceOver (.bed 7) 0 = true) ∧
    (let s := ((svc.setReg (bedOff 0 0x908) 10).updBed 0 (fun x => { x with phase := 120, graces := [{ port := 31, since := 0, grace := some 0 }] }))
     s.graceOver (.bed 0) 31 = true) ∧
    (svc.privBit (.pan 63) 3 (.rake 7) = some (32, 2) ∧ svc.privBit .dev 0 (.core 3) = some (36, 5) ∧ svc.privBit (.pan 63) 2 (.rake 7) = none) ∧
    (let s := { (svc.setReg 0x908 0x10000) with svc := 65536 + 4096 }
     let s1 := s.privHold (arbId .dev 0) 1 65536
     s1.overHeld .dev (arbId .dev 0) 1 = true ∧ (s.rv (arbBase .dev + 0x908)).testBit 32 = false ∧
       (s.privHold (arbId .dev 0) 1 63).overHeld .dev (arbId .dev 0) 1 = false ∧
       ((s.setReg 0x908 0x100010000).rv (arbBase .dev + 0x908)).testBit 32 = true) ∧
    (let s := svc.setReg 0x918 5
     schedule s.now (s.rv (arbBase .dev + 0x918)) = .pending ∧ schedule (at_ 5 s).now (s.rv (arbBase .dev + 0x918)) = .due) ∧
    (let s : State := { (at_ 5 svc) with ru := { arbPend := [(arbBase (.pan 63), some 5)] } }
     s.arbPendOf (.pan 63) = some 5 ∧ reached (s.blkNow (.pan 63)) 5 = true) ∧
    (svc.regOpen (arbBase (.pan 63) + 0x910) = true ∧ schedule svc.now (svc.rv (arbBase .dev + 0x918)) = .due) := by decide +kernel

/-! ### Links -/

def lnk : LinkRef := .kl 0
def linked (k : Link) : State := svc.setLk lnk k

/-- Lane blocks of a link of 16 lanes in order f, with TSID t. -/
def blocks (f : Nat → Nat) (t : BitVec 2) : List LaneBlk := (List.range 16).map (fun i => { sync := 0x960F3CA5C3, lane := BitVec.ofNat 4 (f i), tsid := t })

theorem test_w_LinkTraining_blocks :
    (let l := blocks id 1
     l.length = svc.lkWidth lnk ∧ l.all (fun b => (laneSync b).isSome) = true ∧ l.map (fun b => (laneTrue b).lane.toNat) = List.range 16 ∧
       (∀ t ∈ l.map (fun b => (laneTrue b).tsid), t ≠ 0 ∧ t ≠ 3)) ∧
    ((blocks (15 - ·) 2).map (fun b => (laneTrue b).lane.toNat)) = (List.range 16).reverse ∧
    (¬(∀ t ∈ (blocks id 3).map (fun b => (laneTrue b).tsid), t ≠ 0 ∧ t ≠ 3)) ∧
    ((blocks (fun _ => 0) 1).map (fun b => (laneTrue b).lane.toNat) ≠ List.range 16) ∧
    (((linked { st := .detect, blks := 7 }).lk lnk).blks + 1 = 8 ∧ ((linked { st := .align, ts2 := 7 }).lk lnk).ts2 + 1 = 8) ∧
    (20 < (21 : BitVec 8).toNat ∧ (20 : BitVec 8).toNat ≤ 20) ∧
    (15 < (distinct ((List.range 16).map (fun i => i))).length ∧ ¬(15 < (distinct (List.range 15)).length)) := by decide +kernel

theorem test_w_LinkTraining_timers :
    (let s := at_ (2 ^ 40) (linked { st := .align })
     (s.lk lnk).phase = .align ∧ 2000000 ≤ dt (s.lk lnk).subAt s.now) ∧
    (let s := at_ 9 (linked { st := .config, pause := some 9 })
     (s.lk lnk).pause = some 9 ∧ reached s.now 9 = true) ∧
    ((linked { st := .closed }).lk lnk).st = .closed ∧
    (let k := (linked { st := .retrain, blks := 8, ts2 := 8, cwGood := 64 }).lk lnk
     k.phase = .codeword ∧ 64 ≤ k.cwGood) ∧
    (let s := at_ (2 ^ 40) (linked { st := .retrain })
     max 1 (s.lkCtl lnk 47 32) * 1000000 ≤ dt (s.lk lnk).since s.now) ∧
    (let s := at_ 9 (linked { st := .reset, detectAt := some 9 })
     (s.lk lnk).detectAt = some 9 ∧ reached s.now 9 = true) ∧
    (let s := at_ 9 ((svc.setReg (hpOff 0 0) 0x200000000).setLk (.hp 0 true) { st := .reset, detectAt := some 9 })
     (s.lk (.hp 0 true)).st = .reset ∧ (s.lk (.hp 0 true)).detectAt = some 9 ∧ s.rf (hpOff 0 0) 33 32 = 2 ∧
       (s.resetEnds (.hp 0 true) |>.hinge 0).mode = 2) := by decide +kernel

/-- A CONFIG flit of a Hinge port that declares agents a and advertises n units on every channel; one of a Knuckle link. -/
def hpCfg (a n : Nat) : BitVec 512 := mkFlit (4 * 2 ^ 60 + 2 ^ 18) [2 ^ 120 + a * 2 ^ 116 + n * 2 ^ 80 + n * 2 ^ 64 + n * 2 ^ 48] []
def klCfg (dev n : Nat) : BitVec 512 := mkFlit (4 * 2 ^ 60 + 2 ^ 18) [2 ^ 120 + dev * 2 ^ 114 + (List.range 7).foldl (fun a c => a + n * 2 ^ (84 - 12 * c)) 0] []
def cfgAckFlit : BitVec 512 := mkFlit (4 * 2 ^ 60 + 2 ^ 18) [2 * 2 ^ 120] []

theorem test_w_LinkTraining_config :
    (cfgFlit (hpCfg 15 16) 1 = true ∧ ctlShape (hpCfg 15 16) = true ∧ bitsOf (flSlot (hpCfg 15 16) 0) 119 116 = hinged.declared 0 false ∧
      bitsOf (flSlot (hpCfg 15 16) 0) 95 80 = 16 ∧ bitsOf (flSlot (hpCfg 15 15) 0) 63 48 = 15 ∧
      bitsOf (flSlot (hpCfg 7 16) 0) 119 116 ≠ hinged.declared 0 false) ∧
    (cfgFlit (klCfg 0 16) 1 = true ∧ ctlShape (klCfg 0 16) = true ∧ bitsOf (flSlot (klCfg 0 16) 0) 119 114 = svc.rf (klOff 0 0) 23 18 ∧
      bitsOf (flSlot (klCfg 0 16) 0) 113 111 = svc.rf (klOff 0 0) 17 15 ∧ svc.bootMode = false ∧
      bitsOf (flSlot (klCfg 63 16) 0) 119 114 ≠ svc.rf (klOff 0 0) 23 18 ∧ bitsOf (flSlot (klCfg 0 15) 0) 23 12 = 15) ∧
    (((linked { st := .config, cfgSeen := true }).lk lnk).cfgSeen = true ∧ cfgFlit cfgAckFlit 2 = true ∧ ctlShape cfgAckFlit = true) := by
  decide +kernel

/-- A message flit of no payload with sequence number n and one NULL slot, and control and other flits. -/
def msgFlit (n : Nat) : BitVec 512 := mkFlit (1 * 2 ^ 60 + 2 ^ 18 + n * 2 ^ 6) [] []
def ctlFlit (code n : Nat) : BitVec 512 := mkFlit (4 * 2 ^ 60 + 2 ^ 18 + n * 2 ^ 6) [code * 2 ^ 120] []
def kindFlit (k : Nat) : BitVec 512 := mkFlit (k * 2 ^ 60) [] []

theorem test_w_LinkFlits_sequence :
    (upLink.up = true ∧ flAckv (msgFlit 0) = false ∧ hcrcOk (msgFlit 0) = true ∧ hcrcOk (msgFlit 0 ^^^ 1) = false ∧
      flKind (msgFlit 0) = 1 ∧ flPay (msgFlit 0) = some 0 ∧ pcrcOk (msgFlit 0) [] = true) ∧
    ((flSeq (msgFlit 0) + 4096 - upLink.rxExpect) % 4096 = 0 ∧ (flSeq (msgFlit 1) + 4096 - 0) % 4096 < 2048 ∧
      2048 ≤ (flSeq (msgFlit 2048) + 4096 - 0) % 4096) ∧
    ((hinged.sequence (.hp 0 false) (msgFlit 0) []).1 = true ∧ (hingeParse (msgFlit 0) []).isSome = true) ∧
    (((linked upLink).sequence lnk (msgFlit 0) []).1 = true ∧ (kParse (msgFlit 0) []).isSome = true) := by decide +kernel

theorem test_w_LinkFlits :
    (flKind (kindFlit 2) = 2 ∧ hcrcOk (kindFlit 2) = true) ∧ (flKind (kindFlit 3) = 3 ∧ flAckv (kindFlit 3) = false ∧ hcrcOk (kindFlit 3) = true) ∧
    (let k : Link := { upLink with asking := some (4, 7, 0) }
     k.asking = some (4, 7, 0) ∧ 1000 ≤ dt 0 (at_ 1000 svc).now ∧ k.st = .active) ∧
    (flKind (ctlFlit 0x13 0) = 4 ∧ unusedCtl (ctlCode (ctlFlit 0x13 0)) = true ∧ ((linked upLink).control lnk (ctlFlit 0x13 0)).1 = true) ∧
    (6 ≤ flKind (kindFlit 6) ∧ flKind (kindFlit 0) < 2) := by decide +kernel

theorem test_w_LinkFlits_repeat :
    (let k : Link := { upLink with asking := some (4, 8, 0) }
     k.asking = some (4, 8, 0) ∧ k.rrqLeft = 0 ∧ k.st = .active) ∧
    (let s := linked { upLink with asking := some (4, 8, 0), txBits := 2 ^ 20 }
     3 * (s.lk lnk).unitBits (s.lkWidth lnk) ≤ (s.lk lnk).txBits + 280) ∧
    (¬(hcrcOk (msgFlit 0) = true) ∨ flKind (msgFlit 0) < 2) ∧ hcrcOk (msgFlit 0 ^^^ 1) = false := by decide +kernel

theorem test_w_LinkEndResults_resets :
    (let s := svc.updHinge 0 (fun h => { h with mode := 2 })
     (s.hinge 0).mode ≠ 0 ∧ (s.hinge 0).mode = 2) ∧ ((linked upLink).kn 0).link.st ≠ .disabled ∧
    svc.regOpen (linkCtl (.hp 15)) = true ∧ svc.regOpen (linkCtl (.kl 7)) = true ∧
    ((linked { st := .closed }).kn 0).link.st = .closed := by decide +kernel

/-- The two links of port 0 close; the idle time of the first is over, and that of the second is, or is not. -/
def idling (n : Nat) : State := at_ 9 (svc.updHinge 0 (fun h => { h with
  link0 := { st := .closing, idleAt := some 9 }, link1 := { st := .closing, idleAt := some n } }))

theorem test_w_LinkEndResults_idle : ((idling 9).hinge 0).link1.idleAt = some 9 ∧ reached (idling 9).now 9 = true ∧
    ((idling 10).hinge 0).link1.idleAt = some 10 ∧ reached (idling 10).now 10 = false ∧
    ((idling 10).hinge 0).link1.st = .closing := by decide +kernel

/-- R282: only when both halves of a port have finished are they CLOSED. -/
theorem test_idle_entry : gives (.electricalIdleEntry (.hp 0)) (idling 10) (fun t => (t.hinge 0).link0.st == .closing) = true ∧
    gives (.electricalIdleEntry (.hp 0)) (idling 9) (fun t => (t.hinge 0).link0.st == .closed) = true := by decide +kernel

theorem test_w_LinkEndResults_ctl :
    (hcrcOk (kindFlit 5) = true ∧ flKind (kindFlit 5) = 5 ∧ upLink.st ≠ .disabled ∧ upLink.st ≠ .closed) ∧ svc.alive = true ∧
    (∀ code ∈ [0x10, 0x11, 0x12], ctlCode (ctlFlit code 0) = code ∧ ((linked { upLink with st := .closing }).control lnk (ctlFlit code 0)).1 = true ∧
      ((((linked { upLink with st := .closing }).control lnk (ctlFlit code 0)).2).lk lnk).st = .closing) := by decide +kernel

theorem test_w_LinkEndResults_timers :
    (let s := svc.updHinge 0 (fun h => { h with link0 := { st := .closed }, link1 := { st := .closed } })
     (s.hinge 0).link0.st = .closed ∧ (s.hinge 0).link1.st = .closed) ∧
    (let s := at_ (2 ^ 40) (svc.updHinge 0 (fun h => { h with closing := true, link0 := { st := .closing } }))
     max 1 (s.rf (hpOff 0 0x10) 31 16) * 1000000 ≤ dt (s.hinge 0).link0.closeAt s.now ∧ (s.hinge 0).link0.closeDoneSent = false) ∧
    (let s := at_ (2 ^ 40) (linked { st := .closing })
     (s.kn 0).link.idleAt = none ∧ max 1 (s.rf (klOff 0 0x10) 31 16) * 1000000 ≤ dt (s.kn 0).link.closeAt s.now) ∧
    (let s := at_ 9 (linked { st := .closing, idleAt := some 9 })
     (s.kn 0).link.idleAt = some 9 ∧ reached s.now 9 = true) ∧
    (let s := at_ 9 (svc.updHinge 0 (fun h => { h with link0 := { st := .closing, idleAt := some 9 } }))
     (s.hinge 0).link0.idleAt = some 9 ∧ reached s.now 9 = true) := by decide +kernel

/-! ### The fabric -/

def kReqMsg (dev : BitVec 6) (addr : BitVec 52) : KMsg := { kvc := 0, body := .req { aReq 0 with homeDev := dev, addr := addr } }
/-- Two ranges of 4,096 bytes: the first of this device, the second of device 5. -/
def twoHomes : State :=
  { svc with img := { svc.img with map := [(0, 1), (1, 0), (4, 0x1001), (5, 0x1000), (7, 0x10000), (0x800, 0x500)] } }

theorem test_w_KnuckleMessageResults :
    ((linked upLink).kn 0).link.up = true ∧ (inMode .blank).kTakes (kReqMsg 0 0) = false ∧ twoHomes.kTakes (kReqMsg 0 0) = true ∧
    kDev (kReqMsg 3 0).body ≠ twoHomes.me ∧ kDev (kReqMsg 0 0).body = twoHomes.me ∧
    ((twoHomes.homeOf 0xFFF).map (fun x => x.1)) = some 0 ∧ ((twoHomes.homeOf 0x1000).map (fun x => x.1)) = some 5 ∧
    twoHomes.homeOf 0x2000 = none := by decide +kernel

theorem test_w_RoutesAndFabricTimers :
    (let s := svc.setReg 0x1408 5
     schedule s.now (s.rv 0x1408) = .pending ∧ s.routeEarly (s.rv 0x1408) = false ∧ svc.routeEarly svc.now = false) ∧
    (let s : State := { svc with fab := { commitAt := some 0, prevValid := true } }
     s.routeEarly s.now = true ∧ (at_ (2 ^ 40) s).routeEarly (2 ^ 40) = false ∧ dt 0 (at_ (2 ^ 40) s).now < 2 ^ 63) ∧
    schedule svc.now ((svc.setReg 0x1408 (2 ^ 62 + 1)).rv 0x1408) = .refused ∧
    (let s : State := { (at_ 9 svc) with fab := { routePend := some 9 } }
     s.fab.routePend = some 9 ∧ reached s.now 9 = true ∧ s.routeEarly s.now = false) ∧
    (let e : Trk := { running with rq := { aReq 1 with src := 0x45 }, grant := some 2 }
     let s := at_ (2 ^ 40) (withPan svc { trks := [e] })
     (s.pan 0).trk 0 = some e ∧ agDev e.rq.src ≠ s.me ∧ s.tmoNs ≤ dt e.grantAt s.now) ∧
    (∀ b : Bool,
      let s := at_ (2 ^ 40) (atPort hinged (fun h => { h with
        outst := [{ src := 1, tag := 5, ocl := 0, posted := b, homeDev := 3, pan := 0, fwd := true, at_ := 0, order := 0 }] }))
      (s.overdueReq 0 1 5 b).isSome = true) := by decide +kernel

def headed : State := { svc with mode := { svc.mode with head := true } }

theorem test_w_ManagementResults :
    headed.alive = true ∧ headed.mode.head = true ∧ (3 : BitVec 6).toNat ≠ headed.me ∧ headed.regOpen 0x300 = true ∧
    ({ State.reset with mode := { cur := .test, bist := [11] } }.alive = true) ∧
    (∀ o ∈ [0, 1, 2, 3, 15],
      let m : Mgmt := { opc := BitVec.ofNat 4 o, offset := 0x300, mtag := 7, sdev := 3 }
      ({ svc with fab := { mgmtIn := [(0, m, 0)], mgmt := [{ mtag := 7, dev := 3, wr := false, at_ := 0 }] } }.fab.mgmtIn) = (0, m, 0) :: []) ∧
    ([({ mtag := 7, dev := 3, wr := false, at_ := 0 } : MgmtOut)].find? (fun x => x.mtag == 7 && x.dev == 3)).isSome = true ∧
    1000000 ≤ dt 0 (at_ 1000000 svc).now ∧
    { State.reset with mode := { cur := .test, bist := [4] } }.regOpen (panOff 0 0x800) = false := by decide +kernel

/-- Memory port 0 in MODE 1, down; up; and with a request outstanding. -/
def mpMode1 : State := svc.setReg (mpOff 0 0) 1
def mpUp : State := mpMode1.updMp 0 (fun x => { x with h0 := { link := 2, ready := true }, reqs := [{ pan := 0, kind := 0, at_ := 0 }] })

theorem test_w_MemoryPortResults :
    (mpMode1.mpRuns = true ∧ mpMode1.mpTarget 0 0 = true ∧ mpMode1.mpRetired 0 = false ∧ (mpMode1.mp 0).down = false ∧
      (mpMode1.mp 0).ready 0 = false ∧ mpMode1.mpAccepts 0 1 16 = true ∧ mpMode1.mpAccepts 0 3 16 = false ∧
      mpMode1.mpAccepts 0 2 8 = false) ∧
    (let d : MemDev := { bars := [20, 30] }
     ¬(d.type3 = false) ∧ ¬(d.cap < mpMode1.mpCap 0 0) ∧ 2 ^ 30 < d.bars.foldl (fun a b => a + 2 ^ b.val) 0 ∧
       ({ cap := 0, takesHdm := false } : MemDev).takesHdm = false ∧ ({ single := false } : MemDev).single = false) ∧
    (((mpUp.mp 0).half 0).link = 2 ∧ (mpUp.mp 0).reqs[0]? = some { pan := 0, kind := 0, at_ := 0 } ∧
      max 1 (mpUp.rf (mpOff 0 0x10) 31 16) * 1000 ≤ dt 0 (at_ (2 ^ 40) mpUp).now) ∧
    { svc with img := { svc.img with retireMp := 1 } }.mpRetired 0 = true ∧
    (((mpUp.setReg (mpOff 0 0x10) 2).rv (mpOff 0 0x10)).testBit 1 = true ∧ (mpUp.mp 0).ready 0 = true) ∧
    ((svc.mp 0).ioDone = true ∧ ((svc.updMp 0 (fun x => { x with ioDone := false })).mp 0).ioDone = false ∧
      ((at_ (2 ^ 40) svc).updMp 0 (fun x => { x with ioDone := false })).ioLate 0 = true) := by decide +kernel

theorem test_w_MemoryPortResults_more :
    (svc.regOpen (mpOff 7 0x10) = true ∧ svc.regOpen (mpOff 7 0x20) = true ∧ mpMode1.mpRuns = true ∧ (inMode .blank).mpRuns = false) ∧
    (let r : MReq := { pan := 3, kind := 0, at_ := 0, sent := false }
     let s := mpMode1.updMp 0 (fun x => { x with h0 := { link := 2, ready := true }, reqs := [r] })
     let asks := (s.mp 0).waiting.map (fun r => s.asker (mpArb 0) r.pan (r.pan / 8) r.anc r.stamp)
     (s.winner (mpArb 0) asks).map (fun w => w.num) = some 3 ∧
       (s.mp 0).waiting.find? (fun r => r.pan == 3) = some r) := by decide +kernel

/-- R312: the device's memory BARs are placed the largest first. -/
theorem test_bar_bases : barBases 0x40000000 [20, 24] = [0x41000000, 0x40000000] := by decide +kernel
/-! ### Engine commands, cores and the service region -/

/-- Pan 0 with the command word of opcode op, set psi and way w at the head of its queue, and an event selected. -/
def cmdWord (op psi w : Nat) : BitVec 64 := BitVec.ofNat 64 (op * 2 ^ 56 + psi * 2 ^ 18 + w * 2 ^ 14)
def commanded (op w : Nat) (x : Pan := {}) : State := withPan svc { x with cmds := [{ word := cmdWord op 0 w, stamp := 0 }] }
def selected : Pan := { fg := [{ typ := 1, trk := 0 }], sel := true, trks := [running] }

theorem test_w_PanEngineCommands :
    ((commanded 1 0 selected).cmdOpen 0 = true ∧ cmdOp (cmdWord 1 0 0) = 1 ∧ ((commanded 1 0 selected).evtTrk 0).isSome = true ∧
      ((commanded 1 0).evtTrk 0) = none) ∧
    (let s := commanded 3 0
     (s.winner (panArb 0 0) (s.admAskers 0)).map (fun v => v.num) = some 25 ∧ (s.setQuota 0 0 0).1 = true) ∧
    (let s := (oneReq (commanded 3 0) (aReq 0)).setReg (0x400000 + 0x940) 0xF
     ((s.winner (panArb 0 0) (s.admAskers 0)).map (fun v => v.num)).isSome = true) ∧
    (let s := (commanded 3 0 { lastQuota := some 0 })
     s.paced 0 (s.pan 0).lastQuota (s.pace 0) = false ∧ (s.setQuota 0 0 0).1 = false) ∧
    ((svc.bring 0 0 0).1 = .ready ∧ ((withPan svc { lost := [0] }).bring 0 0 0).1 = .lost ∧
      ((svc.updBed 0 (fun x => { x with rest := 2 })).bring 0 0 0).1 = .wait) ∧
    (let s := withPan svc { combDue := true, comb := [{ psi := 0, tag := 1, data := 0, last := 0 }], wb := List.replicate 64 { psi := 1, tag := 1, data := 0 } }
     ((s.combDrain 0).pan 0).combDue = true ∧ ((svc.combDrain 0).pan 0).combDue = false) ∧
    (cmdWay (cmdWord 7 0 15) = 15 ∧ cmdWay (cmdWord 7 0 14) ≠ 15) ∧
    ((commanded 6 0).setClean 0 0 0).1 = true ∧ ((commanded 8 0 selected).complete 0).1 = true ∧
    (cmdOp (cmdWord 0 0 0) = 0 ∧ 10 ≤ cmdOp (cmdWord 10 0 0)) ∧
    (let s := commanded 0 0
     (s.slot (panArb 0 0) (s.admAskers 0) 25).isSome = true ∧ (s.slot (panArb 0 0) (s.admAskers 0) 24) = none) := by decide +kernel

theorem test_w_ProbesAndEvents :
    (svc.regOpen (panOff 63 0xC00) = true ∧ svc.regOpen (panOff 63 0x410) = true) ∧
    ((on 0 us).eng 0).runs = true ∧
    (let s := (withPan (on 0 us) { fg := [{ typ := 1 }, { typ := 2 }], sel := true })
     (s.pan 0).sel = true ∧ s.evtQ 0 = false ∧ (s.pan 0).fg = { typ := 1 } :: [{ typ := 2 }]) ∧
    ((svc.pan 0).sweepBusy = false ∧ ((withPan svc { sweepBusy := true }).pan 0).sweepBusy = true) ∧
    { svc with ru := { probeBusy := true } }.ru.probeBusy = true ∧ svc.regOpen (panOff 0 0x438) = true ∧
    ((inMode .service).homeOf 0 = none ∧ ((svc.homeOf (svc.rv 0x100)).map (fun x => decide (x.1 < 64))) = some true) ∧
    (let x : Pan := { mdProbe := some 0x300000, mdc := [(0, { valid := true, blk := mdBlk })] }
     x.mdHeld 0 = some (mdBlk, false) ∧ mdWord mdBlk 3 ≠ 0 ∧ ({ mdProbe := some 0 } : Pan).mdHeld 0 = none ∧
       ({ mdwq := [{ psi := 0, blk := mdBlk, at_ := 0 }] } : Pan).mdHeld 0 = some (mdBlk, true)) ∧
    ((svc.updBed 0 (fun x => { x with rest := 2 })).stackUp 0 = false ∧ svc.stackUp 0 = true ∧
      (svc.readBlock 0 (slotKey 0 15) 0).1.ue = false) := by decide +kernel

/-- Core 0 released by an image in force, with its entry at 0x40. -/
def booted : State := { (on 64 { pv with inReset := true }) with img := { inForce := true, entries := [(64, 0x40)] } }

theorem test_w_SaltmasterResults :
    booted.alive = true ∧ (booted.eng 64).inReset = true ∧ booted.img.inForce = true ∧ (booted.eng 64).powered = true ∧
    (booted.eng 64).noCode = false ∧ ((on 64 pv).eng 64).inReset = false ∧
    (schedule 5 (5 : BitVec 64).toNat = .due ∧ schedule 5 (6 : BitVec 64).toNat = .pending ∧ schedule 5 (4 : BitVec 64).toNat = .past ∧
      schedule 0 (2 ^ 62 + 1) = .refused) ∧
    (let s := at_ 9 (on 64 { pv with timer := some 9 })
     (s.eng 64).timer = some 9 ∧ reached s.now 9 = true) ∧
    (at_ 1000000 svc).now / 1000000 ≠ svc.mt.coreMs ∧
    (∀ o ∈ [0, 0x10, 0x18, 0x20, 0x28], booted.regOpen (smOff 3 o) = true) ∧ ((on 64 { pv with halted := true }).eng 64).halted = true ∧
    (let s : State := { booted.setReg (smOff 0 0) 2 with ru := { latOwn := [(7, 5)] } }
     s.rf (smOff 0 0) 1 1 = 1 ∧ sget s.ru.latOwn 7 0 ≠ 0 ∧ sameOwner (sget s.ru.latOwn 7 0 - 1) 4 = true) := by decide +kernel

/-- R385, R472: RESTART of core 0, which runs: it starts again at its entry in privileged mode, and its latch is broken. -/
theorem test_restart : gives (.restart 0) ({ booted.setReg (smOff 0 0) 2 with ru := { latOwn := [(7, 5)] } })
    (fun t => (t.eng 64).pc == 0x40 && (t.eng 64).mode == 1 && sget t.ru.latOwn 7 0 == 0 && sget t.ru.latBroken 7 false) = true := by
  decide +kernel

/-- R383: RUN written 1 starts core 0 at its entry. -/
theorem test_core_starts : gives (.smRun 0 true) booted (fun t => (t.eng 64).pc == 0x40 && !(t.eng 64).inReset) = true := by
  decide +kernel

def timed (m : MtUnit) : State := { svc with mt := m }

theorem test_w_MachineTime :
    svc.mode.cur ≠ .off ∧ 39 ≤ ({ st := 1, c := 39 } : MtUnit).c ∧ ({ st := 1, c := 38, glitches := 14 } : MtUnit).glitches + 1 < 16 ∧
    16 ≤ ({ st := 1, c := 38, glitches := 15 } : MtUnit).glitches + 1 ∧
    (let m : MtUnit := { st := 2, edgeC := 50, goodEdges := 255 }
     46 ≤ m.edgeC ∧ m.edgeC ≤ 50 ∧ 256 ≤ m.goodEdges + 1) ∧ ({ st := 2, edgeC := 45 } : MtUnit).edgeC < 46 ∧
    (58 ≤ ({ st := 1, c := 58, missing := 2 } : MtUnit).c ∧ 3 ≤ ({ st := 1, c := 58, missing := 2 } : MtUnit).missing + 1) ∧
    (let m : MtUnit := { st := 2, c := 48 }
     m.n = (1, 48) ∧ m.n.2 ≤ m.c * m.n.1 + m.frac) ∧
    (signedDiff 1000 0).natAbs ≤ 1000 ∧ 1000 < (signedDiff 1001 0).natAbs ∧ signedDiff 5 5 = 0 ∧ signedDiff 0 1000 = -1000 ∧
    (let s := (timed { st := 1, jumpPend := true }).setReg 0x10018 5
     s.mt.jumpPend = true ∧ schedule s.now (s.rv 0x10018) = .pending ∧
       (timed { jumpPend := true, applyNow := true, atPos := true }).jumpDue = true ∧
       (at_ 5 (timed { jumpPend := true, applyPend := some 5, atPos := true })).jumpDue = true) ∧
    (({ st := 0, edgeC := 38 } : MtUnit).edgeC < 39 ∧ 39 ≤ ({ st := 0, edgeC := 39 } : MtUnit).edgeC ∧
      58 ≤ ({ st := 0, edgeC := 58 } : MtUnit).edgeC) ∧
    ({ st := 1, c := 58, missing := 1 } : MtUnit).missing + 1 < 3 ∧
    (let m : MtUnit := { st := 2, edgeC := 46, goodEdges := 254 }
     46 ≤ m.edgeC ∧ m.goodEdges + 1 < 256) ∧ (50 < ({ st := 2, edgeC := 51 } : MtUnit).edgeC) := by decide +kernel

/-- A frame of time 5 and FSEQ 7, one with another CRC, one with a period that holds its level, and one while FREE. -/
theorem test_w_MachineTime_frames : (5 < 2 ^ 64 ∧ 7 < 2 ^ 16 ∧ frameCrc 5 7 < 2 ^ 16) ∧
    frameRead (frameLine 5 7 (frameCrc 5 7)) = some (5, 7) ∧ frameRead (frameLine 5 7 (frameCrc 5 7 ^^^ 1)) = none ∧
    (let l := List.replicate 100 (true, true)
     l.length = 100 ∧ (l.getD 4 (true, false)).1 = (l.getD 4 (true, false)).2) ∧ (timed { st := 2 }).mt.st = 2 := by decide +kernel

/-- R398: a good edge moves time 40 ns on, and 41 while a slew is left. -/
theorem test_tick : gives .tickEdge (timed { st := 1, c := 48 }) (fun t => t.mt.tick == 40 && t.mt.ivals == [48]) = true ∧
    gives .tickEdge (timed { st := 1, c := 48, slew := 2 }) (fun t => t.mt.tick == 41 && t.mt.slew == 1) = true := by decide +kernel

theorem test_w_HarvestAndBandwidth :
    (let s : State := { (svc.setReg 0x10108 5) with hv := { snapNow := true } }
     schedule s.now (s.rv 0x10108) = .pending ∧ schedule s.now ((svc.setReg 0x10108 (2 ^ 62 + 1)).rv 0x10108) = .refused ∧
       (((s.perDue.orElse (fun _ => s.dumpDue)).orElse (fun _ => s.timedDue)).isSome) = true ∧ s.hv.busy = none) ∧
    (let n : Snap := { at_ := 0, periodic := false, timed := true, dump := false, late := false, free := false, slew := false, jump := false, ovf := 0, write := false }
     ({ busy := some n } : Harvest).busy.isSome = true ∧ ({ recs := List.replicate 63 [] } : Harvest).recs.length < 64) ∧
    (let s := at_ (2 ^ 40) svc
     ∀ b ∈ [BwRef.hp 15, .kl 7, .mp 7], later (s.bwOf b).2.2.2 (s.now / s.bwWin b * s.bwWin b) = true ∧ (s.bwOf b).2.2.1 = true) ∧
    ((svc.updHinge 0 (fun h => { h with bwOk := false })).bwOf (.hp 0)).2.2.1 = false := by decide +kernel

/-- PROVE with dumps enabled, at an instant of theirs; n is the snapshot in transfer, d the dump in progress. -/
def dumping (n : Option Snap) (d : Option Dump) : State :=
  let s := at_ (2 ^ 40) ((inMode .prove).setReg 0x10120 1)
  { s with hv := { busy := n, dump := d, badBase := false } }
def snap (w : Bool) : Snap :=
  { at_ := 0, periodic := false, timed := true, dump := w, late := false, free := false, slew := false, jump := false, ovf := 0, write := w }

theorem test_w_HarvestAndBandwidth_more :
    (∀ o ∈ [0x10100, 0x10118, 0x10120, bwBase (.hp 15) + 0xB00, bwBase (.kl 7) + 0xB00, bwBase (.mp 7) + 0xB00], svc.regOpen o = true) ∧
    (schedule 5 5 = .due ∧ schedule 5 4 = .past) ∧
    (((dumping none (some { slot := 0, base := 0 })).dumpDue).isSome = true ∧ (dumping none none).hv.busy = none ∧
      (dumping none (some { slot := 0, base := 0 })).hv.dump = some { slot := 0, base := 0 }) ∧
    ((((dumping (some (snap true)) none).perDue.orElse (fun _ => (dumping (some (snap true)) none).dumpDue)).isSome) = true ∧
      (dumping (some (snap true)) none).hv.busy = some (snap true) ∧ (snap true).write = true ∧ (snap false).write = false) ∧
    ((svc.perDue.orElse (fun _ => svc.dumpDue)).orElse (fun _ => svc.timedDue)) = none ∧
    ((1 : BitVec 64).getLsbD 0 = true ∧ ((svc.setReg 0x10120 0).rv 0x10120).testBit 0 = false) ∧
    ((∀ x ∈ ([] : Sparse Nat), x.2 < 2 ^ 48) ∧ 2 ^ 48 ≤ sget ([(5, 2 ^ 48 - 1)] : Sparse Nat) 5 0 + 1 ∧
      sget ([(5, 2 ^ 48 - 1)] : Sparse Nat) 5 0 < 2 ^ 48) := by decide +kernel

theorem test_w_SluiceAndShed : svc.sl.override_ = false ∧ { svc with sl := { override_ := true } }.sl.override_ = true ∧
    { svc with sl := { shed := true, shedAt := 0 } }.shedding = true ∧ { svc with sl := { started := true, e := 5000 } }.sl.started = true ∧
    svc.sluiceCap < ({ started := true, e := 9000 } : Sluice).e ∧
    ({} : Sluice).agreed = false ∧ ({ agreed := true } : Sluice).agreed = true ∧
    (let s : State := { svc with sl := { disc := true, relRun := 20000 } }
     s.sl.disc = true ∧ s.discSamples ≤ s.sl.relRun) ∧ ({ relRun := 19999 } : Sluice).relRun < svc.discSamples ∧
    (let s : State := { svc with sl := { disRun := 4, disLimit := 5 } }
     s.sl.disRun ≠ 0 ∧ s.sl.disRun + 1 = s.sl.disLimit) ∧
    ({ disRun := 4, disLimit := 9 } : Sluice).disRun + 1 ≠ ({ disRun := 4, disLimit := 9 } : Sluice).disLimit := by decide +kernel

/-! ### The table of the home -/

/-- An entry in S with pointers a, b and c; one in M of agent 7; a request of opcode opc that found entry e. -/
def inS (a b c : BitVec 12) (o : Bool) : Way := { v := true, ust := 1, pta := a, ptb := b, ptc := c, ovf := o, tag := 9 }
def inM : Way := { v := true, ust := 2, pta := 7, ptb := 7, ptc := 7, tag := 9 }
def asks (opc : BitVec 4) (e : Option Way) : Trk := { running with rq := aReq opc, ent := e }

theorem test_w_HomeTransitionTable_sharers :
    ((1 : BitVec 12) = (inS 1 2 3 false).pta) ∧ (¬((9 : BitVec 12) = 1 ∨ (9 : BitVec 12) = 2) ∧ (inS 1 1 1 false).ptb = (inS 1 1 1 false).pta) ∧
    ((inS 1 2 1 false).ptb ≠ 1 ∧ (inS 1 2 1 false).ptc = 1) ∧ ((inS 1 2 3 false).ptb ≠ 1 ∧ (inS 1 2 3 false).ptc ≠ 1) ∧
    (inS 1 1 1 true).ovf = true ∧ (addSharer 0 (inS 1 1 1 false) 9).isSome = true ∧ (addSharer 0 (inS 1 2 3 false) 9) = none ∧
    (addSharer 1 (inS 1 2 3 false) 9).isSome = true := by decide +kernel

theorem test_w_HomeTransitionTable_grants :
    ((asks 0 none).kind = .req ∧ (asks 0 none).pois = false ∧ (asks 0 none).op = 0 ∧ (asks 0 none).ent = none) ∧
    ((asks 0 (some inM)).ent = some inM ∧ inM.pta ≠ (asks 0 (some inM)).rq.src ∧ (asks 0 (some inM)).inv.absorbed = none) ∧
    ((asks 1 none).op = 1 ∧ (asks 2 none).op = 2 ∧ (asks 3 none).op = 3 ∧ (asks 8 none).op = 8 ∧ 4 ≤ (asks 4 none).op) ∧
    ({ asks 3 (some inM) with inv := { absorbed := some (7, 1) } }.inv.absorbed.isSome = true) ∧
    ({ asks 0 none with pois := true }.pois = true) ∧ svc.isGone 0 7 = false ∧ inM.ust = 2 ∧ (inS 1 2 3 false).ust = 1 := by
  decide +kernel

/-- Pan 0 with the block of set 0 in way 0 of the metadata cache and one transaction. -/
def cached (t : Trk) : State := withPan svc { trks := [t], mdc := [(0, { valid := true, blk := mdBlk })] }

theorem test_w_HomeTransitionTable_run :
    (let t := asks 0 (some inM)
     ((cached t).pan 0).trk 0 = some t ∧ t.ph = .run ∧ t.responded = false ∧ t.posted = false ∧ t.op ≤ 3 ∧ t.inv.done = true ∧
       t.pureUpgrade = false) ∧
    (asks 2 (some (inS 1 1 1 false))).pureUpgrade = true ∧
    (let t : Trk := { asks 4 none with rq := { aReq 4 with pst := true } }
     t.posted = true ∧ (asks 4 none).posted = false) ∧
    (let t : Trk := { asks 7 none with rq := { aReq 7 with atom := { ret := true } }, written := true }
     6 ≤ t.op ∧ t.posted = false ∧ t.written = true) ∧
    ({ asks 0 none with inv := { snps := [{ tgt := .agent 7, op := .inv }] } }.inv.done = false) ∧
    ({ asks 0 none with old := some 5 }.old = some 5) := by decide +kernel

theorem test_w_HomeTransitionTable_ends :
    (let t : Trk := { asks 0 (some (inS 2 2 2 false)) with way := some 3, grant := some 1, responded := true, written := true }
     let s := cached t
     t.way = some 3 ∧ (s.pan 0).mdcFind t.psi = some 0 ∧ t.back = none ∧ t.inWay = none ∧ t.alloc = false ∧
       (s.finalEntry 0 t 3 false).free = false ∧ (s.finalEntry 0 t 3 false).ust < 4 ∧ t.mark = none ∧ t.detaches = false) ∧
    (let t : Trk := { asks 4 none with way := some 0, responded := true, written := true }
     let s := cached t
     (s.finalEntry 0 t 0 false).free = true ∧ t.grant = none ∧ t.reads = [] ∧ t.mem = false ∧ t.inv.done = true) ∧
    (let t : Trk := { asks 0 none with way := some 3, inWay := some true }
     t.inWay = some true) ∧
    (let t : Trk := { running with rq := { aReq 4 with pst := true }, ent := some (inS 7 7 7 false), inv := { snps := [{ tgt := .agent 7, op := .inv }] } }
     t.detaches = true ∧ t.inv.done = false) := by decide +kernel

/-- The first bed asks for a step one below, and for one above, what it runs. -/
def stepping (n : Nat) : State := svc.setReg 0x20040 n

theorem test_w_BedStepResults :
    (svc.beds.any (fun x => x.2.chg.isSome) = false ∧ (forUpTo 8 (fun b t => t.clamp b) svc).nextBed = none) ∧
    (let s1 := forUpTo 8 (fun b t => t.clamp b) (stepping 7)
     s1.nextBed = some 0 ∧ (stepping 7).newStep 0 ≤ (s1.bed 0).step) ∧
    (let s1 := forUpTo 8 (fun b t => t.clamp b) (stepping 9)
     s1.nextBed = some 0 ∧ (s1.bed 0).step < (stepping 9).newStep 0) ∧
    (∀ k ∈ [1, 2], let s := at_ 9 (svc.updBed 7 (fun x => { x with chg := some (7, k, 9) }))
      (s.bed 7).chg = some (7, k, 9) ∧ reached s.now 9 = true) ∧
    ((svc.rv 0x20080).testBit 5 = false ∧ ((svc.setReg 0x20080 0x20).rv 0x20080).testBit 5 = true) ∧
    (let s : State := { (at_ 9 (svc.setReg 0x20088 10)) with sl := { held := [(7, some 31)], stepPend := some 9 } }
     schedule s.now (s.rv 0x20088) = .pending ∧ sget s.sl.held 7 none = some 31 ∧ s.sl.stepPend = some 9 ∧ reached s.now 9 = true ∧
       schedule s.now ((svc.setReg 0x20088 (2 ^ 62 + 10)).rv 0x20088) = .refused) := by decide +kernel

theorem test_w_ThermalResults :
    (let r : List BedTemp := [{ die := [0, 440, 0, 0], stk := [0, 0, 400] }]
     440 ≤ hottest ((r.getD 0 {}).die.map (·.toNat)) ∧ 400 ≤ hottest ((r.getD 0 {}).stk.map (·.toNat))) ∧
    (let s := svc.updBed 7 (fun x => { x with dieG := 400 })
     s.warnDie ≤ (s.bed 7).dieG) ∧ ((svc.bed 0).dieG + 12 ≤ svc.warnDie ∧ (svc.bed 0).stkG + 12 ≤ svc.warnStk) ∧
    (let s := svc.updBed 7 (fun x => { x with dieG := 389 })
     ¬(s.warnDie ≤ (s.bed 7).dieG ∨ s.warnStk ≤ (s.bed 7).stkG) ∧ ¬((s.bed 7).dieG + 12 ≤ s.warnDie)) ∧
    (let s : State := { (at_ 1000000 svc) with sl := { vrAt := [(8, 1), (9, 2)] } }
     (sget s.sl.vrAt 8 0 ≠ 0 ∧ 1000000 ≤ dt (sget s.sl.vrAt 8 0 - 1) s.now) ∧
       (sget s.sl.vrAt 9 0 ≠ 0 ∧ dt (sget s.sl.vrAt 9 0 - 1) s.now < 1000000)) ∧
    svc.mode.tripped = false ∧ (svc.img.inForce = true ∧ svc.vrAddr 0 = 0 ∧ (∀ b, b < 8 → svc.vrAddr b ≠ 8)) ∧
    (svc.alertLow = false ∧ { svc with err := { vec := 2 } }.alertLow = true ∧ { svc with sl := { disc := true } }.faultLow = true) := by
  decide +kernel

def resting (k : Nat) (s : State) : State := s.updBed 0 (fun x => { x with rest := k })

theorem test_w_RestAndPowerDownResults :
    ((at_ (2 ^ 40) (svc.setReg (bedOff 0 0xE00) 1)).mayRest 0 = true ∧ (svc.bed 0).rest = 0) ∧
    (((resting 1 svc).bed 0).rest = 1 ∧ 100 ≤ dt 0 (at_ 100 svc).now) ∧
    (((resting 3 (inMode .test)).bed 0).rest = 3 ∧ 2000 ≤ dt 0 (at_ 2000 svc).now ∧ (resting 3 (inMode .test)).homeOpen = false ∧
      (resting 3 svc).homeOpen = true) ∧
    ((svc.rv 0x200A0).testBit 7 = false ∧ svc.mpNamed 7 = false ∧ (svc.mp 7).ioDone = true) ∧
    ((svc.setReg 0x2010 1).mpNamed 0 = true) ∧
    ((svc.updMp 0 (fun x => { x with down := true })).mp 0).down = true ∧
    ((svc.setReg 0x200A0 0x400).rv 0x200A0).testBit 10 = true ∧ svc.mode.tripped = false ∧
    (let s : State := { svc with ru := { latOwn := [(7, 8), (8, 1)] } }
     (sget s.ru.latOwn 7 0 ≠ 0 ∧ sameOwner (sget s.ru.latOwn 7 0 - 1) 7 = true) ∧ sameOwner (sget s.ru.latOwn 8 0 - 1) 7 = false ∧
       sget s.ru.latOwn 9 0 = 0) := by decide +kernel

theorem test_w_RegisterAccessResults :
    (headed.reaches 0 = true ∧ svc.reaches 1 = true ∧ svc.reaches 0 = false) ∧
    ((regAt 0x310).isSome = true ∧ headed.regOpen 0x310 = true ∧ 0x310 ≠ mbxOff 0 0xC0) ∧
    (((regAt 0x2000).map (fun r => decide (r.row.lock ≠ 0))) = some true ∧ { headed with ru := { lock := true } }.ru.lock = true) ∧
    ((regAt 0x314).isSome = true ∧ 0x314 % 8 ≠ 0) ∧
    { headed with mode := { headed.mode with cur := .test, bist := [4] } }.regOpen (panOff 0 0x800) = false ∧
    (undefinedAt 0x60000 = true ∧ headed.regOpen 0x60000 = true ∧ undefinedAt 0x310 = false) ∧
    (headed.regOpen (0x1080000 + 8 * 0xFFFFF) = true ∧ headed.img.busy = false ∧ { headed with img := { headed.img with busy := true } }.img.busy = true) := by decide +kernel

theorem test_w_LockKeyAndParity :
    svc.reaches 1 = true ∧ svc.img.keyWritten.testBit 3 = false ∧ (keyed .service).img.keyWritten.testBit 3 = true ∧
    svc.mode.cur ≠ .blank ∧ (svc.upset 0x310 0).parityWrong = [0x310] ∧ ((svc.upset 0x310 0).upset 0x310 0).parityWrong = [] ∧
    ((regAt 0x310).map (fun r => (r.off, r.row.par, (storeMask r).testBit 0)) = some (0x310, true, true)) ∧
    ((svc.parityOk 0x310 = true ∧ (svc.upset 0x310 0).parityOk 0x310 = false) ∧ svc.ru.parityBad.contains 0x310 = false ∧
      svc.regOpen 0x310 = true) := by
  decide +kernel

theorem test_w_MailboxAndLatches :
    (mbxOwner 4 7 = true ∧ mbxOwner 0 1 = true ∧ mbxOwner 4 6 = false ∧ mbxMay 4 3 = true ∧ mbxMay 0 6 = true ∧ mbxMay 4 2 = false ∧
      svc.mbxHas 4 = false ∧ { svc with ru := { mbxValid := 31 } }.mbxHas 4 = true) ∧
    (let s : State := { (svc.setReg (mbxOff 0 0) 1) with err := { log := [[5], [6]] } }
     s.mbxSrc 0 = 1 ∧ s.mbxHas 0 = false ∧ s.err.log = [5] :: [[6]]) ∧
    (let s := fun q : Nat => ({ (svc.setReg (mbxOff 1 0) 1) with err := { newest := some [5], seq := 6 }, ru := { mbxSeq := [(1, q)] } } : State)
     (s 0).mbxSrc 1 = 1 ∧ (s 0).mbxNewest 1 = (6, some (5, [5])) ∧
       (let since := fun v : Nat => (v + 2 ^ 32 - sget (s 5).ru.mbxSeq 1 0 % 2 ^ 32) % 2 ^ 32
        since 5 < since 6) ∧
       (let since := fun v : Nat => (v + 2 ^ 32 - sget (s 6).ru.mbxSeq 1 0 % 2 ^ 32) % 2 ^ 32
        since 6 ≤ since 5)) ∧
    (mbxReader 4 0 = true ∧ mbxReader 4 7 = true ∧ mbxReader 4 6 = false) ∧
    (let s : State := { headed with ru := { latOwn := [(0, 1), (1, 5), (63, 2)] } }
     sget s.ru.latOwn 2 0 = 0 ∧ sget s.ru.latOwn 1 0 ≠ 0 ∧ sameOwner (sget s.ru.latOwn 1 0 - 1) 4 = true ∧
       sameOwner (sget s.ru.latOwn 1 0 - 1) 5 = false ∧ sameOwner (sget s.ru.latOwn 63 0 - 1) 0 = true ∧ s.mode.head = true) := by
  decide +kernel

theorem test_w_RegisterViolationLog :
    (List.replicate 16 ([] : List (BitVec 64))).length ≤ 16 ∧ (List.replicate 15 ([] : List (BitVec 64))).length < 16 ∧
    (let s : State := { (svc.setReg (mbxOff 0 0) 6) with ru := { vlog := [[1, 2, 3, 4]] } }
     s.alive = true ∧ s.mbxHas 0 = false ∧ s.mbxSrc 0 = 6 ∧ s.ru.vlog = [1, 2, 3, 4] :: []) := by decide +kernel

theorem test_w_StepTakesFrontCommand : State.reset.pending = [] := by decide +kernel

theorem test_w_InstantSchedule : schedule 7 7 = .due ∧ schedule 7 (7 + 2 ^ 62) = .pending ∧ schedule 7 (8 + 2 ^ 62) = .refused ∧
    schedule 7 (6 + 2 ^ 63) = .refused ∧ schedule 7 (7 + 2 ^ 63) = .past ∧ schedule (2 ^ 64 - 1) 0 = .pending ∧
    reached 0 (2 ^ 64 - 1) = true ∧ reached (2 ^ 64 - 1) 0 = false := by decide +kernel

/-- Records of the error log and of the posted-fault log. -/
def corrRec : List (BitVec 64) := [0, 0, 0, 0]
def hardRec : List (BitVec 64) := [0x2000000000000000, 0, 0, 0]

theorem test_w_ErrorAndFaultLogs :
    (recClass corrRec = 0 ∧ recClass hardRec = 2 ∧ [hardRec].any (fun x => recClass x == 0) = false) ∧
    (4096 ≤ (List.replicate 4096 hardRec).length ∧ (List.replicate 4095 hardRec).length < 4096) ∧
    (pfSeen [4] = true ∧ pfSeen [8] = false ∧ pfDev [8] = true ∧ pfDev [4] = false ∧ pfOrig [0x10] = 1) ∧
    (1024 ≤ (List.replicate 1024 [(0 : BitVec 64)]).length ∧ (List.replicate 1024 [(0 : BitVec 64)]).any pfSeen = false ∧
      (List.replicate 1024 [(0 : BitVec 64)]).any pfDev = false) ∧
    (let e : ErrUnit := { pf := [[0x20], [0x10]] }
     sget e.marks 1 0 = 0 ∧ e.pf = [[0x20]] ++ [0x10] :: [] ∧
       [[(0x20 : BitVec 64)]].any (fun x => pfOrig x == 1 && !pfDev x && !pfSeen x) = false ∧ (∀ w ∈ e.pf, w ≠ [])) := by decide +kernel

/-- The registers of a bounded field, of a core's own, and of none; a store 999 ns, and 1,000 ns, after the last. -/
theorem test_w_PolicyStores :
    (∀ x ∈ [(panOff 63 0x408, RegName.PAN_QUOTA), (panOff 63 0x420, .PAN_BYPASS), (panOff 63 0x428, .PAN_PREFETCH), (bedOff 7 0xC80, .BED_RAKE_CTL),
      (0x20078, .SL_BED_REQ), (panOff 63 0x410, .PAN_QUOTA_CTL)],
      (regAt x.1).map (fun r => (r.row.name, (svc.bounded r 5).isSome)) = some (x.2, true) ∧ x.1 % 8 = 0) ∧
    ((regAt (smOff 2 0x28)).map (fun r => (coreMay 2 r, coreMay 1 r, (svc.bounded r 5).isNone)) = some (true, false, true)) ∧
    (let s : State := { at_ 1999 svc with ru := { polAt := [(panOff 0 0x408, 1001)] } }
     s.tooSoon (panOff 0 0x408) 1 = true ∧ (at_ 2000 s).tooSoon (panOff 0 0x408) 1 = false ∧ svc.tooSoon (panOff 0 0x408) 1 = false) ∧
    ((inMode .recover).mode.cur = .recover ∧ svc.mode.cur ≠ .recover) ∧
    (clampTo 3 5 3 = 3 ∧ clampTo 3 5 2 = 3 ∧ clampTo 3 5 6 = 5) ∧
    ((List.replicate 511 ([] : List (BitVec 64))).length < 512 ∧ 512 ≤ (List.replicate 512 ([] : List (BitVec 64))).length ∧
      (List.replicate 255 ([] : List (BitVec 64))).length = 255) := by decide +kernel

/-- R366: a store of 15 to a bed's request under the bounds 2 to 9 writes 9. -/
theorem test_policy_clamp :
    (let s : State := { svc with img := { svc.img with pol := [(5, 0x9999999922222222)] } }
     ((s.coreStore 0 0x20040 15).rv 0x20040, (s.coreStore 0 0x20040 0).rv 0x20040, (s.coreStore 0 0x20040 4).rv 0x20040) = (9, 2, 4)) := by
  decide +kernel

theorem test_w_KeySetInvariant : (State.reset.img.keySet = true ↔ State.reset.img.keyWritten = 15) ∧
    ((keyed .blank).img.keySet = true ↔ (keyed .blank).img.keyWritten = 15) ∧
    (match step State.reset with | .next _ => true | _ => false) = true := by decide +kernel

theorem test_w_EveryStepGoesOn : (State.reset.img.keySet = true ↔ State.reset.img.keyWritten = 15) := by decide +kernel

theorem test_w_StrapsSampledAtReset : gives .pwrGoodLow State.reset (fun t => t.mode.devid == 0) = true ∧
    Instr.pwrGoodLow ≠ .powerOn ∧ Instr.pwrGoodLow ≠ .powerOff := by decide +kernel
end
end Sys2Proof.Tests
end

section
/-! SUPPORT. The course of an instruction that stands at its place (R336, R340, R374), and what CRC32C folds in (R354). -/

namespace Sys2Proof.Machine

/-- At an instruction's place only an ill-formed word stops it before it executes. -/
theorem State.before_of_fits {s : State} {e : Nat} {i : Ins} (h : s.fits e i.xfer i.noSlot) :
    s.before e i = if i.legal then none else some (1, i.word) := by
  obtain ⟨_, _, _, hlimit, hzone, hue, hform, hslot⟩ := h
  unfold State.before
  simp only [if_neg hlimit, hzone, hue, hform, hslot, bne_self_eq_false, Bool.or_false, Bool.not_eq_true',
    Bool.false_eq_true, if_false]
  cases i.legal <;> rfl

/-- An ill-formed instruction at its place raises ILLEGAL with its word. -/
theorem State.runIns_of_illegal {s : State} {e : Nat} {i : Ins} (body : State → Done)
    (h : s.fits e i.xfer i.noSlot) (hl : i.legal = false) : s.runIns e i body = s.exc e 1 i.word := by
  have hb := State.before_of_fits h
  obtain ⟨halive, hruns, hwait, _⟩ := h
  simp [State.runIns, hb, hl, halive, hruns, hwait]

/-- A computation at its place writes its register, moves on, and retires. -/
theorem State.runG_of_fits {s : State} {e : Nat} {i : Ins} (rd : BitVec 5) (f : State → BitVec 64)
    (h : s.fits e i.xfer i.noSlot) (hl : i.legal = true) :
    s.runG e i rd f =
      ((s.setG e rd (f s)).updEng e (fun y => y.complete (s.eng e).hact)).retire e (s.eng e).mode i false := by
  have hb := State.before_of_fits h
  obtain ⟨halive, hruns, hwait, _⟩ := h
  simp [State.runG, State.runIns, hb, hl, halive, hruns, hwait]

/-- Retirement changes the engine that retires and, for a core, the count of its instructions. -/
theorem State.retire_onlyEngine {s u : State} {e : Nat} (i : Ins) (hold : Bool)
    (hu : u = { s with engines := u.engines }) (hk : ∀ k, k ≠ e → u.eng k = s.eng k) :
    s.onlyEngine (u.retire e (s.eng e).mode i hold) e ((u.eng e).closed (s.eng e) i.step hold) := by
  unfold State.retire
  by_cases he : e < 64
  · rw [if_pos he]
    refine ⟨?_, State.eng_updEng .., fun k hne => (State.eng_updEng_ne _ _ hne).trans (hk k hne)⟩
    rw [if_pos he, State.updEng, State.setEng, hu]
  · rw [if_neg he]
    refine ⟨?_, by rw [State.count_eng, State.eng_updEng]; rfl,
      fun k hne => by rw [State.count_eng, State.eng_updEng_ne _ _ hne, hk k hne]⟩
    rw [if_neg he, State.updEng, State.setEng, hu]
    unfold State.count
    dsimp only
    split <;> rfl

/-- A computation at its place writes its value to rd and does nothing else (R331 to R333, R354). -/
theorem State.runG_onlyEngine {s : State} {e : Nat} {i : Ins} (rd : BitVec 5) (f : State → BitVec 64)
    (h : s.fits e i.xfer i.noSlot) (hl : i.legal = true) :
    s.onlyEngine (s.runG e i rd f) e (((s.eng e).setG rd.toNat (f s)).done (s.eng e) i.step false) := by
  rw [State.runG_of_fits rd f h hl]
  have hdone := State.retire_onlyEngine (s := s) (e := e)
    (u := (s.setG e rd (f s)).updEng e (fun y => y.complete (s.eng e).hact)) i false rfl
    (fun k hne => by rw [State.eng_updEng_ne _ _ hne, State.setG, State.eng_updEng_ne _ _ hne])
  rwa [State.eng_updEng, State.setG, State.eng_updEng] at hdone

/-- A byte is taken least significant bit first: eight shifts, each folding in the reflected polynomial where a one falls out. -/
theorem crc32cRun_byte (c b : Nat) (hb : b < 256) : crc32cRun c [b] =
    (List.range 8).foldl (fun x _ => if x % 2 = 1 then (x / 2) ^^^ 0x82F63B78 else x / 2) (c ^^^ b) := by
  change crc32cByte c b = _
  rw [crc32cByte, Nat.mod_eq_of_lt hb]
  rfl

/-- The check value of CRC-32C, complemented: the accumulator after the digits 1 to 9. -/
theorem crc32cRun_digits : crc32cRun 0xFFFFFFFF [0x31, 0x32, 0x33, 0x34, 0x35, 0x36, 0x37, 0x38, 0x39] = 0xFFFFFFFF - 0xE3069283 := by
  decide +kernel

/-- Settles O5: the computation's course gives the register; the accumulator's laws are those of a fold over bytes. -/
theorem muziaCrcAccumulator : Obligations.MuziaCrcAccumulator := by
  unfold Obligations.MuziaCrcAccumulator
  refine ⟨?writes, ?illegal, crc32cRun_digits, crc32cRun_byte, fun c => rfl, fun c x y => List.foldl_append⟩
  case writes =>
    intro e a s hfits hu
    exact ⟨_, rfl, State.runG_onlyEngine (i := { word := wordR 4 a.rd a.rs a.rt (a.u.toNat * 4 + a.sz.toNat), legal := a.u == 0 })
      a.rd _ hfits (beq_iff_eq.mpr hu)⟩
  case illegal =>
    intro e a s hfits hu
    exact ⟨_, rfl, State.runIns_of_illegal _ hfits (beq_eq_false_iff_ne.mpr hu)⟩

end Sys2Proof.Machine
end

section
/-! SUPPORT. What a record, its vectors and the entry to HOLD leave of an engine: everything but the edges that are pending at a
core (R161, R360, R383, R429), and what a double fault leaves (R361). -/

namespace Sys2Proof.Machine

/-- A fold whose steps keep a part of the state keeps it. -/
theorem foldl_keeps {σ α β : Type} (p : σ → β) (g : σ → α → σ) (h : ∀ t a, p (g t a) = p t) (l : List α) (t : σ) :
    p (l.foldl g t) = p t := by
  induction l generalizing t with
  | nil => rfl
  | cons a l ih => exact (ih (g t a)).trans (h t a)

/-! ### Operations that touch no engine -/

@[simp] theorem State.setArb_engines (s : State) (a : ArbId) (x : Arb) : (s.setArb a x).engines = s.engines := rfl

@[simp] theorem State.award_engines (s : State) (a : ArbId) (l : List Asker) (w : Asker) :
    (s.award a l w).engines = s.engines := by
  unfold State.award
  dsimp only
  split <;> simp only [State.count_engines, State.setArb_engines]

@[simp] theorem State.kwrite_engines (s : State) (l : Nat) (e : KEgress) : (s.kwrite l e).engines = s.engines := by
  unfold State.kwrite
  dsimp only
  split
  · rfl
  · split
    · rw [State.grant1, State.award_engines]; rfl
    · rfl

@[simp] theorem State.pushMgmt_engines (s : State) (m : Mgmt) : (s.pushMgmt m).2.engines = s.engines := by
  unfold State.pushMgmt
  dsimp only
  split
  · exact State.kwrite_engines ..
  · rfl

@[simp] theorem State.vecMsg_engines (s : State) (v : Nat) : (s.vecMsg v).2.engines = s.engines := by
  unfold State.vecMsg
  split
  · exact State.count_engines ..
  · split
    · rfl
    · exact State.pushMgmt_engines ..

@[simp] theorem State.raiseVecs_engines (s : State) (vs : List Nat) : (s.raiseVecs vs).2.engines = s.engines := by
  unfold State.raiseVecs
  refine foldl_keeps (fun acc : Nat × State => acc.2.engines) _ (fun acc v => ?_) _ _
  dsimp only
  split
  · exact State.vecMsg_engines ..
  · exact (State.count_engines ..).trans (State.vecMsg_engines ..)

@[simp] theorem State.raiseBg_engines (s : State) (p typ : Nat) : (s.raiseBg p typ).engines = s.engines := by
  unfold State.raiseBg
  dsimp only
  split
  · rfl
  · exact State.count_engines ..

theorem forUpTo_engines (n : Nat) (f : Nat → State → State) (s : State) (h : ∀ k t, (f k t).engines = t.engines) :
    (forUpTo n f s).engines = s.engines :=
  foldl_keeps State.engines _ (fun t k => h k t) _ _

@[simp] theorem State.startFlush_engines (s : State) : s.startFlush.engines = s.engines := by
  refine forUpTo_engines _ _ _ (fun p t => ?_)
  split
  · rw [State.raiseBg_engines, State.combFlush, State.updPan_engines, State.updPan_engines]
  · rfl

@[simp] theorem State.setDataEn_engines (s : State) (v : Bool) : (s.setDataEn v).engines = s.engines :=
  forUpTo_engines _ _ _ (fun _ _ => State.updPan_engines ..)

@[simp] theorem State.restExits_engines (s : State) : s.restExits.engines = s.engines := by
  refine forUpTo_engines _ _ _ (fun b t => ?_)
  dsimp only
  split
  · exact State.setBed_engines ..
  · split
    · exact State.setBed_engines ..
    · rfl

@[simp] theorem State.checkRing_engines (s : State) : s.checkRing.engines = s.engines := by
  unfold State.checkRing
  split <;> rfl

/-- Of what entry into a mode does, the record of the change alone reaches the engines (R426). -/
theorem State.enterMode_engines (s : State) (m : Mode) : (s.enterMode m).engines = (s.modeRec m).engines := by
  have hflush : ∀ t : State, (forUpTo 64 (fun p t => t.combFlush p) t).engines = t.engines :=
    fun t => forUpTo_engines _ _ t (fun _ _ => State.updPan_engines ..)
  have hrake : ∀ t : State, (forUpTo 8 (fun b t =>
      if (t.bed b).rakeT0.isNone then t.updBed b (fun x => { x with rakeT0 := some t.now }) else t) t).engines = t.engines := by
    refine fun t => forUpTo_engines _ _ t (fun b t => ?_)
    split
    · exact State.updBed_engines ..
    · rfl
  simp only [State.enterMode, apply_ite State.engines, State.restExits_engines, hrake, State.checkRing_engines, hflush,
    State.setDataEn_engines, ite_self]

/-! ### Operations that touch an engine's pending edges alone -/

/-- Engine k but for its pending edges, which every record sets at the cores (R383). -/
def State.engBut (s : State) (k : Nat) : Engine := { s.eng k with ipend := 0 }

theorem State.engBut_of_engines {s t : State} (h : t.engines = s.engines) (k : Nat) : t.engBut k = s.engBut k := by
  rw [State.engBut, State.engBut, State.eng, State.eng, h]

/-- An engine whose rest is known is known but for its pending edges. -/
theorem State.eng_eq_of_engBut {t : State} {k : Nat} {x : Engine} (h : t.engBut k = { x with ipend := 0 }) :
    t.eng k = { x with ipend := (t.eng k).ipend } :=
  congrArg (fun y : Engine => { y with ipend := (t.eng k).ipend }) h

/-- Pending edges are no part of what is kept. -/
theorem State.engBut_updEng_ipend (s : State) (c k : Nat) (f : Engine → Nat) :
    (s.updEng c (fun x => { x with ipend := f x })).engBut k = s.engBut k := by
  by_cases h : k = c
  · subst h; simp [State.engBut]
  · simp [State.engBut, State.eng_updEng_ne _ _ h]

@[simp] theorem State.coreEdge_engBut (s : State) (bit k : Nat) : (s.coreEdge bit).engBut k = s.engBut k := by
  refine foldl_keeps (fun t : State => t.engBut k) _ (fun t c => ?_) _ s
  split
  · rfl
  · exact State.engBut_updEng_ipend ..

@[simp] theorem State.logCore_engBut (s : State) (i : ErrInfo) (k : Nat) : (s.logCore i).2.engBut k = s.engBut k := by
  unfold State.logCore
  dsimp only
  rw [State.engBut_of_engines (State.raiseVecs_engines ..)]
  split
  · rw [State.coreEdge_engBut]
    exact State.engBut_of_engines (by simp) k
  · exact State.engBut_of_engines (by simp) k

@[simp] theorem State.logRaw_engBut (s : State) (i : ErrInfo) (k : Nat) : (s.logRaw i).engBut k = s.engBut k := by
  unfold State.logRaw
  dsimp only
  split
  · exact (State.logCore_engBut ..).trans (State.logCore_engBut s i k)
  · exact State.logCore_engBut s i k

@[simp] theorem State.fatalHold_engBut (s : State) (k : Nat) : s.fatalHold.engBut k = s.engBut k := by
  unfold State.fatalHold
  split
  · rfl
  · split
    · exact State.engBut_of_engines (State.startFlush_engines _) k
    · rw [State.engBut_of_engines (State.enterMode_engines s .hold)]
      exact State.logRaw_engBut _ _ k

/-- A record leaves every engine but its pending edges, a fatal one too. -/
@[simp] theorem State.logD_engBut (s : State) (unit cls code detail k : Nat) :
    (s.logD unit cls code detail).engBut k = s.engBut k := by
  unfold State.logD State.logErr
  dsimp only
  split
  · rw [State.fatalHold_engBut, State.logRaw_engBut]
  · rw [State.logRaw_engBut]

@[simp] theorem State.raise_engBut (s : State) (vs : List Nat) (k : Nat) : (s.raise vs).engBut k = s.engBut k :=
  State.engBut_of_engines (State.raiseVecs_engines s vs) k

@[simp] theorem State.ueRecord_engBut (s : State) (e a k : Nat) : (s.ueRecord e a).engBut k = s.engBut k :=
  State.logD_engBut ..

@[simp] theorem State.stepNoted_engBut (s : State) (e k : Nat) : (s.stepNoted e).engBut k = s.engBut k := by
  rw [State.stepNoted, State.logD_engBut]
  exact State.engBut_of_engines (State.count_engines ..) k

/-! ### The double fault (R361, R377, R386) -/

/-- An engine after an exception that came while its HACT was 1: it halts, a core's halt shows EPC and the code, and
everything else is kept (R361, R386). -/
def Engine.doubleFaulted (x : Engine) (e : Nat) : Engine :=
  { x with
    halted := true
    haltEpc := if e < 64 then x.haltEpc else x.epc
    haltCode := if e < 64 then x.haltCode else x.ecause.toNat % 256 }

theorem State.doubleFault_of_pan {e : Nat} (s : State) (he : e < 64) :
    s.doubleFault e = s.engHalt e ((s.eng e).ecause.toNat % 256) 0 :=
  if_pos he

/-- The engine that a double fault leaves, but for its pending edges. -/
theorem State.doubleFault_engBut (s : State) (e : Nat) : (s.doubleFault e).engBut e = (s.engBut e).doubleFaulted e := by
  by_cases he : e < 64
  · rw [State.doubleFault_of_pan s he, State.engHalt, State.logD_engBut]
    simp [State.engBut, Engine.doubleFaulted, he]
  · rw [State.doubleFault, if_neg he, State.raise_engBut, State.logD_engBut]
    simp [State.engBut, Engine.doubleFaulted, he]

/-- s with the record that an exception leaves beside it: MEM_UE that of the word, STEP_LIMIT that of the step (R244, R374). -/
def State.excNoted (s : State) (e code eval : Nat) : State :=
  if code = 0x0B then s.ueRecord e eval else if code = 0x0E then s.stepNoted e else s

theorem State.excNoted_engBut (s : State) (e code eval k : Nat) : (s.excNoted e code eval).engBut k = s.engBut k := by
  simp only [State.excNoted, apply_ite (State.engBut · k), State.ueRecord_engBut, State.stepNoted_engBut, ite_self]

/-- While HACT is 1 an exception is its record and a double fault (R361). -/
theorem State.exc_of_hact {s : State} {e : Nat} (code eval : Nat) (h : (s.eng e).hact = true) :
    s.exc e code eval = (s.excNoted e code eval).doubleFault e := by
  have hue : ((s.ueRecord e eval).eng e).hact = true := by
    rw [State.eng_eq_of_engBut (State.ueRecord_engBut s e eval e)]
    exact h
  by_cases hcode : code = 0x0B
  · subst hcode
    simp [State.exc, State.excNoted, hue]
  · simp [State.exc, State.excNoted, hcode, h]

/-- The engine that an exception leaves while HACT is 1: edges may have come in with the records, nothing else has changed
but the halt (R361, R386). -/
theorem State.exc_eng_of_hact {s : State} {e : Nat} (code eval : Nat) (h : (s.eng e).hact = true) :
    ∃ p, (s.exc e code eval).eng e = { (s.eng e).doubleFaulted e with ipend := p } := by
  have hbut : (s.exc e code eval).engBut e = (s.engBut e).doubleFaulted e := by
    rw [State.exc_of_hact code eval h, State.doubleFault_engBut, State.excNoted_engBut]
  exact ⟨_, State.eng_eq_of_engBut hbut⟩

/-- Settles O12: the engine is the one before it, halted; the edges that its records set are no part of the statement. -/
theorem muziaDoubleFault : Obligations.MuziaDoubleFault := by
  unfold Obligations.MuziaDoubleFault
  intro s e code eval _ hact
  obtain ⟨p, hend⟩ := State.exc_eng_of_hact code eval hact
  dsimp only
  rw [hend]
  refine ⟨rfl, rfl, rfl, rfl, rfl, rfl, rfl, rfl, rfl, rfl, fun hcore => ?core, fun hpan => ?pan⟩
  case core => exact ⟨if_neg (Nat.not_lt.mpr hcore), if_neg (Nat.not_lt.mpr hcore)⟩
  case pan =>
    have hcause : ((s.excNoted e code eval).eng e).ecause = (s.eng e).ecause := by
      rw [State.eng_eq_of_engBut (State.excNoted_engBut s e code eval e)]
    rw [State.exc_of_hact code eval hact, State.doubleFault_of_pan _ hpan, hcause, State.excNoted]

end Sys2Proof.Machine
end

section
/-! SUPPORT. The register-violation log (R466, R467), and a record copied into a mailbox (R469). -/

namespace Sys2Proof.Machine

/-! ### A violation's record -/

@[simp] theorem State.raise_ru (s : State) (vs : List Nat) : (s.raise vs).ru = s.ru :=
  congrArg Still.ru (State.raiseVecs_still s vs)

/-- The four words of the record that a violation writes (R467). -/
def State.violationRec (s : State) (w kind off data : Nat) : List (BitVec 64) :=
  [BitVec.ofNat 64 (s.ru.vseq % 2 ^ 32 * 2 ^ 32 + w % 256 * 2 ^ 24 + kind * 2 ^ 22), BitVec.ofNat 64 s.now,
    BitVec.ofNat 64 (off % 2 ^ 26), BitVec.ofNat 64 data]

/-- A violation changes four parts of the register unit; its vector changes none (R467). -/
theorem State.violation_ru (s : State) (w kind off data : Nat) :
    (s.violation w kind off data).ru = { s.ru with
      viol := true
      vseq := (s.ru.vseq + 1) % 2 ^ 32
      vlog := (if 16 ≤ s.ru.vlog.length then s.ru.vlog.tail else s.ru.vlog) ++ [s.violationRec w kind off data]
      vlogOvf := s.ru.vlogOvf || decide (16 ≤ s.ru.vlog.length) } := by
  simp [State.violation, State.violationRec]

/-- A log with room takes the record as its newest. -/
theorem State.violation_vlog_of_room {s : State} (w kind off data : Nat) (h : s.ru.vlog.length < 16) :
    (s.violation w kind off data).ru.vlog = s.ru.vlog ++ [s.violationRec w kind off data] ∧
      (s.violation w kind off data).ru.vlogOvf = s.ru.vlogOvf := by
  simp [State.violation_ru, Nat.not_le.mpr h]

/-- In a full log the record takes the place of the oldest, and VLOG_OVF is set. -/
theorem State.violation_vlog_of_full {s : State} (w kind off data : Nat) (h : 16 ≤ s.ru.vlog.length) :
    (s.violation w kind off data).ru.vlog = s.ru.vlog.tail ++ [s.violationRec w kind off data] ∧
      (s.violation w kind off data).ru.vlogOvf = true := by
  simp [State.violation_ru, h]

/-- The log never grows past its 16 records. -/
theorem State.violation_vlog_length_le {s : State} (w kind off data : Nat) (h : s.ru.vlog.length ≤ 16) :
    (s.violation w kind off data).ru.vlog.length ≤ 16 := by
  rcases Nat.lt_or_ge s.ru.vlog.length 16 with hroom | hfull
  · rw [(State.violation_vlog_of_room w kind off data hroom).1, List.length_append, List.length_singleton]
    omega
  · rw [(State.violation_vlog_of_full w kind off data hfull).1, List.length_append, List.length_singleton, List.length_tail]
    omega

/-! ### A record copied into a mailbox -/

/-- Writes of distinct registers one after another: each reads its own value. -/
theorem forUpTo_setReg_rv {o : Nat → Nat} (ho : Function.Injective o) (v : Nat → Nat) (s : State) {n k : Nat} (hk : k < n) :
    (forUpTo n (fun j t => t.setReg (o j) (v j)) s).rv (o k) = v k % 2 ^ 64 := by
  induction n with
  | zero => exact absurd hk (Nat.not_lt_zero k)
  | succ n ih =>
    simp only [forUpTo, List.range_succ, List.foldl_append, List.foldl_cons, List.foldl_nil] at ih ⊢
    by_cases hlast : k = n
    · rw [hlast, State.rv_setReg]
    · rw [State.rv_setReg_ne _ _ (ho.ne hlast)]
      exact ih (by omega)

theorem forUpTo_setReg_ru (o v : Nat → Nat) (n : Nat) (s : State) :
    (forUpTo n (fun j t => t.setReg (o j) (v j)) s).ru = s.ru :=
  foldl_keeps State.ru (fun t j => t.setReg (o j) (v j)) (fun t j => State.setReg_ru t (o j) (v j)) (List.range n) s

theorem putBit_testBit_same (v i : Nat) (b : Bool) : (putBit v i b).testBit i = b := by
  rw [putBit, setBits_testBit _ _ _ _ _ (Nat.le_succ i), if_pos ⟨Nat.le_refl i, Nat.le_refl i⟩, Nat.sub_self]
  cases b <;> rfl

/-- The data words of a mailbox have registers of their own. -/
theorem mbxData_injective (m : Nat) : Function.Injective (fun k => mbxOff m (0x40 + 8 * k)) := by
  intro j k h
  simp only [mbxOff] at h
  omega

theorem State.rv_withRu (s : State) (r : RegUnit) (o : Nat) : ({ s with ru := r } : State).rv o = s.rv o := rfl

/-- A data word of a mailbox after a copy is the record's word, and zero beyond the record's length (R469). -/
theorem State.mbxPut_data (s : State) (m : Nat) (w : List (BitVec 64)) {k : Nat} (hk : k < 8) :
    (s.mbxPut m w).rv (mbxOff m (0x40 + 8 * k)) = (w.getD k 0).toNat := by
  rw [State.mbxPut, State.rv_withRu, forUpTo_setReg_rv (mbxData_injective m) (fun j => (w.getD j 0).toNat) s hk]
  exact Nat.mod_eq_of_lt (w.getD k 0).isLt

@[simp] theorem State.mbxPut_mbxHas (s : State) (m : Nat) (w : List (BitVec 64)) : (s.mbxPut m w).mbxHas m = true := by
  rw [State.mbxPut, State.mbxHas, putBit_testBit_same]

@[simp] theorem State.mbxPut_vlog (s : State) (m : Nat) (w : List (BitVec 64)) : (s.mbxPut m w).ru.vlog = s.ru.vlog := by
  rw [State.mbxPut, forUpTo_setReg_ru (fun k => mbxOff m (0x40 + 8 * k)) (fun k => (w.getD k 0).toNat)]

/-- With the violation log selected, an empty host mailbox takes the oldest record out of it (R469). -/
theorem State.mbxFill_of_vlog {s : State} {x : List (BitVec 64)} {rest : List (List (BitVec 64))} (hempty : s.mbxHas 0 = false)
    (hsrc : s.mbxSrc 0 = 6) (hlog : s.ru.vlog = x :: rest) :
    s.mbxFill 0 = ({ s with ru := { s.ru with vlog := rest } } : State).mbxPut 0 x := by
  simp [State.mbxFill, State.mbxFill0, hempty, hsrc, hlog]

/-- MBX_FILL while the device is powered fills the mailbox. -/
theorem exec_mbxFill_of_alive {s : State} (m : Fin 5) (h : s.alive = true) : exec (.mbxFill m) s = .next (s.mbxFill m) :=
  congrArg Host.Outcome.next (if_pos h)

/-- Settles O52: a violation is its four changes of the register unit; a fill is a copy of the log's head into eight registers. -/
theorem registerViolationLog : Obligations.RegisterViolationLog := by
  unfold Obligations.RegisterViolationLog
  refine ⟨fun s w kind off data => ?written, fun s x rest halive hempty hsrc hlog => ?read⟩
  case written =>
    have hru := State.violation_ru s w kind off data
    exact ⟨congrArg RegUnit.vseq hru, congrArg RegUnit.viol hru, State.violation_vlog_length_le w kind off data,
      State.violation_vlog_of_room w kind off data, State.violation_vlog_of_full w kind off data⟩
  case read =>
    refine ⟨_, exec_mbxFill_of_alive 0 halive, ?_⟩
    rw [Fin.val_zero, State.mbxFill_of_vlog hempty hsrc hlog]
    exact ⟨State.mbxPut_vlog .., State.mbxPut_mbxHas .., fun k hk => State.mbxPut_data _ 0 x hk⟩

end Sys2Proof.Machine
end
